-- ==== Sys2Proof/Word.lean ====
section
/-! DEFINITION. The number types of the manual's fields (00_scope.md, Conventions; 11_frame_and_record_layouts.md). -/

namespace Sys2Proof

/-- One byte on a link. -/
abbrev Byte := BitVec 8
/-- A two-byte field; container numbers are of this type (0 stands for "no container"). -/
abbrev Half := BitVec 16
/-- A four-byte field: pitch counts, badge numbers, meter values, thresholds. -/
abbrev Word := BitVec 32
/-- A six-byte field: uptime, hall time and expiry times, in milliseconds. -/
abbrev Time := BitVec 48
/-- A bound identity of eight bytes; the first byte sent is the most significant. -/
abbrev Identity := BitVec 64
/-- A nonce, key or proof of sixteen bytes; the first byte sent is the most significant. -/
abbrev Block := BitVec 128

/-- A character received on the host link: its byte, or none where the character has no stop bit (R181, R182). -/
abbrev Character := Option Byte

/-- A station port; port p of the manual (1 to 12) is index p − 1. -/
abbrev Port := Fin 12
/-- A product feed; feed f of the manual (1 to 4) is index f − 1. -/
abbrev Feed := Fin 4
/-- A key slot, 0 to 7. -/
abbrev Slot := Fin 8
/-- A meter, 0 to 27. -/
abbrev Meter := Fin 28

/-- The manual's number of a port or feed, counted from 1. -/
def number {n : Nat} (i : Fin n) : Nat := i.val + 1

/-- The manual's number of a port or feed as the byte a frame carries. -/
def numberByte {n : Nat} (i : Fin n) : Byte := BitVec.ofNat 8 (number i)

/-- A mark or a yes/no value as one byte (11_frame_and_record_layouts.md). -/
def markByte (b : Bool) : Byte := if b then 1 else 0

end Sys2Proof
end

