-- ==== Sys2Proof/Machine/Cipher.lean ====
section
/-! DEFINITION. The keyed function of the proof unit (R109): AES-128 encipherment of one block, and the proof value.

R109 names the AES-128 block cipher and gives no tables; the cipher below is written from general knowledge of that
standard (FIPS-197). PRESUMED, log entry 19. -/

namespace Sys2Proof.Machine

/-- The AES S-box, by rows of sixteen. -/
def sboxTable : List Byte :=
  [0x63, 0x7c, 0x77, 0x7b, 0xf2, 0x6b, 0x6f, 0xc5, 0x30, 0x01, 0x67, 0x2b, 0xfe, 0xd7, 0xab, 0x76] ++
  [0xca, 0x82, 0xc9, 0x7d, 0xfa, 0x59, 0x47, 0xf0, 0xad, 0xd4, 0xa2, 0xaf, 0x9c, 0xa4, 0x72, 0xc0] ++
  [0xb7, 0xfd, 0x93, 0x26, 0x36, 0x3f, 0xf7, 0xcc, 0x34, 0xa5, 0xe5, 0xf1, 0x71, 0xd8, 0x31, 0x15] ++
  [0x04, 0xc7, 0x23, 0xc3, 0x18, 0x96, 0x05, 0x9a, 0x07, 0x12, 0x80, 0xe2, 0xeb, 0x27, 0xb2, 0x75] ++
  [0x09, 0x83, 0x2c, 0x1a, 0x1b, 0x6e, 0x5a, 0xa0, 0x52, 0x3b, 0xd6, 0xb3, 0x29, 0xe3, 0x2f, 0x84] ++
  [0x53, 0xd1, 0x00, 0xed, 0x20, 0xfc, 0xb1, 0x5b, 0x6a, 0xcb, 0xbe, 0x39, 0x4a, 0x4c, 0x58, 0xcf] ++
  [0xd0, 0xef, 0xaa, 0xfb, 0x43, 0x4d, 0x33, 0x85, 0x45, 0xf9, 0x02, 0x7f, 0x50, 0x3c, 0x9f, 0xa8] ++
  [0x51, 0xa3, 0x40, 0x8f, 0x92, 0x9d, 0x38, 0xf5, 0xbc, 0xb6, 0xda, 0x21, 0x10, 0xff, 0xf3, 0xd2] ++
  [0xcd, 0x0c, 0x13, 0xec, 0x5f, 0x97, 0x44, 0x17, 0xc4, 0xa7, 0x7e, 0x3d, 0x64, 0x5d, 0x19, 0x73] ++
  [0x60, 0x81, 0x4f, 0xdc, 0x22, 0x2a, 0x90, 0x88, 0x46, 0xee, 0xb8, 0x14, 0xde, 0x5e, 0x0b, 0xdb] ++
  [0xe0, 0x32, 0x3a, 0x0a, 0x49, 0x06, 0x24, 0x5c, 0xc2, 0xd3, 0xac, 0x62, 0x91, 0x95, 0xe4, 0x79] ++
  [0xe7, 0xc8, 0x37, 0x6d, 0x8d, 0xd5, 0x4e, 0xa9, 0x6c, 0x56, 0xf4, 0xea, 0x65, 0x7a, 0xae, 0x08] ++
  [0xba, 0x78, 0x25, 0x2e, 0x1c, 0xa6, 0xb4, 0xc6, 0xe8, 0xdd, 0x74, 0x1f, 0x4b, 0xbd, 0x8b, 0x8a] ++
  [0x70, 0x3e, 0xb5, 0x66, 0x48, 0x03, 0xf6, 0x0e, 0x61, 0x35, 0x57, 0xb9, 0x86, 0xc1, 0x1d, 0x9e] ++
  [0xe1, 0xf8, 0x98, 0x11, 0x69, 0xd9, 0x8e, 0x94, 0x9b, 0x1e, 0x87, 0xe9, 0xce, 0x55, 0x28, 0xdf] ++
  [0x8c, 0xa1, 0x89, 0x0d, 0xbf, 0xe6, 0x42, 0x68, 0x41, 0x99, 0x2d, 0x0f, 0xb0, 0x54, 0xbb, 0x16]

/-- Substitution of one byte. -/
def sbox (b : Byte) : Byte := sboxTable.getD b.toNat 0

/-- Multiplication by x in the AES field. -/
def xtime (b : Byte) : Byte := if b.msb then (b <<< 1) ^^^ 0x1b else b <<< 1

/-- The sixteen bytes of a block, the first byte sent (the most significant) first. -/
def blockBytes (b : Block) : List Byte := (List.range 16).map fun i => (b >>> (8 * (15 - i))).setWidth 8

/-- A byte string as one number, the first byte most significant. -/
def fromBytes (l : List Byte) : Nat := l.foldl (fun n b => 256 * n + b.toNat) 0

/-- A block from its sixteen bytes. -/
def blockOf (l : List Byte) : Block := BitVec.ofNat 128 (fromBytes l)

/-- The four-byte words of the key schedule: the next round key from a round key and the round constant. -/
def nextRoundKey (rcon : Byte) (k : List Byte) : List Byte :=
  let t := [sbox (k.getD 13 0) ^^^ rcon, sbox (k.getD 14 0), sbox (k.getD 15 0), sbox (k.getD 12 0)]
  let w0 := List.zipWith (· ^^^ ·) (k.take 4) t
  let w1 := List.zipWith (· ^^^ ·) ((k.drop 4).take 4) w0
  let w2 := List.zipWith (· ^^^ ·) ((k.drop 8).take 4) w1
  let w3 := List.zipWith (· ^^^ ·) (k.drop 12) w2
  w0 ++ w1 ++ w2 ++ w3

/-- ShiftRows on the sixteen state bytes, column by column. -/
def shiftRows (l : List Byte) : List Byte :=
  [0, 5, 10, 15, 4, 9, 14, 3, 8, 13, 2, 7, 12, 1, 6, 11].map fun i => l.getD i 0

/-- MixColumns on one column. -/
def mixColumn (a b c d : Byte) : List Byte :=
  [xtime a ^^^ (xtime b ^^^ b) ^^^ c ^^^ d, a ^^^ xtime b ^^^ (xtime c ^^^ c) ^^^ d,
   a ^^^ b ^^^ xtime c ^^^ (xtime d ^^^ d), (xtime a ^^^ a) ^^^ b ^^^ c ^^^ xtime d]

/-- MixColumns on the sixteen state bytes. -/
def mixColumns (l : List Byte) : List Byte :=
  [0, 4, 8, 12].flatMap fun i => mixColumn (l.getD i 0) (l.getD (i + 1) 0) (l.getD (i + 2) 0) (l.getD (i + 3) 0)

/-- The rounds after the first key addition: one per round constant, the last without MixColumns. -/
def aesRounds : List Byte → List Byte → List Byte → List Byte
  | [], _, x => x
  | rcon :: rest, k, x =>
    let k' := nextRoundKey rcon k
    let y := shiftRows (x.map sbox)
    let y := if rest.isEmpty then y else mixColumns y
    aesRounds rest k' (List.zipWith (· ^^^ ·) y k')

/-- AES-128: the encipherment of a block under a key. -/
def aes (key x : Block) : Block :=
  let k := blockBytes key
  blockOf (aesRounds [0x01, 0x02, 0x04, 0x08, 0x10, 0x20, 0x40, 0x80, 0x1b, 0x36] k
    (List.zipWith (· ^^^ ·) (blockBytes x) k))

/-- R109: the proof value of X followed by Y under K: encipher X, combine with Y by exclusive-or, encipher again. -/
def proofValue (key x y : Block) : Block := aes key (aes key x ^^^ y)

/-- R109: a received proof is good when it is the proof value of Na followed by Nb and Nb differs from Na. -/
def goodProof (key na nb proof : Block) : Bool := proof == proofValue key na nb && nb != na

end Sys2Proof.Machine
end

