-- ==== Sys2Proof/Config.lean ====
section
/-! DEFINITION. The free values of the model (no body: nothing can be proved about what they are) and the fixed
durations and capacities the manual gives. -/

namespace Sys2Proof.Config

/-- FREE VALUE. The nonce of the n-th draw from PRV's random source (R86, R110). The manual says only that it is fresh and
sixteen bytes long. Log entry 8. -/
opaque freeNonce : Nat → Block

/-- FREE VALUE. The part identity of eight bytes, fixed at manufacture (R175) and shown by IDENTIFY (R187).
Log entry 10. -/
opaque partIdentity : Identity

/-- R38: the gate timer, ms. -/
def gateTime : Nat := 15
/-- R82: the link timer, ms. -/
def linkTime : Nat := 50
/-- R86, R110, R111: a proof timer, ms. -/
def proofTime : Nat := 500
/-- R195: the time SUPWARN must stay de-asserted after a save, ms. -/
def saveHoldTime : Nat := 10
/-- One minute in ms: bar period (R113) and session timeout (R127) are given in minutes. -/
def minute : Nat := 60000
/-- One second in ms: the checkpoint period (R162) is given in seconds. -/
def second : Nat := 1000
/-- R184: entries of the request table. -/
def tableSize : Nat := 8
/-- R183: immediate replies held. -/
def immediateSize : Nat := 8
/-- R189: notices in the queue. -/
def noticeSize : Nat := 32
/-- R176: store jobs waiting. -/
def storeSize : Nat := 8
/-- R52: entries of a claim queue, with its grant or lease and its claims in reservation. -/
def claimSize : Nat := 8
/-- R40: entries of the exit list. -/
def exitSize : Nat := 16
/-- R98: messages of a relay queue. -/
def relaySize : Nat := 4
/-- R98, R100: bytes of a relay message. -/
def relayBytes : Nat := 64
/-- R131: holds of a holder set. -/
def holdSize : Nat := 3
/-- R126: open sessions. -/
def sessionSize : Nat := 3
/-- R181: the largest payload of a host frame. -/
def payloadSize : Nat := 248
/-- R187: the product code. -/
def productCode : Nat := 1240

end Sys2Proof.Config
end

