-- ==== Sys2Proof/Syntax.lean ====
section
/-! DEFINITION. The commands of the block: one constructor per row of spec/opcode_table.json, in the table's order.

A HOST REQUEST command is one good host frame of the row's kind: it carries the TAG and the PAYLOAD bytes, and the fields
of the request are read from the payload as 11_frame_and_record_layouts.md lays them out (so a payload of a wrong length
is a command too, answered BAD-LENGTH under R183). A STATION FRAME command carries the port and the fields of 11.3; a
value field (a role, a status, a result, a feed number) is the byte as sent. HOST_FRAME_DISCARDED carries the
characters received and STATION_FRAME_DISCARDED the frame with the CRC received, so that the model finds the fault itself
(R182, R81, R199); written without them, as the table's rows are, the first is one character without a stop bit and the second
a frame of kind 06h with a wrong CRC. A JOB END carries whether the read-back matched (R176). -/

namespace Sys2Proof

/-- TRK's answer to a RESERVE (R15). -/
inductive ReserveAnswer where
  | accepted | noContainer | outOfWindow | taken
deriving DecidableEq, Repr

/-- The result a FILL END names (R19). -/
inductive EndResult where
  | short | fault | timeout | incomplete
deriving DecidableEq, Repr

inductive Instr where
  /- Host requests, PSC and the block restarts -/
  | identify (tag : Byte) (payload : List Byte)
  | status (tag : Byte) (payload : List Byte)
  | restart (tag : Byte) (payload : List Byte)
  | restartCarryOut
  | trkRestart
  | fcoRestart
  | spxRestart
  | prvRestart
  | svaRestart
  | mtuRestart
  | nvsRestart
  | mask (tag : Byte) (payload : List Byte)
  | quiet (tag : Byte) (payload : List Byte)
  | wake (tag : Byte) (payload : List Byte)
  | lineStart (tag : Byte) (payload : List Byte)
  | lineStop (tag : Byte) (payload : List Byte)
  | trackReadList (tag : Byte) (payload : List Byte)
  | trackReadRecord (tag : Byte) (payload : List Byte)
  | exitReadSummary (tag : Byte) (payload : List Byte)
  | exitReadIndex (tag : Byte) (payload : List Byte)
  | exitReadContainer (tag : Byte) (payload : List Byte)
  | exitReadNextEscape (tag : Byte) (payload : List Byte)
  | feedOpen (tag : Byte) (payload : List Byte)
  | feedClose (tag : Byte) (payload : List Byte)
  | feedRead (tag : Byte) (payload : List Byte)
  | portRead (tag : Byte) (payload : List Byte)
  | portPark (tag : Byte) (payload : List Byte)
  | portWake (tag : Byte) (payload : List Byte)
  | relay (tag : Byte) (payload : List Byte)
  | sessionRead (tag : Byte) (payload : List Byte)
  | holdList (tag : Byte) (payload : List Byte)
  | lockout (tag : Byte) (payload : List Byte)
  | release (tag : Byte) (payload : List Byte)
  | removeHold (tag : Byte) (payload : List Byte)
  | signOff (tag : Byte) (payload : List Byte)
  | sessionClose (tag : Byte) (payload : List Byte)
  | unbar (tag : Byte) (payload : List Byte)
  | timeSet (tag : Byte) (payload : List Byte)
  | timeRead (tag : Byte) (payload : List Byte)
  | meterRead (tag : Byte) (payload : List Byte)
  | meterAdd (tag : Byte) (payload : List Byte)
  | settingReadSection (tag : Byte) (payload : List Byte)
  | settingReadProtection (tag : Byte) (payload : List Byte)
  | settingWrite (tag : Byte) (payload : List Byte)
  | sectionLockSection (tag : Byte) (payload : List Byte)
  | sectionLockKeySlot (tag : Byte) (payload : List Byte)
  | locksFreeze (tag : Byte) (payload : List Byte)
  | boundarySet (tag : Byte) (payload : List Byte)
  /- Host link -/
  | unknownKind (kind tag : Byte) (payload : List Byte)
  | transmitterFrameEnd
  /- Track; `infeed` is the level of INFEED when step 5 of the pitch event samples it -/
  | encoderPulse
  | pitchEvent (infeed : Bool)
  | ignoredPitch
  | gateTimerExpiry
  | reserve (container : Half) (port : Port) (feed : Feed) (doses : Nat)
  | reserveAnswer (port : Port) (answer : ReserveAnswer)
  | clear (container : Half) (port : Port)
  | doseDone (container : Half) (port : Port) (feed : Feed)
  | fillEnd (container : Half) (port : Port) (feed : Feed) (result : EndResult)
  | windowLeft (container : Half) (port : Port) (feed : Feed)
  /- Station links -/
  | idleMarker (port : Port)
  | linkTimerExpiry (port : Port)
  | hello (port : Port) (identity : Identity) (role : Byte)
  | proof (port : Port) (nonce proof : Block)
  | proofTimerExpiry (port : Port)
  | disown (port : Port)
  | report (port : Port) (status : Byte)
  | undefinedKind (port : Port) (kind : Byte)
  | claim (port : Port) (feed : Byte) (container : Half) (doses : Byte)
  | cancel (port : Port)
  | take (port : Port) (feed : Byte)
  | doseStart (port : Port) (container : Half) (index : Byte)
  | doseEnd (port : Port) (container : Half) (index : Byte) (result : Byte)
  | takeTimerExpiry (feed : Feed)
  | holdTimerExpiry (feed : Feed)
  | verdict (port : Port) (container : Half) (result reason : Byte)
  | stationRelay (port : Port) (data : List Byte)
  /- Time, reader and sessions -/
  | secondBoundary
  | present (badge : Word)
  | readerProof (nonce proof : Block)
  | readerProofTimerExpiry
  | barTimerExpiry
  | idleTimerExpiry (session : Byte)
  /- Store -/
  | storeJobStart
  | settingJobEnd (written : Bool)
  | lockJobEnd (written : Bool)
  | freezeJobEnd (written : Bool)
  | boundaryJobEnd (written : Bool)
  | holdAddJobEnd (written : Bool)
  | holdRemoveJobEnd (written : Bool)
  | thresholdJobEnd (written : Bool)
  | failcountJobEnd (written : Bool)
  | checkpointJobEnd (written : Bool)
  | checkpointTimerExpiry
  /- Supply; `strap` is the level of BAUDSEL sampled at the beginning of START-UP, `written` whether the job in flight had
     completed in store when the supply failed -/
  | supwarnAssert
  | supwarnDeassert
  | supplyLowTimerExpiry
  | saveHoldExpiry (strap : Bool)
  | powerOn (strap : Bool)
  | powerLoss (written : Bool)
  | enterRun
  | hostFrameDiscarded (characters : List Character := [none])
  | hostIdleGap
  | stationFrameDiscarded (port : Port) (kind : Byte := 0x06) (payload : List Byte := []) (crc : Half := 0)
  | uptimeMillisecond
deriving DecidableEq, Repr

end Sys2Proof
end

