-- ==== Sys2Proof/Machine/State.lean ====
section
/-! DEFINITION. The state of the part, block by block, as plain data; the outcomes; the state after reset.

Every structure's docstring names the rule of spec/ that gives the state. Fields marked MODEL'S OWN are not the manual's;
notes/assumptions says why they are there. -/

namespace Sys2Proof.Machine

/-! ### Shared -/

/-- Hall time with its unset mark, as a stamp takes them (R150). -/
structure Stamp where
  time  : Time
  unset : Bool
deriving DecidableEq, Repr

/-- A timer on uptime (R149): stopped, or running with its expiry time. -/
abbrev Timer := Option Time

/-- What a station refusal names (04_station_ports_and_admission.md, station refusal reasons). -/
inductive Reason where
  | isolated | unbound | notAdmitted | wrongRole | feedClosed | claimOpen | taken | noContainer | outOfWindow
  | serviceDue | notReady | late | early | duplicate | unknown | sequence
deriving DecidableEq, Repr

/-! ### TRK: the container track and the gate -/

/-- R1: a fill window, first and last offset; (0, 0) is no window. -/
structure Window where
  first : Nat
  last  : Nat
deriving DecidableEq, Repr

/-- R1, R28: a camera entry. -/
structure Camera where
  offset   : Nat
  required : Bool
  bypass   : Bool
deriving DecidableEq, Repr

/-- R1: the LINE section, and the active line geometry loaded from it (R2). -/
structure Geometry where
  gate    : Nat
  divider : Nat
  windows : Vector Window 12
  cameras : Vector Camera 12
deriving DecidableEq, Repr

/-- R13: the result of a fill. -/
inductive FillResult where
  | pending | filled | short | fault | timeout | incomplete | overrun
deriving DecidableEq, Repr

/-- R13: a fill. -/
structure Fill where
  port    : Port
  feed    : Feed
  planned : Nat
  done    : Nat
  result  : FillResult
deriving DecidableEq, Repr

/-- The result of a verdict, as R30 normalises it. -/
inductive VerdictResult where
  | pass | reject | unreadable
deriving DecidableEq, Repr

/-- R31, R33: an entry of a verdict list or of a late list. -/
structure Verdict where
  port   : Port
  result : VerdictResult
  reason : Byte
  pitch  : Word
deriving DecidableEq, Repr

/-- R13: a container record. Its position is not stored (R10). -/
structure Record where
  container : Half
  entry     : Word
  fill      : Option Fill
  verdicts  : List Verdict
  crossed   : Bool
deriving DecidableEq, Repr

/-- R36: the cause set of a decision. -/
structure Causes where
  crossed    : Bool
  noFill     : Bool
  fillFailed : Bool
  unreadable : Bool
  rejected   : Bool
  missing    : Bool
deriving DecidableEq, Repr

/-- R36: a gate decision. -/
inductive Decision where
  | pass | reject
deriving DecidableEq, Repr

/-- R37: an entry of the exit list. `gateOffset` is what R200 shows in place of a position. -/
structure ExitEntry where
  record     : Record
  gateOffset : Nat
  decision   : Decision
  causes     : Causes
  pitch      : Word
  hall       : Stamp
  late       : List Verdict
  escape     : Bool
  unread     : Bool
deriving DecidableEq, Repr

/-- R3. -/
inductive LineState where
  | stopped | running
deriving DecidableEq, Repr

/-- TRK (01_the_container_track.md, 02_inspection_verdicts_and_the_reject_gate.md). `pitchesDue` and `straysDue` are
MODEL'S OWN: completed counts whose pitch event or ignored pitch has not been taken yet (log entry 9). -/
structure Trk where
  line            : LineState
  pitch           : Word
  pulses          : Nat
  pitchesDue      : Nat
  strays          : Nat
  straysDue       : Nat
  strayArmed      : Bool
  nextContainer   : Half
  track           : List Record
  exits           : List ExitEntry
  geometry        : Geometry
  geometryPending : Bool
  gate            : Bool
  gateTimer       : Timer
deriving DecidableEq, Repr

/-! ### FCO: the product feeds -/

/-- R48: the settings of a feed. -/
structure FeedCfg where
  singleDose : Bool
  takeWindow : Nat
  holdLimit  : Nat
deriving DecidableEq, Repr

/-- R52: an entry of a claim queue. -/
structure QueueEntry where
  port      : Port
  container : Half
  doses     : Nat
  remnant   : Bool
deriving DecidableEq, Repr

/-- R47: the state a feed enters when its lease ends. -/
inductive EndTarget where
  | free | closed
deriving DecidableEq, Repr

/-- R47: a lease; while the feed is GRANTED it stands for the grant. -/
structure Lease where
  port      : Port
  container : Half
  granted   : Nat
  index     : Nat
  retries   : Nat
  inFlight  : Bool
  after     : Nat
  remnant   : Bool
  timer     : Timer
  target    : EndTarget
deriving DecidableEq, Repr

/-- R47: the state of a feed. A lease is present exactly in GRANTED, HELD and DRAINING. -/
inductive FeedState where
  | closed
  | free
  | granted (lease : Lease)
  | held (lease : Lease)
  | draining (lease : Lease)
deriving DecidableEq, Repr

/-- R47, R48, R52: a feed. `closing` is the pending FEED CLOSE, with the request it answers. -/
structure FeedRec where
  state   : FeedState
  cfg     : FeedCfg
  queue   : List QueueEntry
  closing : Option Nat
deriving DecidableEq, Repr

/-- R54: what a void claim sends when its answer arrives. -/
inductive Void where
  | silent | notReady | feedClosed
deriving DecidableEq, Repr

/-- R54: a claim in reservation, with its void mark. -/
structure Claim where
  feed      : Feed
  container : Half
  doses     : Nat
  void      : Option Void
deriving DecidableEq, Repr

/-- R63: a late note. -/
inductive LateNote where
  | take (feed : Feed)
  | doseEnd (container : Half) (index : Nat)
deriving DecidableEq, Repr

/-- A fill request on its way from FCO to TRK (R15 to R19, R60). -/
inductive FillRequest where
  | reserve (container : Half) (port : Port) (feed : Feed) (doses : Nat)
  | clear (container : Half) (port : Port)
  | doseDone (container : Half) (port : Port) (feed : Feed)
  | fillEnd (container : Half) (port : Port) (feed : Feed) (result : EndResult)
deriving DecidableEq, Repr

/-- A message on its way from TRK to FCO (R21, R54). -/
inductive TrkMessage where
  | answer (port : Port) (answer : ReserveAnswer)
  | windowLeft (container : Half) (port : Port) (feed : Feed)
deriving DecidableEq, Repr

/-- FCO (03_product_feeds_and_fill_leases.md). `toTrk` and `toFco` are the messages under way between FCO and TRK. -/
structure Fco where
  feeds  : Vector FeedRec 4
  claims : Vector (Option Claim) 12
  notes  : Vector (Option LateNote) 12
  toTrk  : List FillRequest
  toFco  : List TrkMessage
deriving DecidableEq, Repr

/-! ### SPX: the station ports -/

/-- R83. -/
inductive Role where
  | unused | robot | camera
deriving DecidableEq, Repr

/-- R83: admission states. -/
inductive Admission where
  | dark | listening | known | challenged | admitted | parked | barred
deriving DecidableEq, Repr

/-- R93: a reported station status. -/
inductive Status where
  | ready | busy | homing | faulted
deriving DecidableEq, Repr

/-- R84: the binding of a port, in store and in the active copy. -/
structure PortCfg where
  role     : Role
  identity : Identity
  slot     : Slot
  wake     : Bool
deriving DecidableEq, Repr

/-- R83: an entry of the port table, with the link timer (R82), the frame search condition (R81: `hunting` while SPX waits for
an idle marker after a discarded frame) and, MODEL'S OWN, the frames sent to the station (log entry 7). The proof context is
PRV's (R110). -/
structure PortRec where
  cfg       : PortCfg
  admission : Admission
  parked    : Bool
  status    : Option Status
  link      : Bool
  linkTimer : Timer
  relay     : List (List Byte)
  hunting   : Bool
  sent      : List (List Byte)
deriving DecidableEq, Repr

/-! ### PRV: keys, proofs and attempt limits -/

/-- R110: the proof context of a port. -/
structure Context where
  nonce : Block
  key   : Block
  timer : Timer
deriving DecidableEq, Repr

/-- R111: the reader's proof context. -/
structure ReaderContext where
  nonce : Block
  key   : Block
  badge : Word
  timer : Timer
deriving DecidableEq, Repr

/-- PRV (05_keys_proofs_and_attempt_limits.md). `draws` counts the draws from the random source: MODEL'S OWN, the counter of
the free value `Config.freeNonce` (log entry 8). -/
structure Prv where
  keys          : Vector Block 8
  contexts      : Vector (Option Context) 12
  readerContext : Option ReaderContext
  counts        : Vector Nat 12
  readerCount   : Nat
  barTimer      : Timer
  stationLimit  : Nat
  badgeLimit    : Nat
  barPeriod     : Nat
  draws         : Nat
deriving DecidableEq, Repr

/-! ### SVA: sessions and lockout -/

/-- R120: the role of a badge or session. -/
inductive BadgeRole where
  | operator | technician | supervisor
deriving DecidableEq, Repr

/-- R120: a badge record. -/
structure BadgeRec where
  badge   : Word
  role    : BadgeRole
  slot    : Slot
  enabled : Bool
deriving DecidableEq, Repr

/-- R122: the reader. -/
inductive Reader where
  | ready
  | challenging (badge : Word) (role : BadgeRole)
  | barred
deriving DecidableEq, Repr

/-- R126: an open session. -/
structure Session where
  num    : Byte
  badge  : Word
  role   : BadgeRole
  opened : Stamp
  idle   : Timer
deriving DecidableEq, Repr

/-- R131: a hold. -/
structure Hold where
  badge     : Word
  session   : Byte
  placed    : Stamp
  recorded  : Bool
  releasing : Bool
deriving DecidableEq, Repr

/-- R135: a LOCKOUT that waits for its job or for the run enable output. -/
structure Lockout where
  request : Nat
  port    : Port
  badge   : Word
deriving DecidableEq, Repr

/-- SVA (06_service_sessions_and_lockout.md). `readerSent` is MODEL'S OWN: the frames sent to the reader (log entry 7). -/
structure Sva where
  badges      : Vector BadgeRec 16
  reader      : Reader
  sessions    : List Session
  lastSession : Byte
  holders     : Vector (List Hold) 12
  draining    : Vector Bool 12
  timeout     : Nat
  lockouts    : List Lockout
  readerSent  : List (List Byte)
deriving DecidableEq, Repr

/-! ### MTU: time and meters -/

/-- R153: a meter. -/
structure MeterRec where
  value : Word
  full  : Bool
deriving DecidableEq, Repr

/-- R157: threshold, grace and sign-off interval of a port. -/
structure MeterCfg where
  threshold : Word
  grace     : Word
  interval  : Word
deriving DecidableEq, Repr

/-- R158. -/
inductive Service where
  | none | due | limit
deriving DecidableEq, Repr

/-- R163: the last completed checkpoint. -/
structure LastCheckpoint where
  uptime : Time
  hall   : Stamp
deriving DecidableEq, Repr

/-- MTU (07_machine_time_and_meters.md). `secondsDue` is MODEL'S OWN: second boundaries reached and not yet taken (log entry
9). `closed`: the checkpoint of a save has started (R164). -/
structure Mtu where
  uptime           : Time
  secondsDue       : Nat
  hall             : Stamp
  meters           : Vector MeterRec 28
  cfg              : Vector MeterCfg 12
  service          : Vector Service 12
  checkpointPeriod : Nat
  checkpointTimer  : Timer
  lastCheckpoint   : Option LastCheckpoint
  closed           : Bool
deriving DecidableEq, Repr

/-! ### NVS: the settings store -/

/-- R168: the LIMITS section. -/
structure Limits where
  stationLimit     : Nat
  badgeLimit       : Nat
  barPeriod        : Nat
  sessionTimeout   : Nat
  checkpointPeriod : Nat
  supplyLow        : Nat
deriving DecidableEq, Repr

/-- R132, R175: an entry of the stored hold list. -/
structure StoredHold where
  port    : Port
  badge   : Word
  session : Byte
  placed  : Stamp
deriving DecidableEq, Repr

/-- R168: a unit of a section. -/
inductive UnitRef where
  | line
  | feed (f : Feed)
  | port (p : Port)
  | meter (p : Port)
  | badge (i : Fin 16)
  | key (k : Slot)
  | limits
deriving DecidableEq, Repr

/-- R168: the content a SETTING job carries for its unit. -/
inductive Setting where
  | line (content : Geometry)
  | feed (f : Feed) (content : FeedCfg)
  | port (p : Port) (content : PortCfg)
  | meter (p : Port) (content : MeterCfg)
  | badge (i : Fin 16) (content : BadgeRec)
  | key (k : Slot) (content : Block)
  | limits (content : Limits)
deriving DecidableEq, Repr

/-- R172, R108: the target of a SECTION LOCK. -/
inductive LockTarget where
  | area (n : Fin 7)
  | slot (k : Slot)
deriving DecidableEq, Repr

/-- R114: the subject of a FAILCOUNT job. -/
inductive Subject where
  | port (p : Port)
  | reader
deriving DecidableEq, Repr

/-- R176: what a store job writes. A CHECKPOINT job has no content until it starts (R163); `save` marks the checkpoint of a
supply-low save (R180). A FAILCOUNT job may carry the lifting mark (R116); `stale` says that the count changed while the
lifting job was in flight (R116). -/
inductive JobBody where
  | setting (s : Setting)
  | lock (t : LockTarget)
  | freeze
  | boundary (value : Nat)
  | holdAdd (h : StoredHold)
  | holdRemove (p : Port) (badge : Word)
  | threshold (p : Port) (value : Word)
  | failcount (who : Subject) (value : Nat) (lifting stale : Bool)
  | checkpoint (content : Option (Vector MeterRec 28)) (save : Bool)
deriving DecidableEq, Repr

/-- R176: a store job; `origin` holds the requests that wait for it. -/
structure Job where
  body   : JobBody
  origin : List Nat
deriving DecidableEq, Repr

/-- R178: a deferred mark. A FAILCOUNT mark keeps the lifting mark R116 gives the new job. -/
inductive Deferred where
  | failcount (who : Subject) (lifting : Bool)
  | checkpoint
deriving DecidableEq, Repr

/-- NVS (08_the_settings_store.md): the store (down to `identity`) and what NVS holds beside it. `saveDue`: the checkpoint of
a save has still to be started (R180). -/
structure Nvs where
  line           : Geometry
  feeds          : Vector FeedCfg 4
  ports          : Vector PortCfg 12
  meters         : Vector MeterCfg 12
  badges         : Vector BadgeRec 16
  keys           : Vector Block 8
  limits         : Limits
  holds          : List StoredHold
  checkpoint     : Option (Vector MeterRec 28)
  failcounts     : Vector Nat 12
  readerFailed   : Nat
  sectionLocks   : Vector Bool 7
  slotLocks      : Vector Bool 8
  frozen         : Bool
  boundary       : Nat
  identity       : Identity
  activeBoundary : Nat
  queue          : List Job
  inFlight       : Option Job
  deferred       : List Deferred
  saveDue        : Bool
deriving DecidableEq, Repr

/-! ### HLC: the host link -/

/-- The request kinds 01h to 22h (11_frame_and_record_layouts.md, 11.2), in order. -/
inductive ReqKind where
  | identify | status | restart | mask | quiet | wake | lineStart | lineStop | trackRead | exitRead | feedOpen | feedClose
  | feedRead | portRead | portPark | portWake | relay | sessionRead | holdList | lockout | release | removeHold | signOff
  | sessionClose | unbar | timeSet | timeRead | meterRead | meterAdd | settingRead | settingWrite | sectionLock
  | locksFreeze | boundarySet
deriving DecidableEq, Repr

/-- The owners of requests (09_host_link_requests_and_notices.md). -/
inductive Owner where
  | hlc | psc | trk | fco | spx | sva | mtu | nvs
deriving DecidableEq, Repr

/-- The reply codes, in order (11.2). -/
inductive Code where
  | done | busy | unknownKind | badLength | badValue | wrongState | noSession | notPermitted | locked | frozen | full
  | notFound | alreadyHeld | inProgress | overflow | storeFault | aborted | quiet | saving
deriving DecidableEq, Repr

/-- R184: the condition of an entry; `waiting` is an entry that a RESTART keeps HLC from dispatching (R192, R196). -/
inductive Condition where
  | waiting | dispatched | replied
deriving DecidableEq, Repr

/-- R184: an entry of the request table. `handle` is MODEL'S OWN: tags need not differ (log entry 6). -/
structure Entry where
  handle    : Nat
  kind      : ReqKind
  tag       : Byte
  payload   : List Byte
  owner     : Owner
  condition : Condition
deriving DecidableEq, Repr

/-- A reply that waits for the transmitter: of the table entry named, or immediate (R183, R186). `kind` is the request's. -/
structure Reply where
  entry   : Option Nat
  kind    : Byte
  tag     : Byte
  code    : Code
  content : List Byte
deriving DecidableEq, Repr

/-- R193. -/
inductive RestartCause where
  | power | supplyLow | request
deriving DecidableEq, Repr

/-- R88: the cause a PORT STATE notice carries. -/
inductive LeaveCause where
  | entry | linkDown | disown | unexpected | portPark | quiet | isolation | barred
deriving DecidableEq, Repr

/-- R198: the cause a WOKEN notice carries. -/
inductive WokenCause where
  | wake
  | port (p : Port)
  | reader
deriving DecidableEq, Repr

/-- The notice kinds with their subject fields (09: notice kinds; 11.5). -/
inductive NoticeBody where
  | restarted (cause : RestartCause)
  | escape (container : Half) (port : Port) (result : VerdictResult)
  | gap (count : Nat)
  | feedTimeout (feed : Feed) (port : Port) (container : Half) (index : Nat)
  | storeFault (job : JobBody)
  | portBarred (port : Port) (count : Nat)
  | readerBarred (count period : Nat)
  | hardLimit (port : Port) (role : Role) (meter threshold grace : Word)
  | serviceDue (port : Port) (role : Role) (meter threshold grace : Word)
  | lateVerdict (container : Half) (port : Port) (result : VerdictResult) (reason : Byte)
  | meterFull (meter : Meter) (value amount : Word)
  | strayPitch
  | portState (port : Port) (state : Admission) (cause : LeaveCause)
  | sessionOpened (session : Byte) (badge : Word) (role : BadgeRole)
  | sessionClosed (session : Byte) (badge : Word) (idle : Bool)
  | woken (cause : WokenCause)
  | relay (port : Port) (data : List Byte)
  | relayDropped (port : Port) (count : Nat)
deriving DecidableEq, Repr

/-- R189: a notice. Its priority is fixed by its kind. -/
structure Notice where
  body  : NoticeBody
  hall  : Stamp
  pitch : Word
deriving DecidableEq, Repr

/-- R186: the frame the transmitter is sending. -/
inductive Sending where
  | reply (r : Reply)
  | notice (n : Notice)
deriving DecidableEq, Repr

/-- R182: the receiver: at rest, where the next character begins a frame if it is SYNC; at rest, where no SYNC is taken until an
idle gap has passed; inside a frame, with the bytes taken after SYNC. -/
inductive Receiver where
  | ready
  | gapWanted
  | insideFrame (taken : List Byte)
deriving DecidableEq, Repr

/-- R181. -/
inductive Rate where
  | baud460800 | baud921600
deriving DecidableEq, Repr

/-- HLC (09_host_link_requests_and_notices.md). `replies` is the reply stream (R186): immediate replies and table replies in the
order in which each became ready. `sent` is MODEL'S OWN: the frames sent whole (log entry 7). -/
structure Hlc where
  rate       : Rate
  receiver   : Receiver
  table      : List Entry
  replies    : List Reply
  notices    : List Notice
  mask       : Nat
  gap        : Nat
  sending    : Option Sending
  lastNotice : Bool
  nextHandle : Nat
  sent       : List (List Byte)
deriving DecidableEq, Repr

/-! ### PSC: supply and state control -/

/-- R193. `off` is no state of R193: the part is without supply, between a power loss and power-on. -/
inductive PartState where
  | off | startUp | run | quiet | save
deriving DecidableEq, Repr

/-- R196: the blocks that have been handed a restart and have not taken it yet. -/
structure Owed where
  trk : Bool
  fco : Bool
  spx : Bool
  prv : Bool
  sva : Bool
  mtu : Bool
  nvs : Bool
deriving DecidableEq, Repr

/-- PSC (10_supply_quiet_state_and_restart.md). `restart` is the RESTART that waits to be carried out (R196). -/
structure Psc where
  state          : PartState
  cause          : RestartCause
  supwarn        : Bool
  supplyLowTime  : Nat
  supplyLowTimer : Timer
  saveHold       : Timer
  linksDropped   : Bool
  restart        : Option Nat
  owed           : Owed
deriving DecidableEq, Repr

/-! ### The part, and the machine -/

/-- The part: its nine blocks. SPX's port table is `ports`. -/
structure Part where
  psc   : Psc
  hlc   : Hlc
  ports : Vector PortRec 12
  prv   : Prv
  trk   : Trk
  fco   : Fco
  sva   : Sva
  mtu   : Mtu
  nvs   : Nvs
deriving DecidableEq, Repr

/-- The machine: the part, and the commands that wait, first in, first out. -/
structure State where
  part    : Part
  pending : List Instr
deriving DecidableEq, Repr

/-- Reasons for which a step would stop the machine. The manual describes no condition that stops the part (every wrong input is
answered, refused or discarded), so there is none: safe. -/
inductive Fault where
deriving DecidableEq, Repr

/-- Reasons for which the model has no meaning for a command. -/
inductive Refusal where
  /-- Raised by `exec` for a row that has no meaning yet, with the row's mnemonic; no row is left so. Safe: the model stops. -/
  | notModelled (mnemonic : String)
deriving DecidableEq, Repr

/-! ### Reset: power-on with a store fresh from manufacture -/

/-- R1: the defaults of LINE. -/
def Geometry.default : Geometry :=
  { gate := 12, divider := 1, windows := Vector.replicate 12 ⟨0, 0⟩, cameras := Vector.replicate 12 ⟨0, false, false⟩ }

/-- R48: the defaults of FEEDS. -/
def FeedCfg.default : FeedCfg := { singleDose := false, takeWindow := 150, holdLimit := 1500 }

/-- R84: the defaults of PORTS. -/
def PortCfg.default : PortCfg := { role := .unused, identity := 0, slot := 0, wake := false }

/-- R157: the defaults of METERS. -/
def MeterCfg.default : MeterCfg := { threshold := 0, grace := 0, interval := 0 }

/-- R120: an empty badge record of a never-written section. -/
def BadgeRec.empty : BadgeRec := { badge := 0, role := .operator, slot := 0, enabled := false }

/-- R120: the defaults of BADGES: record 0 is badge 1, SUPERVISOR, slot 0, enabled. -/
def defaultBadges : Vector BadgeRec 16 :=
  (Vector.replicate 16 BadgeRec.empty).set 0 { badge := 1, role := .supervisor, slot := 0, enabled := true }

/-- R113, R127, R162, R168: the defaults of LIMITS. -/
def Limits.default : Limits :=
  { stationLimit := 3, badgeLimit := 5, barPeriod := 15, sessionTimeout := 20, checkpointPeriod := 60, supplyLow := 2 }

/-- R153, R165: the meters of a store that holds no checkpoint. -/
def zeroMeters : Vector MeterRec 28 := Vector.replicate 28 ⟨0, false⟩

/-- R175, R168: a store fresh from manufacture. -/
def Nvs.fresh : Nvs :=
  { line := Geometry.default, feeds := Vector.replicate 4 FeedCfg.default, ports := Vector.replicate 12 PortCfg.default,
    meters := Vector.replicate 12 MeterCfg.default, badges := defaultBadges, keys := Vector.replicate 8 0,
    limits := Limits.default, holds := [], checkpoint := none, failcounts := Vector.replicate 12 0, readerFailed := 0,
    sectionLocks := Vector.replicate 7 false, slotLocks := Vector.replicate 8 false, frozen := false, boundary := 4,
    identity := Config.partIdentity, activeBoundary := 4, queue := [], inFlight := none, deferred := [], saveDue := false }

/-- R103: a port at power-on of a fresh store. -/
def PortRec.atReset : PortRec :=
  { cfg := PortCfg.default, admission := .dark, parked := false, status := none, link := false, linkTimer := none, relay := [],
    hunting := false, sent := [] }

/-- R196: no block has a restart to take. -/
def Owed.none : Owed := ⟨false, false, false, false, false, false, false⟩

/-- R27. -/
def Trk.atReset : Trk :=
  { line := .stopped, pitch := 0, pulses := 0, pitchesDue := 0, strays := 0, straysDue := 0, strayArmed := true,
    nextContainer := 1, track := [], exits := [], geometry := Geometry.default, geometryPending := false, gate := false,
    gateTimer := none }

/-- R78. -/
def Fco.atReset : Fco :=
  { feeds := Vector.replicate 4 { state := .closed, cfg := FeedCfg.default, queue := [], closing := none },
    claims := Vector.replicate 12 none, notes := Vector.replicate 12 none, toTrk := [], toFco := [] }

/-- R119. -/
def Prv.atReset : Prv :=
  { keys := Vector.replicate 8 0, contexts := Vector.replicate 12 none, readerContext := none,
    counts := Vector.replicate 12 0, readerCount := 0, barTimer := none, stationLimit := 3, badgeLimit := 5,
    barPeriod := 15, draws := 0 }

/-- R145. -/
def Sva.atReset : Sva :=
  { badges := defaultBadges, reader := .ready, sessions := [], lastSession := 0, holders := Vector.replicate 12 [],
    draining := Vector.replicate 12 false, timeout := 20, lockouts := [], readerSent := [] }

/-- R165. -/
def Mtu.atReset : Mtu :=
  { uptime := 0, secondsDue := 0, hall := ⟨0, true⟩, meters := zeroMeters, cfg := Vector.replicate 12 MeterCfg.default,
    service := Vector.replicate 12 .none, checkpointPeriod := 60, checkpointTimer := none, lastCheckpoint := none,
    closed := false }

/-- R192. -/
def Hlc.atReset : Hlc :=
  { rate := .baud460800, receiver := .ready, table := [], replies := [], notices := [], mask := 0, gap := 0,
    sending := none, lastNotice := false, nextHandle := 0, sent := [] }

/-- R194. -/
def Psc.atReset : Psc :=
  { state := .startUp, cause := .power, supwarn := false, supplyLowTime := 2, supplyLowTimer := none, saveHold := none,
    linksDropped := false, restart := none, owed := Owed.none }

/-- The machine right after reset: power-on of a part whose store is fresh from manufacture, at the beginning of START-UP
(R194), with no command waiting. -/
def State.reset : State :=
  { part :=
      { psc := Psc.atReset, hlc := Hlc.atReset, ports := Vector.replicate 12 PortRec.atReset, prv := Prv.atReset,
        trk := Trk.atReset, fco := Fco.atReset, sva := Sva.atReset, mtu := Mtu.atReset, nvs := Nvs.fresh },
    pending := [] }

end Sys2Proof.Machine
end

