-- ==== Sys2Proof/Machine/Layouts.lean ====
section
/-! DEFINITION. Byte layouts of the frames and records (11_frame_and_record_layouts.md, R199, R200; R201's codes). The contents
of the replies that gather from several blocks stand with their requests. -/

namespace Sys2Proof.Machine

/-! ### Numbers and the frame check -/

/-- A number in n bytes, least significant byte first (00_scope.md, Byte order). -/
def le (n v : Nat) : List Byte := (List.range n).map fun i => BitVec.ofNat 8 (v / 256 ^ i)

/-- The number that bytes spell, least significant byte first. -/
def fromLe (l : List Byte) : Nat := l.foldr (fun b n => b.toNat + 256 * n) 0

/-- R199: one bit into the CRC register. -/
def crcBit (r : BitVec 16) (bit : Bool) : BitVec 16 :=
  if r.msb == bit then r <<< 1 else (r <<< 1) ^^^ 0x1021

/-- R199: one byte into the CRC register, most significant bit first. -/
def crcByte (r : BitVec 16) (b : Byte) : BitVec 16 :=
  [7, 6, 5, 4, 3, 2, 1, 0].foldl (fun r i => crcBit r (b.getLsbD i)) r

/-- R199: CRC-16 with generator 1021h, started at FFFFh, no final inversion. -/
def crc16 (l : List Byte) : BitVec 16 := l.foldl crcByte 0xFFFF

/-- R199: a received frame's check: the CRC computed over LENGTH through PAYLOAD equals the CRC received. -/
def frameGood (checked : List Byte) (received : Half) : Bool := crc16 checked == received

/-- A frame: SYNC, then the checked bytes, then the CRC, least significant byte first (R199). -/
def frame (sync : Byte) (checked : List Byte) : List Byte := sync :: checked ++ le 2 (crc16 checked).toNat

/-- 11.2: a host frame. -/
def hostFrame (kind tag : Byte) (payload : List Byte) : List Byte :=
  frame 0xA5 (le 2 payload.length ++ [kind, tag] ++ payload)

/-- 11.3, 11.4: a station or reader frame. -/
def stationFrame (kind : Byte) (payload : List Byte) : List Byte :=
  frame 0xC3 (BitVec.ofNat 8 payload.length :: kind :: payload)

/-! ### Codes -/

/-- 11.2: reply codes from 00h upwards. -/
def Code.byte : Code → Byte
  | .done => 0 | .busy => 1 | .unknownKind => 2 | .badLength => 3 | .badValue => 4 | .wrongState => 5 | .noSession => 6
  | .notPermitted => 7 | .locked => 8 | .frozen => 9 | .full => 10 | .notFound => 11 | .alreadyHeld => 12
  | .inProgress => 13 | .overflow => 14 | .storeFault => 15 | .aborted => 16 | .quiet => 17 | .saving => 18

/-- 11.3: station refusal reasons from 01h. -/
def Reason.byte : Reason → Byte
  | .isolated => 1 | .unbound => 2 | .notAdmitted => 3 | .wrongRole => 4 | .feedClosed => 5 | .claimOpen => 6 | .taken => 7
  | .noContainer => 8 | .outOfWindow => 9 | .serviceDue => 10 | .notReady => 11 | .late => 12 | .early => 13
  | .duplicate => 14 | .unknown => 15 | .sequence => 16

/-- 11.2, PORTS unit. -/
def Role.byte : Role → Byte
  | .unused => 0 | .robot => 1 | .camera => 2

/-- 11.2, BADGES unit. -/
def BadgeRole.byte : BadgeRole → Byte
  | .operator => 1 | .technician => 2 | .supervisor => 3

/-- R201. -/
def Admission.byte : Admission → Byte
  | .dark => 0 | .listening => 1 | .known => 2 | .challenged => 3 | .admitted => 4 | .parked => 5 | .barred => 6

/-- R201: absent is 0, the others as in REPORT. -/
def statusByte : Option Status → Byte
  | none => 0 | some .ready => 1 | some .busy => 2 | some .homing => 3 | some .faulted => 4

/-- R201. -/
def Service.byte : Service → Byte
  | .none => 0 | .due => 1 | .limit => 2

/-- R201; START-UP is 0. No request is served without supply. -/
def PartState.byte : PartState → Byte
  | .off => 0 | .startUp => 0 | .run => 1 | .quiet => 2 | .save => 3

/-- 11.5, RESTARTED. -/
def RestartCause.byte : RestartCause → Byte
  | .power => 0 | .supplyLow => 1 | .request => 2

/-- R201. -/
def LineState.byte : LineState → Byte
  | .stopped => 0 | .running => 1

/-- R201. -/
def FeedState.byte : FeedState → Byte
  | .closed => 0 | .free => 1 | .granted _ => 2 | .held _ => 3 | .draining _ => 4

/-- R201. -/
def EndTarget.byte : EndTarget → Byte
  | .free => 0 | .closed => 1

/-- R201. -/
def Reader.byte : Reader → Byte
  | .ready => 0 | .challenging _ _ => 1 | .barred => 2

/-- R201, IDENTIFY. -/
def Rate.byte : Rate → Byte
  | .baud460800 => 0 | .baud921600 => 1

/-- 11.3, VERDICT. -/
def VerdictResult.byte : VerdictResult → Byte
  | .pass => 0 | .reject => 1 | .unreadable => 2

/-- R200. -/
def FillResult.byte : FillResult → Byte
  | .pending => 1 | .filled => 2 | .short => 3 | .fault => 4 | .timeout => 5 | .incomplete => 6 | .overrun => 7

/-- R200. -/
def Decision.byte : Decision → Byte
  | .pass => 0 | .reject => 1

/-- R200: the cause set as one byte. -/
def Causes.byte (c : Causes) : Byte :=
  markByte c.crossed ||| markByte c.noFill <<< 1 ||| markByte c.fillFailed <<< 2 ||| markByte c.unreadable <<< 3 |||
    markByte c.rejected <<< 4 ||| markByte c.missing <<< 5

/-- 11.5, PORT STATE. -/
def LeaveCause.byte : LeaveCause → Byte
  | .entry => 0 | .linkDown => 1 | .disown => 2 | .unexpected => 3 | .portPark => 4 | .quiet => 5 | .isolation => 6
  | .barred => 7

/-- A stamp: hall time (6) and unset mark (1). -/
def Stamp.bytes (t : Stamp) : List Byte := le 6 t.time.toNat ++ [markByte t.unset]

/-- The eight bytes of an identity, in the order sent. -/
def identityBytes (x : Identity) : List Byte := (List.range 8).map fun i => (x >>> (8 * (7 - i))).setWidth 8

/-! ### Station and reader frames from the part (R92, R121) -/

/-- R92: the frames the part sends to a station. -/
inductive StationOut where
  | challenge (nonce : Block)
  | welcome (proof : Block) (hall : Stamp)
  | refuse (reason : Reason) (kind : Byte)
  | grant (feed : Feed) (container : Half) (doses : Nat)
  | lapse (feed : Feed)
  | withdrawFeed (feed : Feed)
  | withdrawClaim (container : Half)
  | park
  | isolate
  | relay (data : List Byte)
deriving DecidableEq, Repr

/-- 11.3: a frame to a station, as sent. -/
def StationOut.bytes : StationOut → List Byte
  | .challenge n => stationFrame 0x41 (blockBytes n)
  | .welcome p h => stationFrame 0x42 (blockBytes p ++ h.bytes)
  | .refuse r k => stationFrame 0x43 [r.byte, k]
  | .grant f c d => stationFrame 0x44 (numberByte f :: le 2 c.toNat ++ [BitVec.ofNat 8 d])
  | .lapse f => stationFrame 0x45 [numberByte f]
  | .withdrawFeed f => stationFrame 0x46 (numberByte f :: le 2 0)
  | .withdrawClaim c => stationFrame 0x46 (0 :: le 2 c.toNat)
  | .park => stationFrame 0x47 []
  | .isolate => stationFrame 0x48 []
  | .relay d => stationFrame 0x4B d

/-- R121: the reasons of a reader REFUSE. -/
inductive ReaderReason where
  | full | isOpen | denied | barred
deriving DecidableEq, Repr

/-- 11.4. -/
def ReaderReason.byte : ReaderReason → Byte
  | .full => 1 | .isOpen => 2 | .denied => 3 | .barred => 4

/-- R121: the frames SVA sends to the reader. -/
inductive ReaderOut where
  | challenge (nonce : Block)
  | welcome (proof : Block) (session : Byte) (role : BadgeRole)
  | refuse (reason : ReaderReason)
deriving DecidableEq, Repr

/-- 11.4: a frame to the reader, as sent. -/
def ReaderOut.bytes : ReaderOut → List Byte
  | .challenge n => stationFrame 0x41 (blockBytes n)
  | .welcome p s r => stationFrame 0x42 (blockBytes p ++ [s, r.byte])
  | .refuse r => stationFrame 0x43 [r.byte]

/-! ### Notices (11.5) -/

/-- R189: the priority of a notice kind. -/
def NoticeBody.priority : NoticeBody → Nat
  | .restarted _ => 7 | .escape _ _ _ => 7 | .gap _ => 7 | .feedTimeout _ _ _ _ => 6 | .storeFault _ => 6
  | .portBarred _ _ => 5 | .readerBarred _ _ => 5 | .hardLimit _ _ _ _ _ => 5 | .lateVerdict _ _ _ _ => 4
  | .meterFull _ _ _ => 4 | .serviceDue _ _ _ _ _ => 3 | .strayPitch => 3 | .portState _ _ _ => 2
  | .sessionOpened _ _ _ => 2 | .sessionClosed _ _ _ => 2 | .woken _ => 2 | .relay _ _ => 1 | .relayDropped _ _ => 1

/-- 11.5: the KIND of a notice frame. -/
def NoticeBody.kind : NoticeBody → Byte
  | .restarted _ => 0xE0 | .escape _ _ _ => 0xE1 | .gap _ => 0xE2 | .feedTimeout _ _ _ _ => 0xE3 | .storeFault _ => 0xE4
  | .portBarred _ _ => 0xE5 | .readerBarred _ _ => 0xE6 | .hardLimit _ _ _ _ _ => 0xE7 | .lateVerdict _ _ _ _ => 0xE8
  | .meterFull _ _ _ => 0xE9 | .serviceDue _ _ _ _ _ => 0xEA | .strayPitch => 0xEB | .portState _ _ _ => 0xEC
  | .sessionOpened _ _ _ => 0xED | .sessionClosed _ _ _ => 0xEE | .woken _ => 0xEF | .relay _ _ => 0xF0
  | .relayDropped _ _ => 0xF1

/-- The section number of a unit (R168). -/
def Setting.sectionIndex : Setting → Nat × Nat
  | .line _ => (0, 0)
  | .feed f _ => (1, number f)
  | .port p _ => (2, number p)
  | .meter p _ => (3, number p)
  | .badge i _ => (4, i.val)
  | .key k _ => (5, k.val)
  | .limits _ => (6, 0)

/-- 11.5, STORE FAULT: job kind, subject (low byte, high byte) and badge. -/
def JobBody.faultBytes : JobBody → List Byte
  | .setting s => [0, BitVec.ofNat 8 s.sectionIndex.1, BitVec.ofNat 8 s.sectionIndex.2] ++ le 4 0
  | .lock (.area n) => [1, BitVec.ofNat 8 n.val, 0] ++ le 4 0
  | .lock (.slot k) => [1, BitVec.ofNat 8 k.val, 1] ++ le 4 0
  | .freeze => [2, 0, 0] ++ le 4 0
  | .boundary _ => [3, 0, 0] ++ le 4 0
  | .holdAdd h => [4, numberByte h.port, 0] ++ le 4 h.badge.toNat
  | .holdRemove p b => [5, numberByte p, 0] ++ le 4 b.toNat
  | .threshold p _ => [6, numberByte p, 0] ++ le 4 0
  | .failcount (.port p) _ _ _ => [7, numberByte p, 0] ++ le 4 0
  | .failcount .reader _ _ _ => [7, 0, 0] ++ le 4 0
  | .checkpoint _ _ => [8, 0, 0] ++ le 4 0

/-- 11.5, WOKEN: cause and port. -/
def WokenCause.bytes : WokenCause → List Byte
  | .wake => [0, 0]
  | .port p => [1, numberByte p]
  | .reader => [2, 0]

/-- 11.5: the subject fields of a notice. -/
def NoticeBody.subject : NoticeBody → List Byte
  | .restarted c => [c.byte]
  | .escape c p r => le 2 c.toNat ++ [numberByte p, r.byte]
  | .gap n => [BitVec.ofNat 8 n]
  | .feedTimeout f p c i => [numberByte f, numberByte p] ++ le 2 c.toNat ++ [BitVec.ofNat 8 i]
  | .storeFault j => j.faultBytes
  | .portBarred p n => [numberByte p, BitVec.ofNat 8 n]
  | .readerBarred n m => [BitVec.ofNat 8 n, BitVec.ofNat 8 m]
  | .hardLimit p r a t g => [numberByte p, r.byte] ++ le 4 a.toNat ++ le 4 t.toNat ++ le 4 g.toNat
  | .serviceDue p r a t g => [numberByte p, r.byte] ++ le 4 a.toNat ++ le 4 t.toNat ++ le 4 g.toNat
  | .lateVerdict c p r why => le 2 c.toNat ++ [numberByte p, r.byte, why]
  | .meterFull m v a => BitVec.ofNat 8 m.val :: le 4 v.toNat ++ le 4 a.toNat
  | .strayPitch => []
  | .portState p a c => [numberByte p, a.byte, c.byte]
  | .sessionOpened n b r => n :: le 4 b.toNat ++ [r.byte]
  | .sessionClosed n b idle => n :: le 4 b.toNat ++ [markByte idle]
  | .woken c => c.bytes
  | .relay p d => [numberByte p, BitVec.ofNat 8 d.length] ++ d
  | .relayDropped p n => [numberByte p, BitVec.ofNat 8 n]

/-- 11.5: a notice's payload, header of twelve bytes and subject fields. -/
def Notice.payload (n : Notice) : List Byte :=
  BitVec.ofNat 8 n.body.priority :: n.hall.bytes ++ le 4 n.pitch.toNat ++ n.body.subject

/-- R186, R189, 11.2: the frame of a reply (request kind plus 80h) or of a notice (tag 0). -/
def Sending.bytes : Sending → List Byte
  | .reply r => hostFrame (r.kind + 0x80) r.tag (r.code.byte :: r.content)
  | .notice n => hostFrame n.body.kind 0 n.payload

/-! ### Records (R200) -/

/-- R200: a verdict or late entry, 7 bytes. -/
def Verdict.bytes (v : Verdict) : List Byte := [numberByte v.port, v.result.byte, v.reason] ++ le 4 v.pitch.toNat

/-- R200: the fill result byte, 0 for no fill. -/
def fillByte (r : Record) : Byte := match r.fill with
  | none => 0
  | some f => f.result.byte

/-- R200: robot port, feed, doses planned and doses done; zeros when there is no fill. -/
def fillBytes (r : Record) : List Byte := match r.fill with
  | none => [0, 0, 0, 0]
  | some f => [numberByte f.port, numberByte f.feed, BitVec.ofNat 8 f.planned, BitVec.ofNat 8 f.done]

/-- R200: a record block; `place` is the position, or in an exit entry the gate offset. -/
def Record.block (r : Record) (place : Nat) : List Byte :=
  le 2 r.container.toNat ++ le 4 r.entry.toNat ++ [BitVec.ofNat 8 place, fillByte r] ++ fillBytes r ++
    [markByte r.crossed, BitVec.ofNat 8 r.verdicts.length] ++ r.verdicts.flatMap Verdict.bytes

/-- R200: the doses byte of a LIST item, doses done in the low four bits and doses planned in the high four. -/
def dosesByte (r : Record) : Byte := match r.fill with
  | none => 0
  | some f => BitVec.ofNat 8 (f.done + 16 * f.planned)

/-- R200: an item of TRACK READ LIST, 6 bytes. -/
def Record.item (r : Record) (place : Nat) : List Byte :=
  le 2 r.container.toNat ++
    [BitVec.ofNat 8 place, fillByte r ||| markByte r.crossed <<< 7, dosesByte r, BitVec.ofNat 8 r.verdicts.length]

/-- R200: a whole exit entry. -/
def ExitEntry.bytes (e : ExitEntry) : List Byte :=
  e.record.block e.gateOffset ++ [e.decision.byte, e.causes.byte] ++ le 4 e.pitch.toNat ++ e.hall.bytes ++
    [markByte e.escape, BitVec.ofNat 8 e.late.length] ++ e.late.flatMap Verdict.bytes

/-- R200: an item of EXIT READ SUMMARY, 5 bytes. -/
def ExitEntry.item (e : ExitEntry) : List Byte :=
  le 2 e.record.container.toNat ++
    [e.decision.byte, markByte e.escape ||| markByte e.unread <<< 1, BitVec.ofNat 8 e.late.length]

/-! ### Units of the settings sections (11.2) -/

/-- 11.2: the LINE unit, 50 bytes. -/
def Geometry.bytes (g : Geometry) : List Byte :=
  [BitVec.ofNat 8 g.gate, BitVec.ofNat 8 g.divider] ++
    g.windows.toList.flatMap (fun w => [BitVec.ofNat 8 w.first, BitVec.ofNat 8 w.last]) ++
    g.cameras.toList.flatMap (fun c => [BitVec.ofNat 8 c.offset, markByte c.required ||| markByte c.bypass <<< 1])

/-- 11.2: the FEEDS unit. -/
def FeedCfg.bytes (c : FeedCfg) : List Byte := markByte c.singleDose :: le 2 c.takeWindow ++ le 2 c.holdLimit

/-- 11.2: the PORTS unit. -/
def PortCfg.bytes (c : PortCfg) : List Byte :=
  c.role.byte :: identityBytes c.identity ++ [BitVec.ofNat 8 c.slot.val, markByte c.wake]

/-- 11.2: the METERS unit. -/
def MeterCfg.bytes (c : MeterCfg) : List Byte := le 4 c.threshold.toNat ++ le 4 c.grace.toNat ++ le 4 c.interval.toNat

/-- 11.2: the BADGES unit. -/
def BadgeRec.bytes (b : BadgeRec) : List Byte :=
  le 4 b.badge.toNat ++ [b.role.byte, BitVec.ofNat 8 b.slot.val, markByte b.enabled]

/-- 11.2: the LIMITS unit. -/
def Limits.bytes (l : Limits) : List Byte :=
  [BitVec.ofNat 8 l.stationLimit, BitVec.ofNat 8 l.badgeLimit, BitVec.ofNat 8 l.barPeriod, BitVec.ofNat 8 l.sessionTimeout] ++
    le 2 l.checkpointPeriod ++ [BitVec.ofNat 8 l.supplyLow]

end Sys2Proof.Machine
end

