-- ==== Sys2Proof/Machine/Operands.lean ====
section
/-! DEFINITION. The operands of the commands: the table of request kinds (11.2, 09), the fields of a payload, the numbers of
ports, feeds, meters and units, the values stations send, and the units of SETTING WRITE with their ranges. -/

namespace Sys2Proof.Machine

/-! ### Request kinds -/

/-- The KIND byte of a request (11.2). -/
def ReqKind.byte : ReqKind → Byte
  | .identify => 0x01 | .status => 0x02 | .restart => 0x03 | .mask => 0x04 | .quiet => 0x05 | .wake => 0x06
  | .lineStart => 0x07 | .lineStop => 0x08 | .trackRead => 0x09 | .exitRead => 0x0A | .feedOpen => 0x0B
  | .feedClose => 0x0C | .feedRead => 0x0D | .portRead => 0x0E | .portPark => 0x0F | .portWake => 0x10 | .relay => 0x11
  | .sessionRead => 0x12 | .holdList => 0x13 | .lockout => 0x14 | .release => 0x15 | .removeHold => 0x16
  | .signOff => 0x17 | .sessionClose => 0x18 | .unbar => 0x19 | .timeSet => 0x1A | .timeRead => 0x1B
  | .meterRead => 0x1C | .meterAdd => 0x1D | .settingRead => 0x1E | .settingWrite => 0x1F | .sectionLock => 0x20
  | .locksFreeze => 0x21 | .boundarySet => 0x22

/-- R183: the KIND is one of the request kinds. -/
def isRequestKind (kind : Byte) : Bool := decide (1 ≤ kind.toNat ∧ kind.toNat ≤ 0x22)

/-- The owner of a request (09_host_link_requests_and_notices.md, requests and their owners). -/
def ReqKind.owner : ReqKind → Owner
  | .identify | .status | .mask => .hlc
  | .restart | .quiet | .wake => .psc
  | .lineStart | .lineStop | .trackRead | .exitRead => .trk
  | .feedOpen | .feedClose | .feedRead => .fco
  | .portRead | .portPark | .portWake | .relay => .spx
  | .sessionRead | .holdList | .lockout | .release | .removeHold | .signOff | .sessionClose | .unbar => .sva
  | .timeSet | .timeRead | .meterRead | .meterAdd => .mtu
  | .settingRead | .settingWrite | .sectionLock | .locksFreeze | .boundarySet => .nvs

/-- R183, R198: the requests served in QUIET. -/
def ReqKind.servedInQuiet : ReqKind → Bool
  | .identify | .status | .timeRead | .meterRead | .wake => true
  | _ => false

/-- 11.2: the size of the unit of a section. -/
def unitSize : Nat → Option Nat
  | 0 => some 50 | 1 => some 5 | 2 => some 11 | 3 => some 12 | 4 => some 7 | 5 => some 16 | 6 => some 7 | _ => none

/-- R183, check 2, and 11.2: the payload size fits the kind. For SETTING WRITE it depends on the section named; a section
above 6 passes with any payload that holds the three fixed fields. -/
def lengthFits (kind : ReqKind) (payload : List Byte) : Bool :=
  let n := payload.length
  match kind with
  | .identify | .status | .restart | .quiet | .wake | .lineStart | .lineStop | .sessionRead | .timeRead => n == 0
  | .mask | .feedOpen | .feedClose | .feedRead | .portRead | .portPark | .portWake | .holdList | .sessionClose
  | .locksFreeze => n == 1
  | .lockout | .release | .signOff | .unbar | .meterRead | .boundarySet => n == 2
  | .trackRead | .exitRead | .settingRead | .sectionLock => n == 3
  | .removeHold | .timeSet | .meterAdd => n == 6
  | .relay => decide (1 ≤ n ∧ n ≤ 1 + Config.relayBytes)
  | .settingWrite =>
    decide (3 ≤ n) && match unitSize (payload.getD 1 0).toNat with
      | some size => n == 3 + size
      | none => true

/-! ### Fields of a payload -/

/-- The byte at an offset of the payload. -/
def byteAt (payload : List Byte) (i : Nat) : Byte := payload.getD i 0

/-- The number in n bytes at an offset, least significant byte first. -/
def numberAt (payload : List Byte) (i n : Nat) : Nat := fromLe ((payload.drop i).take n)

/-- The two-byte field at an offset. -/
def halfAt (payload : List Byte) (i : Nat) : Half := BitVec.ofNat 16 (numberAt payload i 2)

/-- The four-byte field at an offset. -/
def wordAt (payload : List Byte) (i : Nat) : Word := BitVec.ofNat 32 (numberAt payload i 4)

/-- The port a number from 1 to 12 names. -/
def portOf (n : Nat) : Option Port := if h : 1 ≤ n ∧ n ≤ 12 then some ⟨n - 1, by omega⟩ else none

/-- The feed a number from 1 to 4 names. -/
def feedOf (n : Nat) : Option Feed := if h : 1 ≤ n ∧ n ≤ 4 then some ⟨n - 1, by omega⟩ else none

/-- The meter a number from 0 to 27 names. -/
def meterOf (n : Nat) : Option Meter := if h : n < 28 then some ⟨n, h⟩ else none

/-- The key slot a number from 0 to 7 names. -/
def slotOf (n : Nat) : Option Slot := if h : n < 8 then some ⟨n, h⟩ else none

/-- The section a number from 0 to 6 names. -/
def sectionOf (n : Nat) : Option (Fin 7) := if h : n < 7 then some ⟨n, h⟩ else none

/-- Meter A of a port: meter 2p − 2 (R153). -/
def meterA (p : Port) : Meter := ⟨2 * p.val, by omega⟩

/-- Meter B of a port: meter 2p − 1 (R153). -/
def meterB (p : Port) : Meter := ⟨2 * p.val + 1, by omega⟩

/-- The port whose meter A a meter is. -/
def portOfMeterA (m : Meter) : Option Port := if m.val % 2 = 0 then portOf (m.val / 2 + 1) else none

/-! ### Values in station frames (11.3) -/

/-- R93: a status value outside the four is taken as FAULTED. -/
def statusOf (b : Byte) : Status :=
  if b = 1 then .ready else if b = 2 then .busy else if b = 3 then .homing else .faulted

/-- The result of a DOSE END. -/
inductive DoseResult where
  | ok | short | retry | fault
deriving DecidableEq, Repr

/-- R65: a result value outside the four is taken as FAULT. -/
def doseResultOf (b : Byte) : DoseResult :=
  if b = 0 then .ok else if b = 1 then .short else if b = 2 then .retry else .fault

/-- R30: a result value other than PASS, REJECT or UNREADABLE is taken as UNREADABLE. -/
def verdictOf (b : Byte) : VerdictResult := if b = 0 then .pass else if b = 1 then .reject else .unreadable

/-- The kinds of station frame (11.3), by KIND byte. -/
def isStationKind (kind : Byte) : Bool := decide (1 ≤ kind.toNat ∧ kind.toNat ≤ 0x0B)

/-- Role values of the PORTS unit. -/
def roleOf (b : Byte) : Option Role :=
  if b = 0 then some .unused else if b = 1 then some .robot else if b = 2 then some .camera else none

/-- Role values of the BADGES unit. -/
def badgeRoleOf (b : Byte) : Option BadgeRole :=
  if b = 1 then some .operator else if b = 2 then some .technician else if b = 3 then some .supervisor else none

/-- R81, 11.3: the payload size is that of the station-to-part kind; a frame of another kind is not length-checked. -/
def stationLengthFits (kind : Byte) (n : Nat) : Bool :=
  match kind.toNat with
  | 1 => n == 9
  | 2 => n == 32
  | 3 | 6 => n == 0
  | 4 | 7 => n == 1
  | 5 | 9 | 10 => n == 4
  | 8 => n == 3
  | 11 => decide (n ≤ Config.relayBytes)
  | _ => true

/-- R81, R199: a received station frame is good: its CRC matches and its size is its kind's. -/
def stationFrameGood (kind : Byte) (payload : List Byte) (crc : Half) : Bool :=
  frameGood (BitVec.ofNat 8 payload.length :: kind :: payload) crc && stationLengthFits kind payload.length

/-- A mark or yes/no value: 0 or 1; another byte is out of range (log entry 16). -/
def markOf (b : Byte) : Option Bool := if b = 0 then some false else if b = 1 then some true else none

/-! ### Units of the sections (R168, 11.2) -/

/-- R168, R169 step 2: the unit that a section number and an index name. For LINE and LIMITS the index must be 0. -/
def unitOf (area index : Nat) : Option UnitRef :=
  match area with
  | 0 => if index = 0 then some .line else none
  | 1 => (feedOf index).map .feed
  | 2 => (portOf index).map .port
  | 3 => (portOf index).map .meter
  | 4 => if h : index < 16 then some (.badge ⟨index, h⟩) else none
  | 5 => (slotOf index).map .key
  | 6 => if index = 0 then some .limits else none
  | _ => none

/-- The section of a unit. -/
def UnitRef.area : UnitRef → Fin 7
  | .line => 0 | .feed _ => 1 | .port _ => 2 | .meter _ => 3 | .badge _ => 4 | .key _ => 5 | .limits => 6

/-- The unit a setting is for. -/
def Setting.unit : Setting → UnitRef
  | .line _ => .line | .feed f _ => .feed f | .port p _ => .port p | .meter p _ => .meter p | .badge i _ => .badge i
  | .key k _ => .key k | .limits _ => .limits

/-- R1: a window is (0, 0) or 1 ≤ first ≤ last < G. -/
def windowFits (g : Nat) (w : Window) : Bool :=
  decide ((w.first = 0 ∧ w.last = 0) ∨ (1 ≤ w.first ∧ w.first ≤ w.last ∧ w.last < g))

/-- R1: a camera offset is 0 or 1 ≤ offset < G. -/
def cameraFits (g : Nat) (c : Camera) : Bool := decide (c.offset = 0 ∨ (1 ≤ c.offset ∧ c.offset < g))

/-- R1: the ranges of LINE, checked as a whole against the gate offset of the same write. -/
def geometryFits (g : Geometry) : Bool :=
  decide (4 ≤ g.gate ∧ g.gate ≤ 90) && decide (1 ≤ g.divider ∧ g.divider ≤ 64) &&
    g.windows.toList.all (windowFits g.gate) && g.cameras.toList.all (cameraFits g.gate)

/-- 11.2: the LINE unit read from its fifty bytes. -/
def geometryOf (u : List Byte) : Geometry :=
  { gate := (byteAt u 0).toNat
    divider := (byteAt u 1).toNat
    windows := Vector.ofFn fun p => ⟨(byteAt u (2 + 2 * p.val)).toNat, (byteAt u (3 + 2 * p.val)).toNat⟩
    cameras := Vector.ofFn fun p =>
      ⟨(byteAt u (26 + 2 * p.val)).toNat, (byteAt u (27 + 2 * p.val)).getLsbD 0, (byteAt u (27 + 2 * p.val)).getLsbD 1⟩ }

/-- Bits 2 to 7 of every camera entry's flags are clear; otherwise the flags are out of range (log entry 16). -/
def flagsFit (u : List Byte) : Bool := (List.range 12).all fun i => decide ((byteAt u (27 + 2 * i)).toNat < 4)

/-- R168, R113, R127, R162: the ranges of LIMITS. -/
def limitsFit (l : Limits) : Bool :=
  decide (l.stationLimit ≤ 15) && decide (l.badgeLimit ≤ 31) && decide (1 ≤ l.barPeriod ∧ l.barPeriod ≤ 60) &&
    decide (1 ≤ l.sessionTimeout ∧ l.sessionTimeout ≤ 120) &&
    decide (10 ≤ l.checkpointPeriod ∧ l.checkpointPeriod ≤ 600) && [1, 2, 4, 8].contains l.supplyLow

/-- R48: the ranges of FEEDS. -/
def feedFits (c : FeedCfg) : Bool :=
  decide (20 ≤ c.takeWindow ∧ c.takeWindow ≤ 1000) && decide (200 ≤ c.holdLimit ∧ c.holdLimit ≤ 10000)

/-- A value where a check holds. -/
def guarded {α : Type} (ok : Bool) (a : α) : Option α := if ok then some a else none

/-- R169 step 4, the ranges: the content that the unit's bytes spell, if every value is in its range. -/
def settingOf (r : UnitRef) (u : List Byte) : Option Setting :=
  match r with
  | .line => guarded (geometryFits (geometryOf u) && flagsFit u) (.line (geometryOf u))
  | .feed f =>
    (markOf (byteAt u 0)).bind fun single =>
      let c : FeedCfg := ⟨single, numberAt u 1 2, numberAt u 3 2⟩
      guarded (feedFits c) (.feed f c)
  | .port p =>
    (roleOf (byteAt u 0)).bind fun role => (slotOf (byteAt u 9).toNat).bind fun slot =>
      (markOf (byteAt u 10)).map fun wake =>
        .port p ⟨role, BitVec.ofNat 64 (fromBytes ((u.drop 1).take 8)), slot, wake⟩
  | .meter p => some (.meter p ⟨wordAt u 0, wordAt u 4, wordAt u 8⟩)
  | .badge i =>
    (badgeRoleOf (byteAt u 4)).bind fun role => (slotOf (byteAt u 5).toNat).bind fun slot =>
      (markOf (byteAt u 6)).map fun enabled => .badge i ⟨wordAt u 0, role, slot, enabled⟩
  | .key k => some (.key k (blockOf (u.take 16)))
  | .limits =>
    let l : Limits := ⟨(byteAt u 0).toNat, (byteAt u 1).toNat, (byteAt u 2).toNat, (byteAt u 3).toNat, numberAt u 4 2,
      (byteAt u 6).toNat⟩
    guarded (limitsFit l) (.limits l)

/-- R84: at most 8 ports with role ROBOT and at most 6 with role CAMERA. -/
def portsFit (v : Vector PortCfg 12) : Bool :=
  decide (v.toList.countP (·.role == .robot) ≤ 8) && decide (v.toList.countP (·.role == .camera) ≤ 6)

/-- R120: no two records carry the same badge number other than 0. -/
def badgesFit (v : Vector BadgeRec 16) : Bool := decide (((v.toList.map (·.badge)).filter (· != 0)).Nodup)

/-- R169 step 4, the section rules: PORTS and BADGES are checked as the section would stand after the write. -/
def sectionRules (n : Nvs) : Setting → Bool
  | .port p c => portsFit (n.ports.set p c)
  | .badge i b => badgesFit (n.badges.set i b)
  | _ => true

/-- 11.2, R171: the bytes of a unit as stored; a key reads as sixteen zero bytes (R106). -/
def unitBytes (n : Nvs) : UnitRef → List Byte
  | .line => n.line.bytes
  | .feed f => n.feeds[f].bytes
  | .port p => n.ports[p].bytes
  | .meter p => n.meters[p].bytes
  | .badge i => n.badges[i].bytes
  | .key _ => List.replicate 16 0
  | .limits => n.limits.bytes

end Sys2Proof.Machine
end

