-- ==== Sys2Proof/WellFormed.lean ====
section
/-! DEFINITION. Which commands spell a frame or a message of the manual: the check on the operands that the types of
Syntax.lean leave open. A command that fails it is no event of the part; log entry 20 says what the model does with it. -/

namespace Sys2Proof

/-- The payload of a good host frame (R181, R182). -/
def payloadFits (payload : List Byte) : Bool := decide (payload.length ≤ Config.payloadSize)

/-- The payload has the three bytes of its kind and the selecting byte at offset i is n. -/
def selects (payload : List Byte) (i n : Nat) : Bool := payload.length == 3 && (payload.getD i 0).toNat == n

/-- Well-formed commands. Where several rows share a request kind, the selecting byte of the payload names the row; a payload
that selects none of them (another selector, another length) goes with the first row of the kind. -/
def Instr.wf : Instr → Bool
  | .identify _ d | .status _ d | .restart _ d | .mask _ d | .quiet _ d | .wake _ d | .lineStart _ d | .lineStop _ d
  | .feedOpen _ d | .feedClose _ d | .feedRead _ d | .portRead _ d | .portPark _ d | .portWake _ d | .relay _ d
  | .sessionRead _ d | .holdList _ d | .lockout _ d | .release _ d | .removeHold _ d | .signOff _ d | .sessionClose _ d
  | .unbar _ d | .timeSet _ d | .timeRead _ d | .meterRead _ d | .meterAdd _ d | .settingWrite _ d | .locksFreeze _ d
  | .boundarySet _ d => payloadFits d
  | .trackReadList _ d => payloadFits d && !selects d 0 1
  | .trackReadRecord _ d => selects d 0 1
  | .exitReadSummary _ d => payloadFits d && !(selects d 0 1 || selects d 0 2 || selects d 0 3)
  | .exitReadIndex _ d => selects d 0 1
  | .exitReadContainer _ d => selects d 0 2
  | .exitReadNextEscape _ d => selects d 0 3
  | .settingReadSection _ d => payloadFits d && !selects d 0 1
  | .settingReadProtection _ d => selects d 0 1
  | .sectionLockSection _ d => payloadFits d && !selects d 1 1
  | .sectionLockKeySlot _ d => selects d 1 1
  | .unknownKind kind _ d => payloadFits d && !Machine.isRequestKind kind
  | .undefinedKind _ kind => !Machine.isStationKind kind
  | .stationFrameDiscarded _ kind payload crc => decide (payload.length ≤ 255) && !Machine.stationFrameGood kind payload crc
  | .stationRelay _ data => decide (data.length ≤ Config.relayBytes)
  | .reserve _ _ _ doses => decide (1 ≤ doses ∧ doses ≤ 3)
  | _ => true

end Sys2Proof
end

