-- ==== Sys2Proof/Machine/Flags.lean ====
section
/-! DEFINITION. The conditions that the manual computes from the state: activity by part state, timers, the outputs that follow the
state, positions on the track, gate causes, service status, barred conditions, what a robot holds at FCO. -/

namespace Sys2Proof.Machine

/-! ### Part states -/

/-- RUN or QUIET: the blocks take their events. -/
def Part.active (s : Part) : Bool := s.psc.state == .run || s.psc.state == .quiet

/-- R181: HLC receives in RUN, QUIET and SAVE. -/
def Part.hostReceives (s : Part) : Bool := s.active || s.psc.state == .save

/-- R186, R195: the transmitter works until PSC drops the link outputs of a save. -/
def Part.hostSends (s : Part) : Bool := s.hostReceives && !s.psc.linksDropped

/-- R196: some block has been handed a restart and has not taken it. -/
def Owed.any (o : Owed) : Bool := o.trk || o.fco || o.spx || o.prv || o.sva || o.mtu || o.nvs

/-! ### Timers (R149) -/

/-- A timer of d milliseconds started now: it expires at uptime + d. -/
def Part.timer (s : Part) (d : Nat) : Timer := some (s.mtu.uptime + BitVec.ofNat 48 d)

/-- Uptime has reached the expiry time; the comparison is modular, so the wrap of uptime does not disturb it. -/
def Part.reached (s : Part) (e : Time) : Bool := decide ((s.mtu.uptime - e).toNat < 2 ^ 47)

/-- The timer is running and its time has come. -/
def Part.due (s : Part) : Timer → Bool
  | none => false
  | some e => s.reached e

/-- The time left on a timer in milliseconds; 0 for a stopped timer. -/
def Part.timeLeft (s : Part) : Timer → Nat
  | none => 0
  | some e => if s.reached e then 0 else (e - s.mtu.uptime).toNat

/-- R149, R196: the timer with its remaining time counted from uptime 0. -/
def Part.rebased (s : Part) (t : Timer) : Timer := t.map fun e => BitVec.ofNat 48 (s.timeLeft (some e))

/-! ### Outputs -/

/-- R136: the run enable output of a port. -/
def Part.runEnable (s : Part) (p : Port) : Bool := s.active && (s.sva.holders[p].isEmpty || s.sva.draining[p])

/-- R47, R51: PERMIT by the feed's state. -/
def FeedState.permits : FeedState → Bool
  | .held _ | .draining _ => true
  | _ => false

/-- R51: the permit output of a feed. -/
def Part.permitOutput (s : Part) (f : Feed) : Bool := s.active && s.fco.feeds[f].state.permits

/-- R38, R39: the gate output; it is de-asserted in START-UP and SAVE. -/
def Part.gateOutput (s : Part) : Bool := s.active && s.trk.gate

/-! ### The track (R10, R15, R21) -/

/-- R10: a record's position. -/
def Trk.position (t : Trk) (r : Record) : Nat := (t.pitch - r.entry).toNat

/-- R10, R15: a position inside a window; the window (0, 0) has none. -/
def Window.contains (w : Window) (pos : Nat) : Bool := decide (1 ≤ w.first ∧ w.first ≤ pos ∧ pos ≤ w.last)

/-- The record of a container on the track. -/
def Trk.find (t : Trk) (c : Half) : Option Record := t.track.find? (·.container == c)

/-- R58, R64: the container is on the track and inside the port's fill window. -/
def Trk.inWindow (t : Trk) (p : Port) (c : Half) : Bool :=
  match t.find c with
  | none => false
  | some r => t.geometry.windows[p].contains (t.position r)

/-- The fill is PENDING. -/
def Fill.pending (f : Fill) : Bool := f.result == .pending

/-- R9 step 3, R21: the record has just passed the window of a PENDING fill. -/
def Trk.departs (t : Trk) (r : Record) : Option Fill :=
  r.fill.filter fun f => f.pending && t.position r == t.geometry.windows[f.port].last + 1

/-! ### The gate decision (R28, R29, R36) -/

/-- The list holds an entry from port p. -/
def hasVerdict (l : List Verdict) (p : Port) : Bool := l.any (·.port == p)

/-- R28: a camera is placed at an offset from 1 to G − 1. -/
def Geometry.placed (g : Geometry) (p : Port) : Bool := decide (1 ≤ g.cameras[p].offset ∧ g.cameras[p].offset < g.gate)

/-- R28, R29, R36: a required camera on port p has given no verdict and is not bypassed. -/
def Part.missingAt (s : Part) (r : Record) (p : Port) : Bool :=
  let g := s.trk.geometry
  g.placed p && g.cameras[p].required && !hasVerdict r.verdicts p &&
    !(!s.sva.holders[p].isEmpty && g.cameras[p].bypass)

/-- R36: the cause set of a record. -/
def Part.causes (s : Part) (r : Record) : Causes :=
  { crossed := r.crossed
    noFill := r.fill.isNone
    fillFailed := r.fill.any (·.result != .filled)
    unreadable := r.verdicts.any (·.result == .unreadable)
    rejected := r.verdicts.any (·.result == .reject)
    missing := (List.finRange 12).any (s.missingAt r) }

/-- At least one cause is present. -/
def Causes.any (c : Causes) : Bool :=
  c.crossed || c.noFill || c.fillFailed || c.unreadable || c.rejected || c.missing

/-- R36: REJECT exactly when a cause is present. -/
def Causes.decision (c : Causes) : Decision := if c.any then .reject else .pass

/-- R41: an entry that counts as an escape pending. -/
def ExitEntry.escapePending (e : ExitEntry) : Bool := e.escape && e.unread

/-- R41: the ESCAPE PENDING count. -/
def Trk.escapePending (t : Trk) : Nat := t.exits.countP (·.escapePending)

/-! ### Service status (R158) -/

/-- R158: the status that meter A, the threshold and the grace give; the sum is formed without wrap. -/
def serviceOf (cfg : MeterCfg) (a : Word) : Service :=
  if cfg.threshold = 0 ∨ a.toNat < cfg.threshold.toNat then .none
  else if a.toNat < cfg.threshold.toNat + cfg.grace.toNat then .due
  else .limit

/-- R142: the threshold that a sign-off forms. -/
def signOffThreshold (cfg : MeterCfg) (a : Word) : Word :=
  if cfg.interval = 0 then 0 else BitVec.ofNat 32 (min (a.toNat + cfg.interval.toNat) (2 ^ 32 - 1))

/-! ### Barred conditions (R115, R117) -/

/-- A count has reached a nonzero limit. -/
def limitReached (limit count : Nat) : Bool := decide (limit ≠ 0 ∧ limit ≤ count)

/-- R115: the barred condition of a port. -/
def Part.portBarred (s : Part) (p : Port) : Bool := limitReached s.prv.stationLimit s.prv.counts[p]

/-- R117: the barred condition of the reader. -/
def Part.readerBarred (s : Part) : Bool := limitReached s.prv.badgeLimit s.prv.readerCount

/-! ### What a robot holds at FCO (R52) -/

/-- R47: the lease of a feed, if one is present. -/
def FeedState.lease? : FeedState → Option Lease
  | .granted l | .held l | .draining l => some l
  | _ => none

/-- A lease or grant of the feed is for port p. -/
def FeedRec.servesPort (r : FeedRec) (p : Port) : Bool := r.state.lease?.any (·.port == p)

/-- The feed whose grant or lease is for port p. -/
def Fco.feedServing (c : Fco) (p : Port) : Option Feed := (List.finRange 4).find? fun f => c.feeds[f].servesPort p

/-- The feed whose queue holds an entry of port p. -/
def Fco.feedQueueing (c : Fco) (p : Port) : Option Feed :=
  (List.finRange 4).find? fun f => c.feeds[f].queue.any (·.port == p)

/-- R52, R53, R94: the robot has an open claim, a grant or a lease. -/
def Fco.busy (c : Fco) (p : Port) : Bool :=
  (c.feedServing p).isSome || (c.feedQueueing p).isSome || c.claims[p].isSome

/-- R52: what counts toward the eight places of a feed. -/
def Fco.load (c : Fco) (f : Feed) : Nat :=
  c.feeds[f].queue.length + (if c.feeds[f].state.lease?.isSome then 1 else 0) +
    c.claims.toList.countP fun k => k.any (·.feed == f)

/-- A feed is DRAINING for port p. -/
def Fco.drainsFor (c : Fco) (p : Port) : Bool :=
  (List.finRange 4).any fun f => match c.feeds[f].state with
    | .draining l => l.port == p
    | _ => false

/-- R63: the port's late note is a DOSE END note. -/
def Fco.hasDoseEndNote (c : Fco) (p : Port) : Bool :=
  match c.notes[p] with
  | some (.doseEnd _ _) => true
  | _ => false

/-- R53 check 4: the feed takes no claims. -/
def FeedState.closedToClaims : FeedState → Bool
  | .closed => true
  | .draining l => l.target == .closed
  | _ => false

/-! ### Store queue (R176, R178) -/

/-- R176: the queue has room for a job. -/
def Nvs.hasRoom (n : Nvs) : Bool := decide (n.queue.length < Config.storeSize)

/-- The job is a FAILCOUNT for the subject. -/
def Job.countsFor (j : Job) (who : Subject) : Bool :=
  match j.body with
  | .failcount w _ _ _ => w == who
  | _ => false

/-- The job is a CHECKPOINT. -/
def Job.isCheckpoint (j : Job) : Bool :=
  match j.body with
  | .checkpoint _ _ => true
  | _ => false

/-- The job is a FREEZE. -/
def Job.isFreeze (j : Job) : Bool := j.body == .freeze

/-- The value of a BOUNDARY job. -/
def Job.boundary? (j : Job) : Option Nat :=
  match j.body with
  | .boundary v => some v
  | _ => none

/-- R177: a hold job. -/
def Job.isHold (j : Job) : Bool :=
  match j.body with
  | .holdAdd _ | .holdRemove _ _ => true
  | _ => false

/-- The job is the HOLD-ADD of a badge on a port. -/
def Job.addsHold (j : Job) (p : Port) (badge : Word) : Bool :=
  match j.body with
  | .holdAdd h => h.port == p && h.badge == badge
  | _ => false

/-- The jobs queued and in flight. -/
def Nvs.jobs (n : Nvs) : List Job := n.inFlight.toList ++ n.queue

end Sys2Proof.Machine
end

