-- ==== Sys2Proof/Machine/Ops.lean ====
section
/-! DEFINITION. The shared operations: vectors, notices, replies, frames sent, messages between blocks, meters, sessions named in
requests, the store queue, and the taking of a host frame. Each is a function on the part; the state to change comes last. -/

namespace Sys2Proof.Machine

/-! ### Vectors and lists -/

/-- The vector with its i-th entry changed by f. -/
def upd {α : Type} {n : Nat} (v : Vector α n) (i : Fin n) (f : α → α) : Vector α n := v.set i (f v[i])

/-- Every entry changed by f. -/
def each {α : Type} {n : Nat} (v : Vector α n) (f : Fin n → α → α) : Vector α n := Vector.ofFn fun i => f i v[i]

/-- An operation for each item, in order. -/
def forEach {α : Type} (l : List α) (f : α → Part → Part) (s : Part) : Part := l.foldl (fun s a => f a s) s

/-- Change one port's entry. -/
def modPort (p : Port) (f : PortRec → PortRec) (s : Part) : Part := { s with ports := upd s.ports p f }

/-- Change one feed's record. -/
def modFeed (f : Feed) (g : FeedRec → FeedRec) (s : Part) : Part := { s with fco.feeds := upd s.fco.feeds f g }

/-! ### Notices (R189 to R191) -/

/-- R190: GAP and RESTARTED are left out of the search and never displaced. -/
def Notice.displaceable (n : Notice) : Bool :=
  match n.body with
  | .gap _ | .restarted _ => false
  | _ => true

/-- R190: the lowest priority among the notices that may be displaced. -/
def lowestPriority (l : List Notice) : Option Nat :=
  (l.filter (·.displaceable)).foldl (fun m n => match m with
    | none => some n.body.priority
    | some k => some (min k n.body.priority)) none

/-- R190: the queue without its oldest displaceable notice of a priority. -/
def dropOldest (priority : Nat) (l : List Notice) : List Notice :=
  l.eraseP fun n => n.displaceable && n.body.priority == priority

/-- R190: the GAP count one higher; at 255 it stays. -/
def bumpGap (h : Hlc) : Hlc := { h with gap := min 255 (h.gap + 1) }

/-- R189, R190: a notice joins the queue, displaces one, or is dropped. -/
def Hlc.enqueue (n : Notice) (h : Hlc) : Hlc :=
  if h.notices.length < Config.noticeSize then { h with notices := h.notices ++ [n] }
  else match lowestPriority h.notices with
    | none => bumpGap h
    | some k =>
      if k ≤ n.body.priority then bumpGap { h with notices := dropOldest k h.notices ++ [n] }
      else bumpGap h

/-- R189: a block raises a notice, stamped with hall time and pitch count. -/
def raise (body : NoticeBody) (s : Part) : Part :=
  { s with hlc := s.hlc.enqueue ⟨body, s.mtu.hall, s.trk.pitch⟩ }

/-! ### Replies (R183 to R185) -/

/-- R183: an immediate reply; a ninth is not made. -/
def immediate (kind tag : Byte) (code : Code) (s : Part) : Part :=
  if s.hlc.replies.countP (·.entry.isNone) < Config.immediateSize then
    { s with hlc.replies := s.hlc.replies ++ [⟨none, kind, tag, code, []⟩] }
  else s

/-- The entry of a request that has no reply yet. -/
def Hlc.unreplied (h : Hlc) (handle : Nat) : Option Entry :=
  h.table.find? fun e => e.handle == handle && e.condition != .replied

/-- R185: HLC marks the entry replied and its reply joins the reply stream. Each request receives one reply: a request that is
replied already, or whose entry has left the table, receives no second one. Content goes with DONE only. -/
def Hlc.reply (handle : Nat) (code : Code) (content : List Byte) (h : Hlc) : Hlc :=
  match h.unreplied handle with
  | none => h
  | some e =>
    { h with
      table := h.table.map fun x => if x.handle == handle then { x with condition := .replied } else x
      replies := h.replies ++ [⟨some handle, e.kind.byte, e.tag, code, if code = .done then content else []⟩] }

/-- R185: an owner replies to a request. -/
def reply (handle : Nat) (code : Code) (s : Part) : Part := { s with hlc := s.hlc.reply handle code [] }

/-- R185: an owner replies DONE with content. -/
def replyWith (handle : Nat) (content : List Byte) (s : Part) : Part := { s with hlc := s.hlc.reply handle .done content }

/-- The requests that wait for a job are replied. -/
def replyAll (origin : List Nat) (code : Code) (s : Part) : Part := forEach origin (fun h => reply h code) s

/-! ### Frames to stations and reader (R92, R105, R121) -/

/-- R92: a frame handed over for a port; dropped when the link is down. Nothing is sent in START-UP and SAVE. -/
def sendStation (p : Port) (f : StationOut) (s : Part) : Part :=
  if s.active && s.ports[p].link then modPort p (fun r => { r with sent := r.sent ++ [f.bytes] }) s else s

/-- R92: REFUSE, with the reason and the kind of the frame refused. -/
def refuse (p : Port) (why : Reason) (kind : Byte) (s : Part) : Part := sendStation p (.refuse why kind) s

/-- R121: a frame to the reader; none in START-UP and SAVE. -/
def sendReader (f : ReaderOut) (s : Part) : Part :=
  if s.active then { s with sva.readerSent := s.sva.readerSent ++ [f.bytes] } else s

/-! ### Messages between FCO and TRK (R15 to R21, R54, R60) -/

/-- FCO sends TRK a fill request; TRK takes them in the order sent. -/
def askTrk (m : FillRequest) (s : Part) : Part := { s with fco.toTrk := s.fco.toTrk ++ [m] }

/-- TRK sends FCO an answer or WINDOW LEFT. -/
def tellFco (m : TrkMessage) (s : Part) : Part := { s with fco.toFco := s.fco.toFco ++ [m] }

/-! ### Meters and service status (R154, R158, R159) -/

/-- R159: the notice for a new status. -/
def raiseService (p : Port) (new : Service) (s : Part) : Part :=
  let role := s.ports[p].cfg.role
  let a := s.mtu.meters[meterA p].value
  let c := s.mtu.cfg[p]
  match new with
  | .none => s
  | .due => raise (.serviceDue p role a c.threshold c.grace) s
  | .limit => raise (.hardLimit p role a c.threshold c.grace) s

/-- R158, R159: MTU evaluates a port; a changed status is set and raises its notice. -/
def evalService (p : Port) (s : Part) : Part :=
  let new := serviceOf s.mtu.cfg[p] s.mtu.meters[meterA p].value
  if new = s.mtu.service[p] then s
  else raiseService p new { s with mtu.service := s.mtu.service.set p new }

/-- R165, R166: every port is evaluated, its status before taken as NONE; the ports ascending (log entry 42; at entry to RUN also log
entry 11). -/
def evalServiceAfresh (s : Part) : Part :=
  forEach (List.finRange 12) evalService { s with mtu.service := Vector.replicate 12 .none }

/-- R154, R158: a port is evaluated after a change of its meter A. -/
def evalMeter (m : Meter) (s : Part) : Part :=
  match portOfMeterA m with
  | none => s
  | some p => if m.val < 24 then evalService p s else s

/-- R154: MTU applies a reported increment of one, or marks the meter FULL. After the start of a save's checkpoint it applies
none (R164). -/
def meterInc (m : Meter) (s : Part) : Part :=
  let r := s.mtu.meters[m]
  if s.mtu.closed || r.full then s
  else if r.value = BitVec.allOnes 32 then
    raise (.meterFull m r.value 1) { s with mtu.meters := s.mtu.meters.set m { r with full := true } }
  else evalMeter m { s with mtu.meters := s.mtu.meters.set m { r with value := r.value + 1 } }

/-! ### Return from QUIET (R198) -/

/-- R198: a wake source returns the part to RUN; in RUN it does nothing. -/
def wakeUp (cause : WokenCause) (s : Part) : Part :=
  if s.psc.state = .quiet then raise (.woken cause) { s with psc.state := .run } else s

/-! ### Run enable, draining and pending LOCKOUTs (R135, R136) -/

/-- The port's holder set has a recorded hold of the badge. -/
def Part.holdRecorded (s : Part) (p : Port) (badge : Word) : Bool :=
  s.sva.holders[p].any fun h => h.badge == badge && h.recorded

/-- R135: a pending LOCKOUT for which both conditions of DONE hold. -/
def Part.lockoutReady (s : Part) (p : Port) (k : Lockout) : Bool :=
  k.port == p && !s.runEnable p && s.holdRecorded p k.badge

/-- R135: when the run enable output falls, the LOCKOUTs whose hold is recorded are replied DONE. -/
def settleLockouts (p : Port) (s : Part) : Part :=
  forEach (s.sva.lockouts.filter (s.lockoutReady p)) (fun k => reply k.request .done)
    { s with sva.lockouts := s.sva.lockouts.filter fun k => !s.lockoutReady p k }

/-- R136: FCO reports that draining for the robot on a port has begun. -/
def drainBegins (p : Port) (s : Part) : Part := { s with sva.draining := s.sva.draining.set p true }

/-- R136: FCO reports that draining has ended; the run enable output may fall with it. -/
def drainEnds (p : Port) (s : Part) : Part := settleLockouts p { s with sva.draining := s.sva.draining.set p false }

/-! ### Sessions named in requests (R128) -/

/-- The open session of a number; 0 names none. -/
def Sva.session? (v : Sva) (num : Byte) : Option Session :=
  if num = 0 then none else v.sessions.find? (·.num == num)

/-- R128: the session's idle timer restarts with the active session timeout. -/
def restartIdle (num : Byte) (s : Part) : Part :=
  let t := s.timer (s.sva.timeout * Config.minute)
  { s with sva.sessions := s.sva.sessions.map fun x => if x.num == num then { x with idle := t } else x }

/-- R128: the roles permitted a request. -/
def anyRole : BadgeRole → Bool := fun _ => true

/-- R128: TECHNICIAN and SUPERVISOR. -/
def technicianUp : BadgeRole → Bool
  | .operator => false
  | _ => true

/-- R128: SUPERVISOR only. -/
def supervisorOnly : BadgeRole → Bool
  | .supervisor => true
  | _ => false

/-- R128: the session check and the permission check; a request that passes both restarts the idle timer and goes on. -/
def withSession (h : Nat) (num : Byte) (permitted : BadgeRole → Bool) (go : Session → Part → Part) (s : Part) : Part :=
  match s.sva.session? num with
  | none => reply h .noSession s
  | some x => if permitted x.role then go x (restartIdle num s) else reply h .notPermitted s

/-! ### Fields of requests -/

/-- A request whose field is out of range is refused BAD-VALUE. -/
def orBadValue {α : Type} (h : Nat) (a : Option α) (go : α → Part → Part) (s : Part) : Part :=
  match a with
  | none => reply h .badValue s
  | some a => go a s

/-- A request goes on when a check holds and is refused with a code otherwise. -/
def check (h : Nat) (ok : Bool) (code : Code) (go : Part → Part) (s : Part) : Part :=
  if ok then go s else reply h code s

/-! ### The store queue (R176, R178) -/

/-- A job joins the tail of the store job queue. -/
def queueJob (body : JobBody) (origin : List Nat) (s : Part) : Part :=
  { s with nvs.queue := s.nvs.queue ++ [⟨body, origin⟩] }

/-- R178: a request for a job waits at the store; where there is no room it is refused FULL. -/
def queueOrFull (h : Nat) (body : JobBody) (s : Part) : Part :=
  check h s.nvs.hasRoom .full (queueJob body [h]) s

/-- R162, R178: a CHECKPOINT is asked for: a waiting one serves it, else it is queued, else the deferred mark is set. -/
def askCheckpoint (s : Part) : Part :=
  if s.nvs.queue.any (·.isCheckpoint) then s
  else if s.nvs.hasRoom then queueJob (.checkpoint none false) [] s
  else if s.nvs.deferred.contains .checkpoint then s
  else { s with nvs.deferred := s.nvs.deferred ++ [.checkpoint] }

/-! ### Taking a host frame (R182 to R185) -/

/-- R182, R199: the receiver inside a frame, by the bytes taken after SYNC: LENGTH (2), KIND, TAG, the payload that LENGTH
announces, and the CRC (2). A LENGTH above 248 is a length fault at once. The last byte ends the frame: good when the CRC computed
over LENGTH through PAYLOAD is the one received, and the next SYNC may follow directly; else a CRC fault. -/
def Receiver.inFrame (taken : List Byte) : Receiver :=
  let n := fromLe (taken.take 2)
  if taken.length < 2 then .insideFrame taken
  else if Config.payloadSize < n then .gapWanted
  else if taken.length < n + 6 then .insideFrame taken
  else if frameGood (taken.take (n + 4)) (BitVec.ofNat 16 (fromLe (taken.drop (n + 4)))) then .ready
  else .gapWanted

/-- R182: the receiver takes one character. At rest and ready, SYNC begins a frame and any other character is ignored, and a SYNC
after it no longer follows an idle gap or a good frame; waiting for an idle gap it ignores everything; inside a frame a character
without a stop bit is a character fault. -/
def Receiver.next : Receiver → Character → Receiver
  | .ready, some b => if b = 0xA5 then .insideFrame [] else .gapWanted
  | .insideFrame taken, some b => Receiver.inFrame (taken ++ [b])
  | _, _ => .gapWanted

/-- R182: the receiver takes characters one after the other. -/
def Receiver.run (r : Receiver) (l : List Character) : Receiver := l.foldl Receiver.next r

/-- R182: some character of these ends a good frame: only there does a character bring the receiver to rest and ready. -/
def Receiver.endsGood : Receiver → List Character → Bool
  | _, [] => false
  | r, c :: l => r.next c == .ready || (r.next c).endsGood l

/-- R182: a host frame is received, character by character, by a receiver at rest and ready; it is taken if it ends good. In
START-UP nothing is received; while the receiver waits for an idle gap the frame's SYNC begins no frame; inside a frame under way
no good frame begins (log entry 5). -/
def takeFrame (kind tag : Byte) (payload : List Byte) (good : Part → Part) (s : Part) : Part :=
  if s.hostReceives && s.hlc.receiver == .ready then
    match Receiver.run .ready ((hostFrame kind tag payload).map some) with
    | .ready => good s
    | r => { s with hlc.receiver := r }
  else s

/-- R184: the request is entered in the table. While a RESTART waits it is not dispatched (R192). -/
def enterRequest (kind : ReqKind) (tag : Byte) (payload : List Byte) (s : Part) : Part :=
  { s with
    hlc.table := s.hlc.table ++
      [⟨s.hlc.nextHandle, kind, tag, payload, kind.owner, if s.psc.restart.isSome then .waiting else .dispatched⟩]
    hlc.nextHandle := s.hlc.nextHandle + 1 }

/-- R183 checks 2 to 4, R184, R185: the checks of a request, its entry and its dispatch to the owner, whose own rule is `serve`,
given the handle of the entry. -/
def checkRequest (kind : ReqKind) (tag : Byte) (payload : List Byte) (serve : Nat → Part → Part) (s : Part) : Part :=
  if !lengthFits kind payload then immediate kind.byte tag .badLength s
  else if s.psc.state = .save then immediate kind.byte tag .saving s
  else if s.psc.state = .quiet ∧ kind.servedInQuiet = false then immediate kind.byte tag .quiet s
  else if Config.tableSize ≤ s.hlc.table.length then immediate kind.byte tag .busy s
  else if s.psc.restart.isSome then enterRequest kind tag payload s
  else serve s.hlc.nextHandle (enterRequest kind tag payload s)

/-- A host request: one good frame of the kind. -/
def takeRequest (kind : ReqKind) (tag : Byte) (payload : List Byte) (serve : Nat → Part → Part) (s : Part) : Part :=
  takeFrame kind.byte tag payload (checkRequest kind tag payload serve) s

/-! ### From the part to the machine -/

/-- A command's effect on the part; the queue of commands is not touched, and no command stops the part. -/
def act (f : Part → Part) (s : State) : Host.Outcome State Fault Refusal := .next { s with part := f s.part }

end Sys2Proof.Machine
end

