-- ==== Sys2Proof/Machine/HostLink.lean ====
section
/-! DEFINITION. HLC's commands (09_host_link_requests_and_notices.md): IDENTIFY, STATUS, MASK, frames of no request kind, discarded
frames and idle gaps, and the transmitter. -/

namespace Sys2Proof.Machine

/-! ### Requests HLC owns (R187, R188) -/

/-- R187, R201: IDENTIFY's content. -/
def identifyContent (s : Part) : List Byte :=
  identityBytes s.nvs.identity ++ le 2 Config.productCode ++
    [s.hlc.rate.byte, BitVec.ofNat 8 Config.tableSize, BitVec.ofNat 8 Config.noticeSize]

/-- R187: IDENTIFY. -/
def serveIdentify (h : Nat) (s : Part) : Part := replyWith h (identifyContent s) s

/-- R187, R201: STATUS's content, gathered from the owners. -/
def statusContent (s : Part) : List Byte :=
  [s.psc.state.byte, s.psc.cause.byte, s.trk.line.byte, markByte s.trk.geometryPending,
   BitVec.ofNat 8 s.trk.escapePending, BitVec.ofNat 8 s.hlc.table.length, BitVec.ofNat 8 s.hlc.notices.length,
   BitVec.ofNat 8 s.hlc.mask, BitVec.ofNat 8 s.hlc.gap, BitVec.ofNat 8 s.nvs.queue.length]

/-- R187: STATUS. -/
def serveStatus (h : Nat) (s : Part) : Part := replyWith h (statusContent s) s

/-- R188: MASK sets the mask level; a value above 7 is refused. -/
def serveMask (payload : List Byte) (h : Nat) (s : Part) : Part :=
  let level := (byteAt payload 0).toNat
  check h (decide (level ≤ 7)) .badValue (fun s => reply h .done { s with hlc.mask := level }) s

/-- IDENTIFY (R187). -/
def execIdentify (tag : Byte) (payload : List Byte) (s : State) : Host.Outcome State Fault Refusal :=
  act (takeRequest .identify tag payload serveIdentify) s

/-- STATUS (R187). -/
def execStatus (tag : Byte) (payload : List Byte) (s : State) : Host.Outcome State Fault Refusal :=
  act (takeRequest .status tag payload serveStatus) s

/-- MASK (R188). -/
def execMask (tag : Byte) (payload : List Byte) (s : State) : Host.Outcome State Fault Refusal :=
  act (takeRequest .mask tag payload (serveMask payload)) s

/-! ### Frames that are no request (R182, R183) -/

/-- R183 check 1: a good frame whose kind is no request kind. A request kind is no command of this row. -/
def unknownFrame (kind tag : Byte) (payload : List Byte) (s : Part) : Part :=
  if isRequestKind kind then s else takeFrame kind tag payload (immediate kind tag .unknownKind) s

/-- UNKNOWN_KIND (R183). -/
def execUnknownKind (kind tag : Byte) (payload : List Byte) (s : State) : Host.Outcome State Fault Refusal :=
  act (unknownFrame kind tag payload) s

/-- R182: characters that end no good frame: stray ones at rest, a frame with a length, character or CRC fault, or the beginning of a
frame that an idle gap will cut short. Characters among which a good frame ends are no command of this row (log entry 20). -/
def discardHostFrame (characters : List Character) (s : Part) : Part :=
  if s.hostReceives && !s.hlc.receiver.endsGood characters then { s with hlc.receiver := s.hlc.receiver.run characters } else s

/-- HOST_FRAME_DISCARDED (R182, R199). -/
def execHostFrameDiscarded (s : State) (characters : List Character := [none]) : Host.Outcome State Fault Refusal :=
  act (discardHostFrame characters) s

/-- R182: an idle gap ends a frame under way and lets the next SYNC begin one. -/
def hostGap (s : Part) : Part := if s.hostReceives then { s with hlc.receiver := .ready } else s

/-- HOST_IDLE_GAP (R182). -/
def execHostIdleGap (s : State) : Host.Outcome State Fault Refusal := act hostGap s

/-! ### The transmitter (R186, R189, R191) -/

/-- R184, R186: the frame under way has been sent whole; the entry of a table reply leaves the table. -/
def finishFrame (s : Part) : Part :=
  match s.hlc.sending with
  | none => s
  | some f =>
    { s with
      hlc.sending := none
      hlc.sent := s.hlc.sent ++ [f.bytes]
      hlc.table := match f with
        | .reply r => s.hlc.table.filter fun e => some e.handle != r.entry
        | .notice _ => s.hlc.table }

/-- R189: a notice is sendable when its priority is above the mask level. -/
def Hlc.sendable (h : Hlc) (n : Notice) : Bool := decide (h.mask < n.body.priority)

/-- R191: a place has freed; with a GAP count above 0 a GAP notice joins the tail and the count returns to 0. -/
def gapAfterFree (s : Part) : Part :=
  if s.hlc.gap = 0 then s
  else { s with
    hlc.notices := s.hlc.notices ++ [⟨.gap s.hlc.gap, s.mtu.hall, s.trk.pitch⟩]
    hlc.gap := 0 }

/-- R186: the oldest reply's frame begins. -/
def beginReply (s : Part) : Part :=
  match s.hlc.replies with
  | [] => s
  | r :: rest => { s with hlc.replies := rest, hlc.sending := some (.reply r), hlc.lastNotice := false }

/-- R189: the frame of the oldest sendable notice begins; the notice leaves the queue. -/
def beginNotice (s : Part) : Part :=
  match s.hlc.notices.find? s.hlc.sendable with
  | none => s
  | some n =>
    gapAfterFree { s with
      hlc.notices := s.hlc.notices.eraseP s.hlc.sendable
      hlc.sending := some (.notice n)
      hlc.lastNotice := true }

/-- R186: the transmitter chooses; when both kinds wait, the kind it did not send last. -/
def chooseFrame (s : Part) : Part :=
  if s.hlc.notices.any s.hlc.sendable && (s.hlc.replies.isEmpty || !s.hlc.lastNotice) then beginNotice s else beginReply s

/-- R186: the transmitter finishes the frame under way, if one is, and chooses the next (log entry 21). -/
def transmitterEvent (s : Part) : Part := if s.hostSends then chooseFrame (finishFrame s) else s

/-- TRANSMITTER_FRAME_END (R186). -/
def execTransmitterFrameEnd (s : State) : Host.Outcome State Fault Refusal := act transmitterEvent s

end Sys2Proof.Machine
end

