-- ==== Sys2Proof/Machine/Inspection.lean ====
section
/-! DEFINITION. Verdicts, the gate decision, the exit list and the reading of track and exit list
(02_inspection_verdicts_and_the_reject_gate.md). -/

namespace Sys2Proof.Machine

/-! ### The gate decision (R36 to R40) -/

/-- R40: an entry joins the tail; of more than sixteen the oldest is removed. -/
def pushExit (l : List ExitEntry) (e : ExitEntry) : List ExitEntry := (l ++ [e]).drop (l.length + 1 - Config.exitSize)

/-- R37: the exit entry of a record decided with a cause set. -/
def Part.exitEntry (s : Part) (r : Record) (c : Causes) : ExitEntry :=
  { record := r, gateOffset := s.trk.geometry.gate, decision := c.decision, causes := c, pitch := s.trk.pitch,
    hall := s.mtu.hall, late := [], escape := false, unread := true }

/-- R37: meter 25 for PASS, meter 26 for REJECT. -/
def Decision.meter : Decision → Meter
  | .pass => 25
  | .reject => 26

/-- R37 steps 1 to 3: the entry, the exit list and the meter. -/
def recordDecision (r : Record) (c : Causes) (s : Part) : Part :=
  meterInc c.decision.meter { s with trk.exits := pushExit s.trk.exits (s.exitEntry r c) }

/-- R38: GATE at a decision of step 4. -/
def driveGate (d : Decision) (s : Part) : Part :=
  match d with
  | .reject => { s with trk.gate := true, trk.gateTimer := s.timer Config.gateTime }
  | .pass => { s with trk.gate := false, trk.gateTimer := none }

/-- R36, R37: a record decided at step 4 of a pitch event. -/
def decideAtGate (r : Record) (s : Part) : Part :=
  let c := s.causes r
  driveGate c.decision (recordDecision r c s)

/-- R26: a record decided in a save: CROSSED joins its causes, and GATE is left alone. -/
def decideInSave (r : Record) (s : Part) : Part := recordDecision r { s.causes r with crossed := true } s

/-- R38: the gate timer expires. -/
def gateExpiry (s : Part) : Part :=
  if s.due s.trk.gateTimer then { s with trk.gate := false, trk.gateTimer := none } else s

/-- GATE_TIMER_EXPIRY (R38). -/
def execGateTimerExpiry (s : State) : Host.Outcome State Fault Refusal := act gateExpiry s

/-! ### Verdicts (R30 to R35) -/

/-- The KIND byte of VERDICT, named in its REFUSE. -/
def verdictKind : Byte := 0x0A

/-- R31: a verdict for a record on the track. -/
def verdictOnTrack (p : Port) (r : Record) (v : Verdict) (s : Part) : Part :=
  if s.trk.position r < s.trk.geometry.cameras[p].offset then refuse p .early verdictKind s
  else if hasVerdict r.verdicts p then refuse p .duplicate verdictKind s
  else
    meterInc (meterA p) { s with trk.track := s.trk.track.map fun x =>
      if x.container == r.container then { x with verdicts := x.verdicts ++ [v] } else x }

/-- R34: the late verdict makes an escape of the entry. -/
def Verdict.escapes (v : Verdict) (e : ExitEntry) : Bool :=
  v.result != .pass && e.decision == .pass && !e.escape

/-- R33, R34: the entry with the late verdict added. -/
def ExitEntry.addLate (e : ExitEntry) (v : Verdict) : ExitEntry :=
  { e with late := e.late ++ [v], unread := true, escape := e.escape || v.escapes e }

/-- R33, R34: a verdict for a container in the exit list. -/
def verdictLate (p : Port) (e : ExitEntry) (v : Verdict) (s : Part) : Part :=
  let c := e.record.container
  if hasVerdict e.record.verdicts p || hasVerdict e.late p then refuse p .duplicate verdictKind s
  else
    let s := { s with trk.exits := s.trk.exits.map fun x => if x.record.container == c then x.addLate v else x }
    let s := raise (.lateVerdict c p v.result v.reason) (refuse p .late verdictKind s)
    if v.escapes e then raise (.escape c p v.result) (meterInc 27 s) else s

/-- R30: TRK takes a VERDICT. -/
def takeVerdict (p : Port) (c : Half) (result reason : Byte) (s : Part) : Part :=
  let v : Verdict := ⟨p, verdictOf result, reason, s.trk.pitch⟩
  if s.ports[p].cfg.role != .camera then refuse p .wrongRole verdictKind s
  else if !s.trk.geometry.placed p then refuse p .outOfWindow verdictKind s
  else if c = 0 then refuse p .unknown verdictKind s
  else match s.trk.find c with
    | some r => verdictOnTrack p r v s
    | none =>
      match s.trk.exits.find? (·.record.container == c) with
      | some e => verdictLate p e v s
      | none => refuse p .unknown verdictKind s

/-! ### TRACK READ (R43, R200) -/

/-- R43, R200: the content of LIST from index i. -/
def trackListContent (s : Part) (i : Nat) : List Byte :=
  let items := (s.trk.track.drop i).take 40
  BitVec.ofNat 8 s.trk.track.length :: le 4 s.trk.pitch.toNat ++
    [BitVec.ofNat 8 s.trk.geometry.gate, BitVec.ofNat 8 items.length] ++
    items.flatMap fun r => r.item (s.trk.position r)

/-- R43: LIST. -/
def trackList (i h : Nat) (s : Part) : Part :=
  check h (decide (i ≤ 89)) .badValue (fun s => replyWith h (trackListContent s i) s) s

/-- R43: RECORD. -/
def trackRecord (n h : Nat) (s : Part) : Part :=
  match if n = 0 then none else s.trk.find (BitVec.ofNat 16 n) with
  | none => reply h .notFound s
  | some r => replyWith h (le 4 s.trk.pitch.toNat ++ r.block (s.trk.position r)) s

/-- R43: TRACK READ by its selector. -/
def serveTrackRead (payload : List Byte) (h : Nat) (s : Part) : Part :=
  match (byteAt payload 0).toNat with
  | 0 => trackList (numberAt payload 1 2) h s
  | 1 => trackRecord (numberAt payload 1 2) h s
  | _ => reply h .badValue s

/-- TRACK_READ_LIST (R43). -/
def execTrackReadList (tag : Byte) (payload : List Byte) (s : State) : Host.Outcome State Fault Refusal :=
  act (takeRequest .trackRead tag payload (serveTrackRead payload)) s

/-- TRACK_READ_RECORD (R43). -/
def execTrackReadRecord (tag : Byte) (payload : List Byte) (s : State) : Host.Outcome State Fault Refusal :=
  act (takeRequest .trackRead tag payload (serveTrackRead payload)) s

/-! ### EXIT READ (R44, R200) -/

/-- R44, R200: the content of SUMMARY. -/
def exitSummaryContent (s : Part) : List Byte :=
  [BitVec.ofNat 8 s.trk.exits.length, BitVec.ofNat 8 s.trk.escapePending] ++ s.trk.exits.flatMap (·.item)

/-- R44: SUMMARY leaves every unread mark. -/
def exitSummary (h : Nat) (s : Part) : Part := replyWith h (exitSummaryContent s) s

/-- R44: a full read replies the whole entry and clears its unread mark. -/
def fullRead (h : Nat) (e : Option ExitEntry) (s : Part) : Part :=
  match e with
  | none => reply h .notFound s
  | some e =>
    replyWith h e.bytes { s with trk.exits := s.trk.exits.map fun x =>
      if x.record.container == e.record.container then { x with unread := false } else x }

/-- R44: INDEX. -/
def exitIndex (i h : Nat) (s : Part) : Part :=
  check h (decide (i ≤ 15)) .badValue (fun s => fullRead h s.trk.exits[i]? s) s

/-- R44: CONTAINER. -/
def exitContainer (n h : Nat) (s : Part) : Part :=
  fullRead h (if n = 0 then none else s.trk.exits.find? (·.record.container == BitVec.ofNat 16 n)) s

/-- R44: NEXT ESCAPE. -/
def exitNextEscape (h : Nat) (s : Part) : Part := fullRead h (s.trk.exits.find? (·.escapePending)) s

/-- R44: EXIT READ by its selector. -/
def serveExitRead (payload : List Byte) (h : Nat) (s : Part) : Part :=
  match (byteAt payload 0).toNat with
  | 0 => exitSummary h s
  | 1 => exitIndex (numberAt payload 1 2) h s
  | 2 => exitContainer (numberAt payload 1 2) h s
  | 3 => exitNextEscape h s
  | _ => reply h .badValue s

/-- EXIT_READ_SUMMARY (R44). -/
def execExitReadSummary (tag : Byte) (payload : List Byte) (s : State) : Host.Outcome State Fault Refusal :=
  act (takeRequest .exitRead tag payload (serveExitRead payload)) s

/-- EXIT_READ_INDEX (R44). -/
def execExitReadIndex (tag : Byte) (payload : List Byte) (s : State) : Host.Outcome State Fault Refusal :=
  act (takeRequest .exitRead tag payload (serveExitRead payload)) s

/-- EXIT_READ_CONTAINER (R44). -/
def execExitReadContainer (tag : Byte) (payload : List Byte) (s : State) : Host.Outcome State Fault Refusal :=
  act (takeRequest .exitRead tag payload (serveExitRead payload)) s

/-- EXIT_READ_NEXT_ESCAPE (R44). -/
def execExitReadNextEscape (tag : Byte) (payload : List Byte) (s : State) : Host.Outcome State Fault Refusal :=
  act (takeRequest .exitRead tag payload (serveExitRead payload)) s

end Sys2Proof.Machine
end

