-- ==== Sys2Proof/Machine/Feeds.lean ====
section
/-! DEFINITION. FCO: claims, grants, leases, doses, cuts, and its commands (03_product_feeds_and_fill_leases.md). The station frames
reach it through Stations.lean. -/

namespace Sys2Proof.Machine

/-! ### Small operations -/

/-- Set a feed's state. -/
def setFeed (f : Feed) (st : FeedState) (s : Part) : Part := modFeed f (fun r => { r with state := st }) s

/-- Set a feed's claim queue. -/
def setQueue (f : Feed) (q : List QueueEntry) (s : Part) : Part := modFeed f (fun r => { r with queue := q }) s

/-- R63: a new late note replaces the old one. -/
def setNote (p : Port) (n : Option LateNote) (s : Part) : Part := { s with fco.notes := s.fco.notes.set p n }

/-- The KIND bytes of CLAIM, CANCEL, TAKE, DOSE START and DOSE END, named in a REFUSE. -/
def claimKind : Byte := 0x05
/-- CANCEL. -/
def cancelKind : Byte := 0x06
/-- TAKE. -/
def takeKind : Byte := 0x07
/-- DOSE START. -/
def doseStartKind : Byte := 0x08
/-- DOSE END. -/
def doseEndKind : Byte := 0x09

/-- R47: the state an end target names. -/
def EndTarget.state : EndTarget → FeedState
  | .free => .free
  | .closed => .closed

/-- R60: the request that releases a reservation without a dose delivered under it. -/
def releaseRequest (f : Feed) (p : Port) (c : Half) (remnant : Bool) : FillRequest :=
  if remnant then .fillEnd c p f .incomplete else .clear c p

/-- R60: release of a queued entry's reservation. -/
def releaseEntry (f : Feed) (e : QueueEntry) (s : Part) : Part := askTrk (releaseRequest f e.port e.container e.remnant) s

/-- R60: release of a grant's reservation. -/
def releaseGrant (f : Feed) (l : Lease) (s : Part) : Part := askTrk (releaseRequest f l.port l.container l.remnant) s

/-! ### The arbiter (R58, R59) -/

/-- R59: the lease of a new grant. -/
def Part.newGrant (s : Part) (f : Feed) (e : QueueEntry) : Lease :=
  let c := s.fco.feeds[f].cfg
  let doses := if c.singleDose then 1 else e.doses
  { port := e.port, container := e.container, granted := doses, index := 1, retries := 0, inFlight := false,
    after := e.doses - doses, remnant := e.remnant, timer := s.timer c.takeWindow, target := .free }

/-- R59: the feed is offered to the robot of the entry. -/
def grantEntry (f : Feed) (e : QueueEntry) (s : Part) : Part :=
  let l := s.newGrant f e
  sendStation e.port (.grant f e.container l.granted) (setNote e.port none (setFeed f (.granted l) s))

/-- R58: the arbiter on a queue, head first: an entry whose container has left the window, or whose robot is at LIMIT, is removed;
the first other entry is granted. -/
def offer (f : Feed) : List QueueEntry → Part → Part
  | [], s => setQueue f [] s
  | e :: rest, s =>
    if !s.trk.inWindow e.port e.container then
      offer f rest (sendStation e.port (.withdrawClaim e.container) (releaseEntry f e s))
    else if s.mtu.service[e.port] = .limit then
      offer f rest (refuse e.port .serviceDue claimKind (releaseEntry f e s))
    else grantEntry f e (setQueue f rest s)

/-- R58: the arbiter acts when the feed is FREE. -/
def arbitrate (f : Feed) (s : Part) : Part :=
  if s.fco.feeds[f].state = .free then offer f s.fco.feeds[f].queue s else s

/-! ### Ends of grants and leases (R60, R62, R69, R72, R75, R76) -/

/-- R75, R76: a feed that has reached CLOSED answers its pending FEED CLOSE. -/
def settleClose (f : Feed) (s : Part) : Part :=
  match s.fco.feeds[f].closing with
  | none => s
  | some h =>
    if s.fco.feeds[f].state = .closed then reply h .done (modFeed f (fun r => { r with closing := none }) s) else s

/-- A lease has ended: the feed goes to the end target; SVA is told of the end of a drain; a pending FEED CLOSE is answered. -/
def finishLease (f : Feed) (l : Lease) (drained : Bool) (s : Part) : Part :=
  let s := setFeed f l.target.state s
  settleClose f (if drained then drainEnds l.port s else s)

/-- R55, R57, R74: a grant ends without LAPSE. -/
def endGrant (f : Feed) (l : Lease) (s : Part) : Part := arbitrate f (releaseGrant f l (setFeed f l.target.state s))

/-- R62: a grant lapses. -/
def lapse (f : Feed) (l : Lease) (s : Part) : Part :=
  let s := setFeed f l.target.state (sendStation l.port (.lapse f) s)
  arbitrate f (setNote l.port (some (.take f)) (releaseGrant f l s))

/-- R72: why a grant or lease is cut. -/
inductive CutCause where
  | departure | close | isolation
deriving DecidableEq, Repr

/-- R72: FILL END INCOMPLETE for the container of a lease. -/
def failFill (f : Feed) (l : Lease) (e : EndResult) (s : Part) : Part := askTrk (.fillEnd l.container l.port f e) s

/-- R72: a cut of a feed's grant or lease. -/
def cut (f : Feed) (why : CutCause) (s : Part) : Part :=
  match s.fco.feeds[f].state with
  | .granted l => if why = .isolation then endGrant f l s else lapse f l s
  | .held l =>
    let s := if why = .isolation then s else sendStation l.port (.withdrawFeed f) s
    if l.inFlight then drainBegins l.port (setFeed f (.draining l) s)
    else arbitrate f (finishLease f l false (failFill f l .incomplete s))
  | _ => s

/-! ### Removal of what a robot holds short of a lease (R54 to R57, R74) -/

/-- R54: a void mark on the robot's claim in reservation; the first mark stands (log entry 12). -/
def voidClaim (p : Port) (v : Void) (s : Part) : Part :=
  { s with fco.claims := upd s.fco.claims p fun k => k.map fun k => { k with void := k.void <|> some v } }

/-- The robot's queued entry is removed and its reservation released. -/
def dropQueued (p : Port) (s : Part) : Part :=
  match s.fco.feedQueueing p with
  | none => s
  | some f =>
    let q := s.fco.feeds[f].queue
    forEach (q.filter (·.port == p)) (releaseEntry f) (setQueue f (q.filter (·.port != p)) s)

/-- The robot's grant is ended by an operation. -/
def withGrant (p : Port) (go : Feed → Lease → Part → Part) (s : Part) : Part :=
  match s.fco.feedServing p with
  | none => s
  | some f => match s.fco.feeds[f].state with
    | .granted l => go f l s
    | _ => s

/-- R57: FCO learns that a port has left ADMITTED. -/
def portLeft (p : Port) (s : Part) : Part := withGrant p endGrant (dropQueued p (voidClaim p .silent s))

/-- R56: FCO learns that a robot is HOMING or FAULTED. -/
def robotUnready (p : Port) (s : Part) : Part := withGrant p lapse (dropQueued p (voidClaim p .notReady s))

/-- R74: FCO isolates the robot on a port. It goes by the port of the claim, grant or lease and asks no role, so it cuts a lease whose
port a reload has bound to another role since (log entry 41). -/
def isolateRobot (p : Port) (s : Part) : Part :=
  let s := portLeft p s
  match s.fco.feedServing p with
  | none => s
  | some f => cut f .isolation s

/-! ### Claims (R53, R54) -/

/-- R53 checks 1 to 7: the first reason that applies, or the feed claimed. -/
def claimCheck (s : Part) (p : Port) (feed doses : Byte) : Except Reason Feed :=
  if s.ports[p].cfg.role != .robot then .error .wrongRole
  else if s.ports[p].status != some .ready && s.ports[p].status != some .busy then .error .notReady
  else if s.fco.busy p then .error .claimOpen
  else match feedOf feed.toNat with
    | none => .error .feedClosed
    | some f =>
      if s.fco.feeds[f].state.closedToClaims then .error .feedClosed
      else if doses.toNat < 1 || 3 < doses.toNat then .error .sequence
      else if s.mtu.service[p] = .limit then .error .serviceDue
      else if Config.claimSize ≤ s.fco.load f then .error .notReady
      else .ok f

/-- R53, R54: FCO takes a CLAIM; when checks 1 to 7 pass it goes into reservation. -/
def takeClaim (p : Port) (feed : Byte) (c : Half) (doses : Byte) (s : Part) : Part :=
  match claimCheck s p feed doses with
  | .error why => refuse p why claimKind s
  | .ok f =>
    askTrk (.reserve c p f doses.toNat)
      { s with fco.claims := s.fco.claims.set p (some ⟨f, c, doses.toNat, none⟩) }

/-- R54: the station refusal of TRK's answer. -/
def answerReason : ReserveAnswer → Option Reason
  | .accepted => none
  | .noContainer => some .noContainer
  | .outOfWindow => some .outOfWindow
  | .taken => some .taken

/-- R54: the REFUSE of a void mark. -/
def Void.reason? : Void → Option Reason
  | .silent => none
  | .notReady => some .notReady
  | .feedClosed => some .feedClosed

/-- R54: the claim joins the tail of the feed's queue, and the arbiter acts. -/
def joinQueue (p : Port) (k : Claim) (s : Part) : Part :=
  arbitrate k.feed (setQueue k.feed (s.fco.feeds[k.feed].queue ++ [⟨p, k.container, k.doses, false⟩]) s)

/-- R54: FCO takes TRK's answer for a claim. -/
def answerClaim (p : Port) (k : Claim) (a : ReserveAnswer) (s : Part) : Part :=
  match answerReason a, k.void with
  | none, none => joinQueue p k s
  | none, some v =>
    let s := askTrk (.clear k.container p) s
    match v.reason? with
    | none => s
    | some why => refuse p why claimKind s
  | some why, none => refuse p why claimKind s
  | some why, some v => if v.reason?.isSome then refuse p why claimKind s else s

/-- R54: the answer, if TRK has sent it; the claim in reservation is removed. -/
def takeAnswer (p : Port) (a : ReserveAnswer) (s : Part) : Part :=
  if s.active && s.fco.toFco.contains (.answer p a) then
    let s := { s with fco.toFco := s.fco.toFco.erase (.answer p a) }
    match s.fco.claims[p] with
    | none => s
    | some k => answerClaim p k a { s with fco.claims := s.fco.claims.set p none }
  else s

/-- RESERVE_ANSWER (R54). -/
def execReserveAnswer (port : Port) (answer : ReserveAnswer) (s : State) : Host.Outcome State Fault Refusal :=
  act (takeAnswer port answer) s

/-- R55: FCO takes a CANCEL. -/
def takeCancel (p : Port) (s : Part) : Part :=
  if s.ports[p].cfg.role != .robot then refuse p .wrongRole cancelKind s
  else if (s.fco.feedQueueing p).isSome then dropQueued p s
  else if s.fco.claims[p].isSome then voidClaim p .silent s
  else match s.fco.feedServing p with
    | none => refuse p .sequence cancelKind s
    | some f => match s.fco.feeds[f].state with
      | .granted l => endGrant f l s
      | _ => refuse p .sequence cancelKind s

/-! ### Take (R61) -/

/-- R61: TAKE of the granted feed. -/
def holdFeed (f : Feed) (l : Lease) (s : Part) : Part :=
  setFeed f (.held { l with timer := s.timer s.fco.feeds[f].cfg.holdLimit }) s

/-- R61: a TAKE that finds no grant: LATE against a TAKE note for the feed, else SEQUENCE. -/
def lateTake (p : Port) (f : Feed) (s : Part) : Part :=
  if s.fco.notes[p] = some (.take f) then refuse p .late takeKind (setNote p none s) else refuse p .sequence takeKind s

/-- R61: FCO takes a TAKE. -/
def takeTake (p : Port) (feed : Byte) (s : Part) : Part :=
  if s.ports[p].cfg.role != .robot then refuse p .wrongRole takeKind s
  else match feedOf feed.toNat with
    | none => refuse p .sequence takeKind s
    | some f => match s.fco.feeds[f].state with
      | .granted l => if l.port = p then holdFeed f l s else lateTake p f s
      | _ => lateTake p f s

/-- R62: the take timer of a grant expires. -/
def takeExpiry (f : Feed) (s : Part) : Part :=
  match s.fco.feeds[f].state with
  | .granted l => if s.active && s.due l.timer then lapse f l s else s
  | _ => s

/-- TAKE_TIMER_EXPIRY (R62). -/
def execTakeTimerExpiry (feed : Feed) (s : State) : Host.Outcome State Fault Refusal := act (takeExpiry feed) s

/-! ### Doses (R64 to R71, R75) -/

/-- The lease names the container and the dose index. -/
def Lease.names (l : Lease) (c : Half) (i : Byte) : Bool := l.container == c && l.index == i.toNat

/-- R64 step 1: the HELD lease without a dose in flight that a DOSE START names. -/
def Fco.startable (k : Fco) (p : Port) (c : Half) (i : Byte) : Option (Feed × Lease) :=
  (k.feedServing p).bind fun f => match k.feeds[f].state with
    | .held l => if !l.inFlight && l.names c i then some (f, l) else none
    | _ => none

/-- R64: FCO takes a DOSE START. -/
def takeDoseStart (p : Port) (c : Half) (i : Byte) (s : Part) : Part :=
  if s.ports[p].cfg.role != .robot then refuse p .wrongRole doseStartKind s
  else match s.fco.startable p c i with
    | none => refuse p .sequence doseStartKind s
    | some (f, l) =>
      if !s.trk.inWindow p c then cut f .departure (refuse p .outOfWindow doseStartKind s)
      else setFeed f (.held { l with inFlight := true, timer := s.timer s.fco.feeds[f].cfg.holdLimit }) s

/-- R70: the split remnant of a lease is placed at the head of the queue. -/
def placeRemnant (f : Feed) (l : Lease) (s : Part) : Part :=
  if l.after = 0 then s else setQueue f (⟨l.port, l.container, l.after, true⟩ :: s.fco.feeds[f].queue) s

/-- R66: OK on a HELD lease. -/
def doseOk (f : Feed) (l : Lease) (s : Part) : Part :=
  let s := askTrk (.doseDone l.container l.port f) s
  if l.index < l.granted then
    setFeed f (.held { l with index := l.index + 1, retries := 0, timer := s.timer s.fco.feeds[f].cfg.holdLimit }) s
  else arbitrate f (finishLease f l false (placeRemnant f l s))

/-- R68: SHORT or FAULT on a HELD lease. -/
def doseFailed (f : Feed) (l : Lease) (e : EndResult) (s : Part) : Part :=
  arbitrate f (finishLease f l false (failFill f l e s))

/-- R67: RETRY on a HELD lease; the third is taken as FAULT. -/
def doseRetry (f : Feed) (l : Lease) (s : Part) : Part :=
  if l.retries < 2 then
    setFeed f (.held { l with retries := l.retries + 1, timer := s.timer s.fco.feeds[f].cfg.holdLimit }) s
  else doseFailed f l .fault s

/-- R66 to R68: an accepted DOSE END on a HELD lease. -/
def doseEndHeld (f : Feed) (l : Lease) (r : DoseResult) (s : Part) : Part :=
  match r with
  | .ok => doseOk f l s
  | .retry => doseRetry f l s
  | .short => doseFailed f l .short s
  | .fault => doseFailed f l .fault s

/-- R75: the requests to TRK for the dose that drained. -/
def drainRequests (f : Feed) (l : Lease) : DoseResult → List FillRequest
  | .ok =>
    if l.index = l.granted ∧ l.after = 0 then [.doseDone l.container l.port f]
    else [.doseDone l.container l.port f, .fillEnd l.container l.port f .incomplete]
  | .retry => [.fillEnd l.container l.port f .incomplete]
  | .short => [.fillEnd l.container l.port f .short]
  | .fault => [.fillEnd l.container l.port f .fault]

/-- R75: an accepted DOSE END on a DRAINING lease. -/
def doseEndDraining (f : Feed) (l : Lease) (r : DoseResult) (s : Part) : Part :=
  arbitrate f (finishLease f l true (forEach (drainRequests f l r) askTrk s))

/-- R65: the lease with a dose in flight that a DOSE END names, and whether it is DRAINING. -/
def Fco.endable (k : Fco) (p : Port) (c : Half) (i : Byte) : Option (Feed × Lease × Bool) :=
  (k.feedServing p).bind fun f => match k.feeds[f].state with
    | .held l => if l.inFlight && l.names c i then some (f, l, false) else none
    | .draining l => if l.inFlight && l.names c i then some (f, l, true) else none
    | _ => none

/-- R65: an accepted DOSE END. -/
def acceptDoseEnd (f : Feed) (l : Lease) (draining : Bool) (r : DoseResult) (s : Part) : Part :=
  let l := { l with inFlight := false }
  let s := meterInc (meterA l.port) s
  if draining then doseEndDraining f l r (setFeed f (.draining l) s)
  else doseEndHeld f l r (setFeed f (.held l) s)

/-- R65: FCO takes a DOSE END. -/
def takeDoseEnd (p : Port) (c : Half) (i result : Byte) (s : Part) : Part :=
  if s.ports[p].cfg.role != .robot then refuse p .wrongRole doseEndKind s
  else match s.fco.endable p c i with
    | some (f, l, draining) => acceptDoseEnd f l draining (doseResultOf result) s
    | none =>
      if s.fco.notes[p] = some (.doseEnd c i.toNat) then
        meterInc (meterA p) (refuse p .late doseEndKind (setNote p none s))
      else refuse p .sequence doseEndKind s

/-- R69: the hold timer of a lease expires. -/
def leaseTimeout (f : Feed) (l : Lease) (draining : Bool) (s : Part) : Part :=
  let s := setNote l.port (some (.doseEnd l.container l.index)) (failFill f l .timeout s)
  arbitrate f (raise (.feedTimeout f l.port l.container l.index) (finishLease f l draining s))

/-- R69: the hold timer of a HELD or DRAINING lease. -/
def holdExpiry (f : Feed) (s : Part) : Part :=
  match s.fco.feeds[f].state with
  | .held l => if s.active && s.due l.timer then leaseTimeout f l false s else s
  | .draining l => if s.active && s.due l.timer then leaseTimeout f l true s else s
  | _ => s

/-- HOLD_TIMER_EXPIRY (R69). -/
def execHoldTimerExpiry (feed : Feed) (s : State) : Host.Outcome State Fault Refusal := act (holdExpiry feed) s

/-! ### Window departure (R73) -/

/-- R73: FCO takes a WINDOW LEFT. -/
def windowLeft (c : Half) (p : Port) (f : Feed) (s : Part) : Part :=
  if s.fco.feeds[f].state.lease?.any (fun l => l.port == p && l.container == c) then cut f .departure s else s

/-- WINDOW_LEFT (R73): the message, if TRK has sent it. -/
def execWindowLeft (container : Half) (port : Port) (feed : Feed) (s : State) : Host.Outcome State Fault Refusal :=
  act (fun s =>
    if s.active && s.fco.toFco.contains (.windowLeft container port feed) then
      windowLeft container port feed { s with fco.toFco := s.fco.toFco.erase (.windowLeft container port feed) }
    else s) s

/-! ### Requests (R49, R50, R76) -/

/-- R49: FEED OPEN on a feed. -/
def openFeed (h : Nat) (f : Feed) (s : Part) : Part :=
  check h (s.fco.feeds[f].state == .closed) .wrongState
    (fun s => reply h .done (modFeed f (fun r => { r with state := .free, cfg := s.nvs.feeds[f] }) s)) s

/-- FEED_OPEN (R49). -/
def execFeedOpen (tag : Byte) (payload : List Byte) (s : State) : Host.Outcome State Fault Refusal :=
  act (takeRequest .feedOpen tag payload fun h => orBadValue h (feedOf (byteAt payload 0).toNat) (openFeed h)) s

/-- R47, R76: the feed state with the lease's end target CLOSED. -/
def FeedState.closing : FeedState → FeedState
  | .granted l => .granted { l with target := .closed }
  | .held l => .held { l with target := .closed }
  | .draining l => .draining { l with target := .closed }
  | st => st

/-- R76 step 3: every claim in reservation for the feed is voided. -/
def voidFeedClaims (f : Feed) (s : Part) : Part :=
  { s with fco.claims := each s.fco.claims fun _ k => k.map fun k =>
      if k.feed = f then { k with void := k.void <|> some .feedClosed } else k }

/-- R76 steps 1 to 4: end target, queue, claims in reservation, grant or lease; a FREE feed is set CLOSED. -/
def shutFeed (f : Feed) (s : Part) : Part :=
  let q := s.fco.feeds[f].queue
  let s := modFeed f (fun r => { r with state := r.state.closing, queue := [] }) s
  let s := forEach q (fun e s => releaseEntry f e (refuse e.port .feedClosed claimKind s)) s
  let s := cut f .close (voidFeedClaims f s)
  if s.fco.feeds[f].state = .free then setFeed f .closed s else s

/-- R76: FEED CLOSE on a feed; the reply waits while a dose drains. -/
def closeFeed (h : Nat) (f : Feed) (s : Part) : Part :=
  if s.fco.feeds[f].state = .closed then reply h .wrongState s
  else if s.fco.feeds[f].closing.isSome then reply h .inProgress s
  else
    let s := shutFeed f s
    if s.fco.feeds[f].state = .closed then reply h .done s else modFeed f (fun r => { r with closing := some h }) s

/-- FEED_CLOSE (R76). -/
def execFeedClose (tag : Byte) (payload : List Byte) (s : State) : Host.Outcome State Fault Refusal :=
  act (takeRequest .feedClose tag payload fun h => orBadValue h (feedOf (byteAt payload 0).toNat) (closeFeed h)) s

/-- R201: a queue entry, 5 bytes. -/
def QueueEntry.bytes (e : QueueEntry) : List Byte :=
  numberByte e.port :: le 2 e.container.toNat ++ [BitVec.ofNat 8 e.doses, markByte e.remnant]

/-- R201: the lease block, 14 bytes; the timer is 0 for take and 1 for hold. -/
def leaseBlock (s : Part) (st : FeedState) : List Byte :=
  match st.lease? with
  | none => List.replicate 14 0
  | some l =>
    [1, numberByte l.port] ++ le 2 l.container.toNat ++
      [BitVec.ofNat 8 l.granted, BitVec.ofNat 8 l.index, BitVec.ofNat 8 l.retries, markByte l.inFlight,
       BitVec.ofNat 8 l.after, markByte l.remnant, markByte st.permits] ++
      le 2 (s.timeLeft l.timer) ++ [l.target.byte]

/-- R50, R201: FEED READ's content. -/
def feedContent (s : Part) (f : Feed) : List Byte :=
  let r := s.fco.feeds[f]
  [r.state.byte, markByte (s.permitOutput f)] ++ r.cfg.bytes ++
    [markByte r.closing.isSome, BitVec.ofNat 8 r.queue.length] ++ r.queue.flatMap (·.bytes) ++ leaseBlock s r.state

/-- FEED_READ (R50). -/
def execFeedRead (tag : Byte) (payload : List Byte) (s : State) : Host.Outcome State Fault Refusal :=
  act (takeRequest .feedRead tag payload fun h =>
    orBadValue h (feedOf (byteAt payload 0).toNat) fun f s => replyWith h (feedContent s f) s) s

/-! ### Restart and save (R79, R80) -/

/-- R79 steps 1 and 2: the request that ends a lease or grant in a restart. -/
def restartRequest (f : Feed) : FeedState → List FillRequest
  | .granted l => [releaseRequest f l.port l.container l.remnant]
  | .held l | .draining l => [.fillEnd l.container l.port f .fault]
  | _ => []

/-- R79: one feed in a restart: lease, grant and entries end, the feed is CLOSED, its settings are loaded. A FEED CLOSE that was
taken after the restart was carried out is answered ABORTED (log entry 14). -/
def restartFeed (f : Feed) (s : Part) : Part :=
  let r := s.fco.feeds[f]
  let s := forEach (restartRequest f r.state) askTrk s
  let s := forEach r.queue (releaseEntry f) s
  let s := setFeed f .closed (setQueue f [] s)
  let s := match r.state with
    | .draining l => drainEnds l.port s
    | _ => s
  let s := replyAll r.closing.toList .aborted s
  modFeed f (fun r => { r with closing := none, cfg := s.nvs.feeds[f] }) s

/-- R79: FCO applies a restart, feeds 1 to 4 in ascending order (log entry 42). -/
def restartFco (s : Part) : Part :=
  let s := forEach (List.finRange 4) restartFeed s
  { s with
    fco.claims := each s.fco.claims fun _ k => k.map fun k => { k with void := some .silent }
    fco.notes := Vector.replicate 12 none }

/-- FCO_RESTART (R79): once for each restart carried out (R196). -/
def execFcoRestart (s : State) : Host.Outcome State Fault Refusal :=
  act (fun s => if s.psc.owed.fco then restartFco { s with psc.owed.fco := false } else s) s

/-- A change of the timer of a grant or lease. -/
def FeedState.mapTimer (g : Timer → Timer) : FeedState → FeedState
  | .granted l => .granted { l with timer := g l.timer }
  | .held l => .held { l with timer := g l.timer }
  | .draining l => .draining { l with timer := g l.timer }
  | st => st

/-- R80: FCO at entry to SAVE stops its timers. -/
def saveFco (s : Part) : Part :=
  { s with fco.feeds := each s.fco.feeds fun _ r => { r with state := r.state.mapTimer fun _ => none } }

end Sys2Proof.Machine
end

