-- ==== Sys2Proof/Machine/Proofs.lean ====
section
/-! DEFINITION. PRV with the admission of ports: proof contexts, failed-proof counts, barring of ports and of the reader, and PRV's
commands (05_keys_proofs_and_attempt_limits.md, R88, R89). -/

namespace Sys2Proof.Machine

/-! ### Leaving ADMITTED (R88) -/

/-- Set a port's admission state. -/
def setAdmission (p : Port) (a : Admission) (s : Part) : Part := modPort p (fun r => { r with admission := a }) s

/-- R88 step 2: the relay queue is discarded, with RELAY DROPPED when it held messages. -/
def dropRelay (p : Port) (s : Part) : Part :=
  let n := s.ports[p].relay.length
  if n = 0 then s else raise (.relayDropped p n) (modPort p (fun r => { r with relay := [] }) s)

/-- R88: a port leaves ADMITTED for another state: FCO is told, the relay queue discarded, PORT STATE raised. -/
def leaveAdmitted (p : Port) (dest : Admission) (why : LeaveCause) (s : Part) : Part :=
  raise (.portState p dest why) (dropRelay p (portLeft p (setAdmission p dest s)))

/-! ### Barring of a port (R89, R115) -/

/-- A port's proof context ends. -/
def endContext (p : Port) (s : Part) : Part := { s with prv.contexts := s.prv.contexts.set p none }

/-- R89: PRV reports the port barred. -/
def barPort (p : Port) (s : Part) : Part :=
  let s := endContext p s
  let s := if s.ports[p].admission = .admitted then leaveAdmitted p .barred .barred s else setAdmission p .barred s
  raise (.portBarred p s.prv.counts[p]) s

/-- R82, R90: the state in which a port with its link up waits. -/
def waitingState (r : PortRec) : Admission := if r.parked then .parked else .listening

/-- R89: PRV reports the port no longer barred. -/
def unbarPort (p : Port) (s : Part) : Part :=
  modPort p (fun r => { r with admission := if r.link then waitingState r else .dark }) s

/-- R115: PRV evaluates a port and reports a change of its barred condition. In SAVE it is not acted on (R119). -/
def evalPort (p : Port) (s : Part) : Part :=
  if s.psc.state = .save then s
  else if s.portBarred p && s.ports[p].admission != .barred then barPort p s
  else if !s.portBarred p && s.ports[p].admission == .barred then unbarPort p s
  else s

/-! ### Barring of the reader (R117, R118, R125) -/

/-- R117, R125: PRV bars the reader; an exchange under way ends with REFUSE BARRED. -/
def barReader (s : Part) : Part :=
  let s := match s.sva.reader with
    | .challenging _ _ => sendReader (.refuse .barred) { s with prv.readerContext := none }
    | _ => s
  raise (.readerBarred s.prv.readerCount s.prv.barPeriod)
    { s with prv.barTimer := s.timer (s.prv.barPeriod * Config.minute), sva.reader := .barred }

/-- R117, R118: the reader is no longer barred. -/
def unbarReader (s : Part) : Part := { s with prv.barTimer := none, sva.reader := .ready }

/-- R117, R118: the reader is evaluated against count and limit. In SAVE it is not acted on. -/
def evalReader (s : Part) : Part :=
  if s.psc.state = .save then s
  else if s.readerBarred && s.sva.reader != .barred then barReader s
  else if !s.readerBarred && s.sva.reader == .barred then unbarReader s
  else s

/-! ### Counts and their FAILCOUNT jobs (R114, R116, R178) -/

/-- The count PRV holds for a subject. -/
def Prv.count (v : Prv) : Subject → Nat
  | .port p => v.counts[p]
  | .reader => v.readerCount

/-- The failcount job body with a new value; a lifting mark is kept, or taken when `lifts`. -/
def JobBody.withCount (value : Nat) (lifts : Bool) : JobBody → JobBody
  | .failcount who _ lifting stale => .failcount who value (lifting || lifts) stale
  | b => b

/-- R116: the lifting job in flight notes that its count has changed. -/
def JobBody.marked : JobBody → JobBody
  | .failcount who value lifting _ => .failcount who value lifting true
  | b => b

/-- R116: a lifting FAILCOUNT for the subject is in flight. -/
def Nvs.liftInFlight (n : Nvs) (who : Subject) : Bool :=
  n.inFlight.any fun j => match j.body with
    | .failcount w _ lifting _ => w == who && lifting
    | _ => false

/-- R178: the subject's deferred mark; it holds at most one, and takes the lifting mark of a job it stands for. -/
def deferCount (who : Subject) (lifts : Bool) (l : List Deferred) : List Deferred :=
  let mine : Deferred → Bool := fun d => match d with
    | .failcount w _ => w == who
    | .checkpoint => false
  if l.any mine then l.map fun d => if mine d && lifts then .failcount who true else d
  else l ++ [.failcount who lifts]

/-- R114, R116, R178: the FAILCOUNT job of a changed count: into the waiting job, else a new job, else the deferred mark. -/
def queueCount (who : Subject) (value : Nat) (s : Part) : Part :=
  let lifts := s.nvs.liftInFlight who
  let s := if lifts then { s with nvs.inFlight := s.nvs.inFlight.map fun j => { j with body := j.body.marked } } else s
  if s.nvs.queue.any (·.countsFor who) then
    { s with nvs.queue := s.nvs.queue.map fun j =>
        if j.countsFor who then { j with body := j.body.withCount value lifts } else j }
  else if s.nvs.hasRoom then queueJob (.failcount who value lifts false) [] s
  else { s with nvs.deferred := deferCount who lifts s.nvs.deferred }

/-- The count PRV holds is set, with no job. -/
def putCount (who : Subject) (value : Nat) (s : Part) : Part :=
  match who with
  | .port p => { s with prv.counts := s.prv.counts.set p value }
  | .reader => { s with prv.readerCount := value }

/-- R114: PRV changes a count; an event that leaves it as it was queues no job. -/
def setCount (who : Subject) (value : Nat) (s : Part) : Part :=
  if value = s.prv.count who then s else queueCount who value (putCount who value s)

/-- R115, R117: the subject is evaluated. -/
def evalSubject (who : Subject) (s : Part) : Part :=
  match who with
  | .port p => evalPort p s
  | .reader => evalReader s

/-- R116, R118: the subject's FAILCOUNT job that waits takes the count, which a failure counted at 255 leaves as it was; no job is
queued (R114). -/
def retakeCount (who : Subject) (value : Nat) (s : Part) : Part :=
  { s with nvs.queue := s.nvs.queue.map fun j =>
      if j.countsFor who then { j with body := j.body.withCount value false } else j }

/-- R114, R115, R116, R117: one failure counted; at 255 the count stays. -/
def countFailure (who : Subject) (s : Part) : Part :=
  let n := s.prv.count who
  evalSubject who (if 255 ≤ n then retakeCount who n s else setCount who (n + 1) s)

/-- R116, R118: UNBAR has PRV queue a lifting FAILCOUNT with value 0, or take over the waiting one. -/
def queueLift (who : Subject) (h : Nat) (s : Part) : Part :=
  if s.nvs.queue.any (·.countsFor who) then
    { s with nvs.queue := s.nvs.queue.map fun j =>
        if j.countsFor who then ⟨j.body.withCount 0 true, j.origin ++ [h]⟩ else j }
  else queueJob (.failcount who 0 true false) [h] s

/-! ### The exchange with a station (R86, R87, R110) -/

/-- R110: PRV draws a nonce. -/
def Part.nonce (s : Part) : Block := Config.freeNonce s.prv.draws

/-- R86, R110: PRV creates the port's context and SPX sends CHALLENGE. -/
def challengeStation (p : Port) (s : Part) : Part :=
  let na := s.nonce
  let key := s.prv.keys[s.ports[p].cfg.slot]
  let s := { s with
    prv.contexts := s.prv.contexts.set p (some ⟨na, key, s.timer Config.proofTime⟩), prv.draws := s.prv.draws + 1 }
  setAdmission p .challenged (sendStation p (.challenge na) s)

/-- R87, R110: a good PROOF: WELCOME, ADMITTED, count 0, PORT STATE. -/
def admitPort (p : Port) (k : Context) (nb : Block) (s : Part) : Part :=
  let s := sendStation p (.welcome (proofValue k.key nb k.nonce) s.mtu.hall) (endContext p s)
  let s := setCount (.port p) 0 (setAdmission p .admitted s)
  raise (.portState p .admitted .entry) s

/-- R87, R110: an exchange fails: the context ends, the port waits, and one failure is counted. -/
def failExchange (p : Port) (s : Part) : Part :=
  countFailure (.port p) (modPort p (fun r => { r with admission := waitingState r }) (endContext p s))

/-- R87, R110: the proof timer of a port expires. -/
def proofExpiry (p : Port) (s : Part) : Part :=
  match s.prv.contexts[p] with
  | none => s
  | some k => if s.active && s.due k.timer then failExchange p s else s

/-- PROOF_TIMER_EXPIRY (R110). -/
def execProofTimerExpiry (port : Port) (s : State) : Host.Outcome State Fault Refusal := act (proofExpiry port) s

/-! ### The reader's bar timer (R118) -/

/-- R118: the bar period ends: count 0, its job, the reader released. -/
def barExpiry (s : Part) : Part :=
  if s.psc.state != .save && s.psc.state != .off && s.due s.prv.barTimer then unbarReader (setCount .reader 0 s) else s

/-- BAR_TIMER_EXPIRY (R118). -/
def execBarTimerExpiry (s : State) : Host.Outcome State Fault Refusal := act barExpiry s

/-! ### Loading, restart and save (R106, R112, R113, R119) -/

/-- R113: PRV's values of the LIMITS section. -/
def loadAttemptLimits (s : Part) : Part :=
  { s with
    prv.stationLimit := s.nvs.limits.stationLimit
    prv.badgeLimit := s.nvs.limits.badgeLimit
    prv.barPeriod := s.nvs.limits.barPeriod }

/-- R113, R115, R117: every port and the reader evaluated against the limits, the ports ascending and then the reader, which fixes the
order of what is told and raised on the way (log entry 42). -/
def evalAll (s : Part) : Part := evalReader (forEach (List.finRange 12) evalPort s)

/-- R112: every proof context ends, the reader's included. -/
def endContexts (s : Part) : Part := { s with prv.contexts := Vector.replicate 12 none, prv.readerContext := none }

/-- R119: PRV applies a restart. -/
def restartPrv (s : Part) : Part :=
  evalAll (loadAttemptLimits { endContexts s with prv.keys := s.nvs.keys })

/-- PRV_RESTART (R119): once for each restart carried out (R196). -/
def execPrvRestart (s : State) : Host.Outcome State Fault Refusal :=
  act (fun s => if s.psc.owed.prv then restartPrv { s with psc.owed.prv := false } else s) s

/-- R119: PRV at entry to SAVE. -/
def savePrv (s : Part) : Part := { endContexts s with prv.barTimer := none }

end Sys2Proof.Machine
end

