-- ==== Sys2Proof/Machine/Stations.lean ====
section
/-! DEFINITION. SPX: station links, admission, the taking of station frames, park and wake, isolation, relay, and its commands
(04_station_ports_and_admission.md). -/

namespace Sys2Proof.Machine

/-! ### The link (R81, R82) -/

/-- R82: something good was received: the link timer restarts, and a link that was down comes up. A link up on a DARK port with
wake enable returns the part from QUIET first (R105, R198). -/
def heard (p : Port) (s : Part) : Part :=
  let s := modPort p (fun r => { r with linkTimer := s.timer Config.linkTime }) s
  match s.ports[p].admission with
  | .dark =>
    let s := if s.ports[p].cfg.wake then wakeUp (.port p) s else s
    modPort p (fun r => { r with link := true, admission := waitingState r }) s
  | .barred => modPort p (fun r => { r with link := true }) s
  | _ => s

/-- R81, R82: an idle marker; SPX may look for SYNC again after a discarded frame. -/
def idleMarker (p : Port) (s : Part) : Part :=
  if s.active then heard p (modPort p (fun r => { r with hunting := false }) s) else s

/-- IDLE_MARKER (R82). -/
def execIdleMarker (port : Port) (s : State) : Host.Outcome State Fault Refusal := act (idleMarker port) s

/-- R81: a frame with a bad CRC or a bad length. -/
def discardFrame (p : Port) (s : Part) : Part := if s.active then modPort p (fun r => { r with hunting := true }) s else s

/-- STATION_FRAME_DISCARDED (R81, R199): the frame received, with its CRC. A good frame is no command of this row (log entry 20). -/
def execStationFrameDiscarded (port : Port) (s : State) (kind : Byte := 0x06) (payload : List Byte := []) (crc : Half := 0) :
    Host.Outcome State Fault Refusal :=
  act (fun s => if stationFrameGood kind payload crc then s else discardFrame port s) s

/-- R82: link down. -/
def linkDown (p : Port) (s : Part) : Part :=
  let s := modPort p (fun r => { r with link := false, linkTimer := none, status := none }) s
  match s.ports[p].admission with
  | .barred => s
  | .admitted => leaveAdmitted p .dark .linkDown s
  | _ => setAdmission p .dark (endContext p s)

/-- R82: the link timer expires. -/
def linkExpiry (p : Port) (s : Part) : Part := if s.active && s.due s.ports[p].linkTimer then linkDown p s else s

/-- LINK_TIMER_EXPIRY (R82). -/
def execLinkTimerExpiry (port : Port) (s : State) : Host.Outcome State Fault Refusal := act (linkExpiry port) s

/-! ### Taking a frame (R81, R90) -/

/-- R90: REFUSE NOT-ADMITTED if the port is now in LISTENING. -/
def refuseIfListening (p : Port) (kind : Byte) (s : Part) : Part :=
  if s.ports[p].admission = .listening then refuse p .notAdmitted kind s else s

/-- R87, R90: an unexpected frame. A port in CHALLENGED whose context PRV has already ended counts no failure (log entry 17). -/
def unexpected (p : Port) (kind : Byte) (s : Part) : Part :=
  match s.ports[p].admission with
  | .listening => refuse p .notAdmitted kind s
  | .challenged =>
    if s.prv.contexts[p].isSome then refuseIfListening p kind (failExchange p s)
    else refuseIfListening p kind (modPort p (fun r => { r with admission := waitingState r }) s)
  | .admitted => refuseIfListening p kind (leaveAdmitted p (waitingState s.ports[p]) .unexpected s)
  | _ => s

/-- R90: a frame in the port's state: accepted, unexpected, or discarded (PARKED and BARRED). -/
def routeFrame (p : Port) (kind : Byte) (accepts : Part → Bool) (serve : Part → Part) (s : Part) : Part :=
  if accepts s then serve s else unexpected p kind s

/-- R81, R82, R90: a good frame of a station. In START-UP and SAVE it is discarded; while SPX waits for an idle marker its SYNC is
not looked for. -/
def stationFrameIn (p : Port) (kind : Byte) (accepts : Part → Bool) (serve : Part → Part) (s : Part) : Part :=
  if s.active && !s.ports[p].hunting then routeFrame p kind accepts serve (heard p s) else s

/-- The port is in one of the states. -/
def portIn (p : Port) (l : List Admission) (s : Part) : Bool := l.contains s.ports[p].admission

/-! ### HELLO, PROOF, DISOWN (R85 to R88) -/

/-- R86: the binding checks. -/
def helloCheck (c : PortCfg) (identity : Identity) (role : Byte) : Option Reason :=
  if c.role = .unused ∨ identity ≠ c.identity then some .unbound
  else if role ≠ c.role.byte then some .wrongRole
  else none

/-- R84, R85: the port's binding is loaded from store. -/
def loadBinding (p : Port) (s : Part) : Part := modPort p (fun r => { r with cfg := s.nvs.ports[p] }) s

/-- R85, R86: HELLO in LISTENING. The port passes through KNOWN within it. In QUIET a port with a hold gives NOT-READY (R85,
R105) and not ISOLATED (R96): log entry 48. -/
def takeHello (p : Port) (identity : Identity) (role : Byte) (s : Part) : Part :=
  if s.psc.state = .quiet then refuse p .notReady 0x01 s
  else if !s.sva.holders[p].isEmpty then refuse p .isolated 0x01 s
  else
    let s := loadBinding p s
    match helloCheck s.ports[p].cfg identity role with
    | some why => refuse p why 0x01 s
    | none => challengeStation p s

/-- HELLO (R85). -/
def execHello (port : Port) (identity : Identity) (role : Byte) (s : State) : Host.Outcome State Fault Refusal :=
  act (stationFrameIn port 0x01 (portIn port [.listening]) (takeHello port identity role)) s

/-- R87: PROOF in CHALLENGED, checked by PRV. -/
def takeProof (p : Port) (nb proof : Block) (s : Part) : Part :=
  match s.prv.contexts[p] with
  | none => unexpected p 0x02 s
  | some k => if goodProof k.key k.nonce nb proof then admitPort p k nb s else failExchange p s

/-- PROOF (R87). -/
def execProof (port : Port) (nonce proof : Block) (s : State) : Host.Outcome State Fault Refusal :=
  act (stationFrameIn port 0x02 (portIn port [.challenged]) (takeProof port nonce proof)) s

/-- DISOWN (R88). -/
def execDisown (port : Port) (s : State) : Host.Outcome State Fault Refusal :=
  act (stationFrameIn port 0x03 (portIn port [.admitted]) (leaveAdmitted port .listening .disown)) s

/-! ### REPORT and relay (R93, R98 to R100) -/

/-- R93 step 2, R56: FCO is told of a robot's changed status. -/
def tellStatus (p : Port) (old : Option Status) (new : Status) (s : Part) : Part :=
  if s.ports[p].cfg.role = .robot ∧ old ≠ some new ∧ (new = .homing ∨ new = .faulted) then robotUnready p s else s

/-- R99: the oldest relay message goes to the station. -/
def releaseRelay (p : Port) (s : Part) : Part :=
  if s.ports[p].admission = .admitted then
    match s.ports[p].relay with
    | [] => s
    | m :: rest => sendStation p (.relay m) (modPort p (fun r => { r with relay := rest }) s)
  else s

/-- R93: REPORT. -/
def takeReport (p : Port) (b : Byte) (s : Part) : Part :=
  let old := s.ports[p].status
  let s := modPort p (fun r => { r with status := some (statusOf b) }) s
  releaseRelay p (tellStatus p old (statusOf b) s)

/-- REPORT (R93). -/
def execReport (port : Port) (status : Byte) (s : State) : Host.Outcome State Fault Refusal :=
  act (stationFrameIn port 0x04 (fun _ => true) (takeReport port status)) s

/-- R98: RELAY for a port. -/
def relayTo (h : Nat) (data : List Byte) (p : Port) (s : Part) : Part :=
  check h (s.ports[p].admission == .admitted) .wrongState
    (check h (decide (s.ports[p].relay.length < Config.relaySize)) .full fun s =>
      reply h .done (modPort p (fun r => { r with relay := r.relay ++ [data] }) s)) s

/-- RELAY (R98). -/
def execRelay (tag : Byte) (payload : List Byte) (s : State) : Host.Outcome State Fault Refusal :=
  act (takeRequest .relay tag payload fun h => orBadValue h (portOf (byteAt payload 0).toNat) (relayTo h (payload.drop 1))) s

/-- STATION_RELAY (R100); data of more than 64 bytes has a bad length (R81). -/
def execStationRelay (port : Port) (data : List Byte) (s : State) : Host.Outcome State Fault Refusal :=
  act (if data.length ≤ Config.relayBytes then
      stationFrameIn port 0x0B (portIn port [.admitted]) (raise (.relay port data))
    else discardFrame port) s

/-- UNDEFINED_KIND (R81): a kind that no state accepts. A defined kind is no command of this row. -/
def execUndefinedKind (port : Port) (kind : Byte) (s : State) : Host.Outcome State Fault Refusal :=
  act (fun s => if isStationKind kind then s else stationFrameIn port kind (fun _ => false) id s) s

/-! ### Frames routed to FCO and TRK (R90, R91) -/

/-- CLAIM (R53). -/
def execClaim (port : Port) (feed : Byte) (container : Half) (doses : Byte) (s : State) :
    Host.Outcome State Fault Refusal :=
  act (stationFrameIn port claimKind (portIn port [.admitted]) (takeClaim port feed container doses)) s

/-- CANCEL (R55). -/
def execCancel (port : Port) (s : State) : Host.Outcome State Fault Refusal :=
  act (stationFrameIn port cancelKind (portIn port [.admitted]) (takeCancel port)) s

/-- TAKE (R61). -/
def execTake (port : Port) (feed : Byte) (s : State) : Host.Outcome State Fault Refusal :=
  act (stationFrameIn port takeKind (portIn port [.admitted]) (takeTake port feed)) s

/-- DOSE_START (R64). -/
def execDoseStart (port : Port) (container : Half) (index : Byte) (s : State) : Host.Outcome State Fault Refusal :=
  act (stationFrameIn port doseStartKind (portIn port [.admitted]) (takeDoseStart port container index)) s

/-- R90: DOSE END is accepted in ADMITTED, and in LISTENING while a feed drains for the port or a DOSE END note stands. -/
def acceptsDoseEnd (p : Port) (s : Part) : Bool :=
  portIn p [.admitted] s || portIn p [.listening] s && (s.fco.drainsFor p || s.fco.hasDoseEndNote p)

/-- DOSE_END (R65). -/
def execDoseEnd (port : Port) (container : Half) (index result : Byte) (s : State) :
    Host.Outcome State Fault Refusal :=
  act (stationFrameIn port doseEndKind (acceptsDoseEnd port) (takeDoseEnd port container index result)) s

/-- VERDICT (R30). -/
def execVerdict (port : Port) (container : Half) (result reason : Byte) (s : State) :
    Host.Outcome State Fault Refusal :=
  act (stationFrameIn port verdictKind (portIn port [.admitted]) (takeVerdict port container result reason)) s

/-! ### Park, wake, isolation (R94 to R97) -/

/-- R94, R105: SPX parks an ADMITTED port. -/
def parkPort (p : Port) (why : LeaveCause) (s : Part) : Part :=
  leaveAdmitted p .parked why (modPort p (fun r => { r with parked := true }) (sendStation p .park s))

/-- R94: PORT PARK on a port. What the port holds at FCO makes it BUSY whatever its role, so a camera port that still has a lease from
before a reload bound it to CAMERA is not parked (log entry 41). -/
def parkRequest (h : Nat) (p : Port) (s : Part) : Part :=
  check h (s.ports[p].admission == .admitted) .wrongState
    (check h (!s.fco.busy p) .busy fun s => reply h .done (parkPort p .portPark s)) s

/-- PORT_PARK (R94). -/
def execPortPark (tag : Byte) (payload : List Byte) (s : State) : Host.Outcome State Fault Refusal :=
  act (takeRequest .portPark tag payload fun h => orBadValue h (portOf (byteAt payload 0).toNat) (parkRequest h)) s

/-- R95: PORT WAKE on a port. -/
def wakePort (p : Port) (s : Part) : Part :=
  modPort p (fun r =>
    { r with parked := false, admission := if r.admission = .parked then .listening else r.admission }) s

/-- PORT_WAKE (R95). -/
def execPortWake (tag : Byte) (payload : List Byte) (s : State) : Host.Outcome State Fault Refusal :=
  act (takeRequest .portWake tag payload fun h =>
    orBadValue h (portOf (byteAt payload 0).toNat) fun p s => reply h .done (wakePort p s)) s

/-- R96: SPX isolates a port. -/
def isolatePort (p : Port) (s : Part) : Part :=
  let s := sendStation p .isolate (modPort p (fun r => { r with parked := false }) s)
  match s.ports[p].admission with
  | .admitted => leaveAdmitted p .listening .isolation s
  | .challenged | .known => setAdmission p .listening (endContext p s)
  | .parked => setAdmission p .listening s
  | _ => s

/-! ### PORT READ (R101, R201) -/

/-- R101, R201: PORT READ's content. -/
def portContent (s : Part) (p : Port) : List Byte :=
  let r := s.ports[p]
  let holds := s.sva.holders[p]
  numberByte p :: r.cfg.bytes ++
    [r.admission.byte, markByte r.parked, statusByte r.status, markByte r.link, BitVec.ofNat 8 r.relay.length,
     markByte s.prv.contexts[p].isSome] ++
    le 2 (s.timeLeft (s.prv.contexts[p].bind (·.timer))) ++
    [BitVec.ofNat 8 s.prv.counts[p], BitVec.ofNat 8 s.prv.stationLimit, s.mtu.service[p].byte,
     BitVec.ofNat 8 holds.length] ++ holds.flatMap fun h => le 4 h.badge.toNat

/-- PORT_READ (R101). -/
def execPortRead (tag : Byte) (payload : List Byte) (s : State) : Host.Outcome State Fault Refusal :=
  act (takeRequest .portRead tag payload fun h =>
    orBadValue h (portOf (byteAt payload 0).toNat) fun p s => replyWith h (portContent s p) s) s

/-! ### Restart, QUIET and save (R104, R105) -/

/-- R104: one port in a restart. -/
def PortRec.restarted (cfg : PortCfg) (t : Timer) (r : PortRec) : PortRec :=
  { r with
    cfg := cfg, admission := if r.admission = .barred then .barred else .dark
    link := r.admission == .barred && r.link
    parked := false, status := none, relay := [], linkTimer := t }

/-- R104: SPX applies a restart; FCO is told that every port that was ADMITTED has left it, the ports ascending (log entry 42). -/
def restartSpx (s : Part) : Part :=
  let left := (List.finRange 12).filter fun p => s.ports[p].admission == .admitted
  let t := s.timer Config.linkTime
  forEach left portLeft { s with
    ports := each s.ports fun p r => r.restarted s.nvs.ports[p] t, prv.contexts := Vector.replicate 12 none }

/-- SPX_RESTART (R104): once for each restart carried out (R196). -/
def execSpxRestart (s : State) : Host.Outcome State Fault Refusal :=
  act (fun s => if s.psc.owed.spx then restartSpx { s with psc.owed.spx := false } else s) s

/-- R105, R112: one port at entry to QUIET: an ADMITTED port is parked, a CHALLENGED one returns to LISTENING. -/
def quietPort (p : Port) (s : Part) : Part :=
  match s.ports[p].admission with
  | .admitted => parkPort p .quiet s
  | .challenged => setAdmission p .listening (endContext p s)
  | _ => s

/-- R105: SPX at entry to SAVE stops the link timers. -/
def saveSpx (s : Part) : Part := { s with ports := each s.ports fun _ r => { r with linkTimer := none } }

end Sys2Proof.Machine
end

