-- ==== Sys2Proof/Machine/Service.lean ====
section
/-! DEFINITION. SVA: the door reader, sessions, holds and lockout, sign-off and unbar, and their commands
(06_service_sessions_and_lockout.md). -/

namespace Sys2Proof.Machine

/-! ### The reader (R122 to R125, R111) -/

/-- R120: the enabled record of a badge in the active table; number 0 is never found. -/
def Sva.enabledBadge (v : Sva) (badge : Word) : Option BadgeRec :=
  if badge = 0 then none else (v.badges.toList.find? (·.badge == badge)).filter (·.enabled)

/-- R123 to R125: REFUSE DENIED with one failure counted; an exchange under way ends. -/
def denyBadge (s : Part) : Part :=
  countFailure .reader (sendReader (.refuse .denied) { s with sva.reader := .ready, prv.readerContext := none })

/-- R111, R123 step 4: the exchange begins. -/
def challengeBadge (r : BadgeRec) (s : Part) : Part :=
  let na := s.nonce
  sendReader (.challenge na) { s with
    sva.reader := .challenging r.badge r.role
    prv.readerContext := some ⟨na, s.prv.keys[r.slot], r.badge, s.timer Config.proofTime⟩
    prv.draws := s.prv.draws + 1 }

/-- R123: a PRESENT with the reader READY. -/
def presentReady (badge : Word) (s : Part) : Part :=
  if Config.sessionSize ≤ s.sva.sessions.length then sendReader (.refuse .full) s
  else if s.sva.sessions.any (·.badge == badge) then sendReader (.refuse .isOpen) s
  else match s.sva.enabledBadge badge with
    | none => denyBadge s
    | some r => challengeBadge r s

/-- R123 to R125: a PRESENT by the reader's state. -/
def servePresent (badge : Word) (s : Part) : Part :=
  match s.sva.reader with
  | .ready => presentReady badge s
  | .challenging _ _ => denyBadge s
  | .barred => sendReader (.refuse .barred) s

/-- R121, R123, R198: a PRESENT; in QUIET the part first returns to RUN. -/
def takePresent (badge : Word) (s : Part) : Part := if s.active then servePresent badge (wakeUp .reader s) else s

/-- PRESENT (R123). -/
def execPresent (badge : Word) (s : State) : Host.Outcome State Fault Refusal := act (takePresent badge) s

/-- R126: the number after a session number, 255 wrapping to 1. -/
def nextSession (n : Byte) : Byte := if n = 255 then 1 else n + 1

/-- R126: the first number above the last one issued that no open session holds; it is found within four steps. -/
def freeSession (v : Sva) : Nat → Byte → Byte
  | 0, n => n
  | k + 1, n => if v.sessions.any (·.num == n) then freeSession v k (nextSession n) else n

/-- R126: the number of a new session. -/
def Sva.newSession (v : Sva) : Byte := freeSession v 4 (nextSession v.lastSession)

/-- R127: a session opens for the badge noted. -/
def openSession (badge : Word) (role : BadgeRole) (proof : Block) (s : Part) : Part :=
  let n := s.sva.newSession
  let x : Session := ⟨n, badge, role, s.mtu.hall, s.timer (s.sva.timeout * Config.minute)⟩
  let s := sendReader (.welcome proof n role) { s with
    sva.sessions := s.sva.sessions ++ [x], sva.lastSession := n, sva.reader := .ready, prv.readerContext := none }
  raise (.sessionOpened n badge role) (setCount .reader 0 s)

/-- R124: a PROOF with the reader CHALLENGING; without a context (PRV has taken its restart) it is DENIED and counts no failure
(log entry 17). -/
def badgeProof (badge : Word) (role : BadgeRole) (nb proof : Block) (s : Part) : Part :=
  match s.prv.readerContext with
  | none => sendReader (.refuse .denied) { s with sva.reader := .ready }
  | some k => if goodProof k.key k.nonce nb proof then openSession badge role (proofValue k.key nb k.nonce) s else denyBadge s

/-- R124, R125, R198: a PROOF of the reader. -/
def takeReaderProof (nb proof : Block) (s : Part) : Part :=
  if s.active then
    match s.sva.reader with
    | .challenging badge role => badgeProof badge role nb proof (wakeUp .reader s)
    | _ => sendReader (.refuse .denied) s
  else s

/-- READER_PROOF (R124). -/
def execReaderProof (nonce proof : Block) (s : State) : Host.Outcome State Fault Refusal :=
  act (takeReaderProof nonce proof) s

/-- R111, R124: the reader's proof timer expires. -/
def readerProofExpiry (s : Part) : Part :=
  match s.prv.readerContext with
  | none => s
  | some k => if s.active && s.due k.timer then denyBadge s else s

/-- READER_PROOF_TIMER_EXPIRY (R111). -/
def execReaderProofTimerExpiry (s : State) : Host.Outcome State Fault Refusal := act readerProofExpiry s

/-! ### Sessions (R129, R130) -/

/-- R129: a session ends and SESSION CLOSED is raised. -/
def closeSession (x : Session) (idle : Bool) (s : Part) : Part :=
  raise (.sessionClosed x.num x.badge idle) { s with sva.sessions := s.sva.sessions.filter (·.num != x.num) }

/-- SESSION_CLOSE (R129). -/
def execSessionClose (tag : Byte) (payload : List Byte) (s : State) : Host.Outcome State Fault Refusal :=
  act (takeRequest .sessionClose tag payload fun h =>
    withSession h (byteAt payload 0) anyRole fun x s => closeSession x false (reply h .done s)) s

/-- R129: a session's idle timer expires. -/
def idleExpiry (num : Byte) (s : Part) : Part :=
  match s.sva.sessions.find? (·.num == num) with
  | none => s
  | some x => if s.active && s.due x.idle then closeSession x true s else s

/-- IDLE_TIMER_EXPIRY (R129). -/
def execIdleTimerExpiry (session : Byte) (s : State) : Host.Outcome State Fault Refusal := act (idleExpiry session) s

/-- R201: a session entry. -/
def sessionBytes (s : Part) (x : Session) : List Byte :=
  x.num :: le 4 x.badge.toNat ++ [x.role.byte] ++ x.opened.bytes ++ le 4 (s.timeLeft x.idle)

/-- R130: the badge noted, 0 unless CHALLENGING. -/
def Reader.badgeNoted : Reader → Word
  | .challenging b _ => b
  | _ => 0

/-- R130, R201: SESSION READ's content. -/
def sessionContent (s : Part) : List Byte :=
  s.sva.reader.byte :: le 4 s.sva.reader.badgeNoted.toNat ++ [BitVec.ofNat 8 s.sva.sessions.length] ++
    s.sva.sessions.flatMap (sessionBytes s)

/-- SESSION_READ (R130). -/
def execSessionRead (tag : Byte) (payload : List Byte) (s : State) : Host.Outcome State Fault Refusal :=
  act (takeRequest .sessionRead tag payload fun h s => replyWith h (sessionContent s) s) s

/-! ### Holds (R131 to R135) -/

/-- R201: a hold entry. -/
def Hold.bytes (x : Hold) : List Byte :=
  le 4 x.badge.toNat ++ [x.session] ++ x.placed.bytes ++ [markByte x.recorded, markByte x.releasing]

/-- R133, R201: the items of a port, its holds written by f. -/
def holdItems (s : Part) (f : Hold → List Byte) (p : Port) : List Byte :=
  [numberByte p, markByte (s.runEnable p), markByte s.sva.draining[p], BitVec.ofNat 8 s.sva.holders[p].length] ++
    s.sva.holders[p].flatMap f

/-- R133, R201: HOLD LIST's content for a number: one port in full, or for 0 every port by badge number. -/
def holdContent (s : Part) (n : Nat) : Option (List Byte) :=
  if n = 0 then some ((List.finRange 12).flatMap (holdItems s fun x => le 4 x.badge.toNat))
  else (portOf n).map (holdItems s Hold.bytes)

/-- R133: HOLD LIST. -/
def serveHoldList (n h : Nat) (s : Part) : Part := orBadValue h (holdContent s n) (replyWith h) s

/-- HOLD_LIST (R133). -/
def execHoldList (tag : Byte) (payload : List Byte) (s : State) : Host.Outcome State Fault Refusal :=
  act (takeRequest .holdList tag payload (serveHoldList (byteAt payload 0).toNat)) s

/-- R131: a hold joins the tail of the port's holder set. -/
def addHold (p : Port) (x : Hold) (s : Part) : Part := { s with sva.holders := upd s.sva.holders p (· ++ [x]) }

/-- R134: an accepted LOCKOUT: the hold, isolation at SPX and then at FCO for a first hold, the HOLD-ADD job, the request pending. -/
def placeHold (h : Nat) (x : Session) (p : Port) (s : Part) : Part :=
  let first := s.sva.holders[p].isEmpty
  let hold : Hold := ⟨x.badge, x.num, s.mtu.hall, false, false⟩
  let s := addHold p hold s
  let s := if first then isolateRobot p (isolatePort p s) else s
  let s := queueJob (.holdAdd ⟨p, hold.badge, hold.session, hold.placed⟩) [h] s
  { s with sva.lockouts := s.sva.lockouts ++ [⟨h, p, x.badge⟩] }

/-- R134: the checks of LOCKOUT after those of R128. -/
def lockoutPort (h : Nat) (x : Session) (p : Port) (s : Part) : Part :=
  check h (decide (s.sva.holders[p].length < Config.holdSize)) .full
    (check h (!s.sva.holders[p].any (·.badge == x.badge)) .alreadyHeld fun s =>
      check h s.nvs.hasRoom .full (placeHold h x p) s) s

/-- LOCKOUT (R134). -/
def execLockout (tag : Byte) (payload : List Byte) (s : State) : Host.Outcome State Fault Refusal :=
  act (takeRequest .lockout tag payload fun h =>
    withSession h (byteAt payload 0) anyRole fun x => orBadValue h (portOf (byteAt payload 1).toNat) (lockoutPort h x)) s

/-! ### Release (R138, R139) -/

/-- Change the holds of a badge on a port. -/
def modHold (p : Port) (badge : Word) (f : Hold → Hold) (s : Part) : Part :=
  { s with sva.holders := upd s.sva.holders p fun l => l.map fun x => if x.badge == badge then f x else x }

/-- R138: an accepted release: the releasing mark and the HOLD-REMOVE job. -/
def startRelease (h : Nat) (p : Port) (badge : Word) (s : Part) : Part :=
  queueJob (.holdRemove p badge) [h] (modHold p badge (fun x => { x with releasing := true }) s)

/-- R138 checks 2 to 5, R139: the release of a badge's hold on a port. -/
def releaseHold (h : Nat) (badge : Word) (p : Port) (s : Part) : Part :=
  match s.sva.holders[p].find? (·.badge == badge) with
  | none => reply h .notFound s
  | some x =>
    check h (!x.releasing && !s.nvs.jobs.any (·.addsHold p badge)) .inProgress (fun s =>
      check h s.nvs.hasRoom .full (startRelease h p badge) s) s

/-- RELEASE (R138): the hold of the session's badge. -/
def execRelease (tag : Byte) (payload : List Byte) (s : State) : Host.Outcome State Fault Refusal :=
  act (takeRequest .release tag payload fun h =>
    withSession h (byteAt payload 0) anyRole fun x =>
      orBadValue h (portOf (byteAt payload 1).toNat) (releaseHold h x.badge)) s

/-- REMOVE_HOLD (R139): the hold of the badge named, for a supervisor. -/
def execRemoveHold (tag : Byte) (payload : List Byte) (s : State) : Host.Outcome State Fault Refusal :=
  act (takeRequest .removeHold tag payload fun h =>
    withSession h (byteAt payload 0) supervisorOnly fun _ =>
      orBadValue h (portOf (byteAt payload 1).toNat) (releaseHold h (wordAt payload 2))) s

/-! ### SIGN OFF and UNBAR (R142, R144) -/

/-- R142, R161: SIGN OFF on a port. -/
def signOffPort (h : Nat) (x : Session) (p : Port) (s : Part) : Part :=
  check h (!s.sva.holders[p].isEmpty) .wrongState
    (check h (s.sva.holders[p].any (·.badge == x.badge)) .notFound fun s =>
      queueOrFull h (.threshold p (signOffThreshold s.mtu.cfg[p] s.mtu.meters[meterA p].value)) s) s

/-- SIGN_OFF (R142). -/
def execSignOff (tag : Byte) (payload : List Byte) (s : State) : Host.Outcome State Fault Refusal :=
  act (takeRequest .signOff tag payload fun h =>
    withSession h (byteAt payload 0) technicianUp fun x =>
      orBadValue h (portOf (byteAt payload 1).toNat) (signOffPort h x)) s

/-- R144: the target of UNBAR. -/
def unbarTarget (n : Nat) : Option Subject := if n = 0 then some .reader else (portOf n).map .port

/-- R144: UNBAR of a target. -/
def unbarRequest (h : Nat) (who : Subject) (s : Part) : Part :=
  check h (s.nvs.hasRoom || s.nvs.queue.any (·.countsFor who)) .full (queueLift who h) s

/-- UNBAR (R144). -/
def execUnbar (tag : Byte) (payload : List Byte) (s : State) : Host.Outcome State Fault Refusal :=
  act (takeRequest .unbar tag payload fun h =>
    withSession h (byteAt payload 0) supervisorOnly fun _ =>
      orBadValue h (unbarTarget (byteAt payload 1).toNat) (unbarRequest h)) s

/-! ### Restart and save (R146, R147) -/

/-- R146: the reader in a restart. -/
def Reader.restarted : Reader → Reader
  | .barred => .barred
  | _ => .ready

/-- R146: SVA applies a restart; the LOCKOUTs whose requests have been answered no longer wait. -/
def restartSva (s : Part) : Part :=
  { s with
    sva.sessions := []
    sva.reader := s.sva.reader.restarted
    sva.lockouts := s.sva.lockouts.filter fun k => (s.hlc.unreplied k.request).isSome
    sva.badges := s.nvs.badges
    sva.timeout := s.nvs.limits.sessionTimeout
    prv.readerContext := none }

/-- SVA_RESTART (R146): once for each restart carried out (R196). -/
def execSvaRestart (s : State) : Host.Outcome State Fault Refusal :=
  act (fun s => if s.psc.owed.sva then restartSva { s with psc.owed.sva := false } else s) s

/-- R147: SVA at entry to SAVE stops every idle timer. -/
def saveSva (s : Part) : Part :=
  { s with sva.sessions := s.sva.sessions.map fun x => { x with idle := none } }

end Sys2Proof.Machine
end

