-- ==== Sys2Proof/Machine/Time.lean ====
section
/-! DEFINITION. MTU: uptime, hall time, meters, checkpoints, and its commands (07_machine_time_and_meters.md). -/

namespace Sys2Proof.Machine

/-! ### The clocks (R148, R150) -/

/-- R148, R150: one millisecond. A nonzero multiple of 1000 is a second boundary, taken as an event of its own. -/
def tick (s : Part) : Part :=
  if s.psc.state = .off then s
  else
    let u := s.mtu.uptime + 1
    { s with
      mtu.uptime := u
      mtu.hall := { s.mtu.hall with time := s.mtu.hall.time + 1 }
      mtu.secondsDue := if u ≠ 0 ∧ u.toNat % 1000 = 0 then s.mtu.secondsDue + 1 else s.mtu.secondsDue }

/-- UPTIME_MILLISECOND (R148). -/
def execUptimeMillisecond (s : State) : Host.Outcome State Fault Refusal := act tick s

/-- R102: SPX counts meter B of every ADMITTED port, the ports ascending (log entry 42). -/
def countSeconds (s : Part) : Part :=
  forEach ((List.finRange 12).filter fun p => s.ports[p].admission == .admitted) (fun p => meterInc (meterB p)) s

/-- R148: a second boundary; it is handed to SPX in RUN and QUIET only. -/
def secondBoundary (s : Part) : Part :=
  if 0 < s.mtu.secondsDue then
    let s := { s with mtu.secondsDue := s.mtu.secondsDue - 1 }
    if s.active then countSeconds s else s
  else s

/-- SECOND_BOUNDARY (R148). -/
def execSecondBoundary (s : State) : Host.Outcome State Fault Refusal := act secondBoundary s

/-- R151: TIME SET. -/
def setHall (payload : List Byte) (s : Part) : Part :=
  { s with mtu.hall := ⟨BitVec.ofNat 48 (numberAt payload 0 6), false⟩ }

/-- TIME_SET (R151). -/
def execTimeSet (tag : Byte) (payload : List Byte) (s : State) : Host.Outcome State Fault Refusal :=
  act (takeRequest .timeSet tag payload fun h s => reply h .done (setHall payload s)) s

/-- R152, R201: TIME READ's content. -/
def timeContent (s : Part) : List Byte := le 6 s.mtu.uptime.toNat ++ s.mtu.hall.bytes

/-- TIME_READ (R152). -/
def execTimeRead (tag : Byte) (payload : List Byte) (s : State) : Host.Outcome State Fault Refusal :=
  act (takeRequest .timeRead tag payload fun h s => replyWith h (timeContent s) s) s

/-! ### Meters (R155, R156) -/

/-- R155 steps 3 to 6: METER ADD of an amount to a meter. -/
def addToMeter (h : Nat) (amount : Word) (m : Meter) (s : Part) : Part :=
  let r := s.mtu.meters[m]
  if amount = 0 then reply h .done s
  else if r.full then reply h .overflow s
  else if 2 ^ 32 ≤ r.value.toNat + amount.toNat then
    reply h .overflow
      (raise (.meterFull m r.value amount) { s with mtu.meters := s.mtu.meters.set m { r with full := true } })
  else reply h .done (evalMeter m { s with mtu.meters := s.mtu.meters.set m { r with value := r.value + amount } })

/-- METER_ADD (R155). -/
def execMeterAdd (tag : Byte) (payload : List Byte) (s : State) : Host.Outcome State Fault Refusal :=
  act (takeRequest .meterAdd tag payload fun h =>
    withSession h (byteAt payload 0) technicianUp fun _ =>
      orBadValue h (meterOf (byteAt payload 1).toNat) (addToMeter h (wordAt payload 2))) s

/-- R156, R201: one meter; meter A of a port with its threshold, grace, interval and service status. -/
def meterBytes (s : Part) (m : Meter) : List Byte :=
  let r := s.mtu.meters[m]
  le 4 r.value.toNat ++ [markByte r.full] ++
    match if m.val < 24 then portOfMeterA m else none with
    | none => []
    | some p => s.mtu.cfg[p].bytes ++ [s.mtu.service[p].byte]

/-- R156, R201: the last completed checkpoint, and whether a checkpoint job is queued, in flight or deferred. -/
def checkpointBytes (s : Part) : List Byte :=
  (match s.mtu.lastCheckpoint with
    | none => List.replicate 14 0
    | some c => 1 :: le 6 c.uptime.toNat ++ c.hall.bytes) ++
  [markByte (s.nvs.queue.any (·.isCheckpoint)) ||| markByte (s.nvs.inFlight.any (·.isCheckpoint)) <<< 1 |||
    markByte (s.nvs.deferred.contains .checkpoint) <<< 2]

/-- R156: METER READ from a first meter for a count. -/
def serveMeterRead (first count h : Nat) (s : Part) : Part :=
  check h (decide (first ≤ 27 ∧ 1 ≤ count ∧ count ≤ 16 ∧ first + count ≤ 28)) .badValue (fun s =>
    replyWith h
      (((List.range count).filterMap fun i => meterOf (first + i)).flatMap (meterBytes s) ++ checkpointBytes s) s) s

/-- METER_READ (R156). -/
def execMeterRead (tag : Byte) (payload : List Byte) (s : State) : Host.Outcome State Fault Refusal :=
  act (takeRequest .meterRead tag payload (serveMeterRead (byteAt payload 0).toNat (byteAt payload 1).toNat)) s

/-! ### Checkpoints (R162) -/

/-- R162: the checkpoint timer starts with the active period. -/
def startCheckpointTimer (s : Part) : Part :=
  { s with mtu.checkpointTimer := s.timer (s.mtu.checkpointPeriod * Config.second) }

/-- R162: the checkpoint timer expires, restarts, and asks for a job. -/
def checkpointExpiry (s : Part) : Part :=
  if s.active && s.due s.mtu.checkpointTimer then askCheckpoint (startCheckpointTimer s) else s

/-- CHECKPOINT_TIMER_EXPIRY (R162). -/
def execCheckpointTimerExpiry (s : State) : Host.Outcome State Fault Refusal := act checkpointExpiry s

/-! ### Restart and save (R149, R164, R166, R196) -/

/-- R149, R196: uptime becomes 0; every running timer keeps its remaining time, counted from the new uptime 0. -/
def zeroUptime (s : Part) : Part :=
  let g := s.rebased
  { s with
    mtu.uptime := 0
    mtu.secondsDue := 0
    mtu.checkpointTimer := g s.mtu.checkpointTimer
    psc.supplyLowTimer := g s.psc.supplyLowTimer
    psc.saveHold := g s.psc.saveHold
    trk.gateTimer := g s.trk.gateTimer
    fco.feeds := each s.fco.feeds fun _ r => { r with state := r.state.mapTimer g }
    ports := each s.ports fun _ r => { r with linkTimer := g r.linkTimer }
    prv.contexts := each s.prv.contexts fun _ k => k.map fun k => { k with timer := g k.timer }
    prv.readerContext := s.prv.readerContext.map fun k => { k with timer := g k.timer }
    prv.barTimer := g s.prv.barTimer
    sva.sessions := s.sva.sessions.map fun x => { x with idle := g x.idle } }

/-- R166: MTU applies a restart. -/
def restartMtu (s : Part) : Part :=
  let s := zeroUptime s
  evalServiceAfresh (startCheckpointTimer { s with
    mtu.cfg := s.nvs.meters, mtu.checkpointPeriod := s.nvs.limits.checkpointPeriod })

/-- MTU_RESTART (R166): once for each restart carried out (R196). -/
def execMtuRestart (s : State) : Host.Outcome State Fault Refusal :=
  act (fun s => if s.psc.owed.mtu then restartMtu { s with psc.owed.mtu := false } else s) s

/-- R164: MTU at entry to SAVE stops the checkpoint timer. -/
def saveMtu (s : Part) : Part := { s with mtu.checkpointTimer := none }

end Sys2Proof.Machine
end

