-- ==== Sys2Proof/Machine/Store.lean ====
section
/-! DEFINITION. NVS: reading and writing settings, locks, freeze, boundary, the store's arbiter, job starts and job ends
(08_the_settings_store.md, with the origins' rules for the outcomes). -/

namespace Sys2Proof.Machine

/-! ### SETTING READ (R171, R201) -/

/-- The lock bit of the unit's section. -/
def Nvs.sectionLocked (n : Nvs) (r : UnitRef) : Bool := n.sectionLocks[r.area]

/-- The lock bit of the unit's key slot; clear outside KEYS. -/
def Nvs.slotLocked (n : Nvs) : UnitRef → Bool
  | .key k => n.slotLocks[k]
  | _ => false

/-- R171, R201: the content of a SECTION read. -/
def sectionContent (n : Nvs) (r : UnitRef) : List Byte :=
  unitBytes n r ++ [markByte (n.sectionLocked r), markByte (n.slotLocked r)]

/-- Bits as one byte, bit n for the n-th. -/
def bitsByte (l : List Bool) : Byte := BitVec.ofNat 8 (l.foldr (fun b v => (if b then 1 else 0) + 2 * v) 0)

/-- R171, R201: the content of a PROTECTION read. -/
def protectionContent (n : Nvs) : List Byte :=
  [bitsByte n.sectionLocks.toList, bitsByte n.slotLocks.toList, markByte n.frozen, BitVec.ofNat 8 n.boundary,
   BitVec.ofNat 8 n.activeBoundary,
   match n.jobs.findSome? Job.boundary? with
    | none => 0xFF
    | some v => BitVec.ofNat 8 v]

/-- R171: SETTING READ by its selector. -/
def serveSettingRead (payload : List Byte) (h : Nat) (s : Part) : Part :=
  match (byteAt payload 0).toNat with
  | 0 => orBadValue h (unitOf (byteAt payload 1).toNat (byteAt payload 2).toNat)
      (fun r s => replyWith h (sectionContent s.nvs r) s) s
  | 1 => replyWith h (protectionContent s.nvs) s
  | _ => reply h .badValue s

/-- SETTING_READ_SECTION (R171). -/
def execSettingReadSection (tag : Byte) (payload : List Byte) (s : State) : Host.Outcome State Fault Refusal :=
  act (takeRequest .settingRead tag payload (serveSettingRead payload)) s

/-- SETTING_READ_PROTECTION (R171). -/
def execSettingReadProtection (tag : Byte) (payload : List Byte) (s : State) : Host.Outcome State Fault Refusal :=
  act (takeRequest .settingRead tag payload (serveSettingRead payload)) s

/-! ### SETTING WRITE (R169) -/

/-- R169 steps 4 to 6: content, locks, room. -/
def writeUnit (h : Nat) (r : UnitRef) (unit : List Byte) (s : Part) : Part :=
  orBadValue h ((settingOf r unit).filter (sectionRules s.nvs)) (fun c =>
    check h (!s.nvs.sectionLocked r && !s.nvs.slotLocked r) .locked (queueOrFull h (.setting c))) s

/-- R169 step 3, R174: the unit's section is at or above the active protection boundary. -/
def Nvs.guarded (n : Nvs) (r : UnitRef) : Bool := decide (n.activeBoundary ≤ r.area.val)

/-- R128: the roles permitted a SETTING WRITE: SUPERVISOR at or above the active boundary, every role below it. An index or section
that names no unit is for step 2 of R169 to refuse, whatever the role. -/
def writeRoles (n : Nvs) : Option UnitRef → BadgeRole → Bool
  | none => anyRole
  | some r => if n.guarded r then supervisorOnly else anyRole

/-- R169: SETTING WRITE. The session named restarts its idle timer under R128, whatever the later steps give; a request refused
NOT-PERMITTED restarts none (R128; log entry 46). Without a session a guarded section is refused NO-SESSION. -/
def serveSettingWrite (payload : List Byte) (h : Nat) (s : Part) : Part :=
  let unit := unitOf (byteAt payload 1).toNat (byteAt payload 2).toNat
  let write := fun r => writeUnit h r (payload.drop 3)
  if byteAt payload 0 = 0 then orBadValue h unit (fun r => check h (!s.nvs.guarded r) .noSession (write r)) s
  else withSession h (byteAt payload 0) (writeRoles s.nvs unit) (fun _ => orBadValue h unit write) s

/-- SETTING_WRITE (R169). -/
def execSettingWrite (tag : Byte) (payload : List Byte) (s : State) : Host.Outcome State Fault Refusal :=
  act (takeRequest .settingWrite tag payload (serveSettingWrite payload)) s

/-! ### Locks, freeze, boundary (R172 to R174, R108) -/

/-- The lock bit of a target. -/
def Nvs.targetLocked (n : Nvs) : LockTarget → Bool
  | .area a => n.sectionLocks[a]
  | .slot k => n.slotLocks[k]

/-- R172 steps 3 to 5, R108 steps 4 to 6: a lock that is set is DONE at once; else freeze mark, room, job. -/
def lockTarget (h : Nat) (t : LockTarget) (s : Part) : Part :=
  if s.nvs.targetLocked t then reply h .done s
  else check h (!s.nvs.frozen) .frozen (queueOrFull h (.lock t)) s

/-- R172, R108: the target that a class and a number name. -/
def targetOf (cls n : Nat) : Option LockTarget :=
  match cls with
  | 0 => (sectionOf n).map .area
  | 1 => (slotOf n).map .slot
  | _ => none

/-- R172, R108: SECTION LOCK. -/
def serveSectionLock (payload : List Byte) (h : Nat) (s : Part) : Part :=
  withSession h (byteAt payload 0) supervisorOnly (fun _ =>
    orBadValue h (targetOf (byteAt payload 1).toNat (byteAt payload 2).toNat) (lockTarget h)) s

/-- SECTION_LOCK_SECTION (R172). -/
def execSectionLockSection (tag : Byte) (payload : List Byte) (s : State) : Host.Outcome State Fault Refusal :=
  act (takeRequest .sectionLock tag payload (serveSectionLock payload)) s

/-- SECTION_LOCK_KEY_SLOT (R108). -/
def execSectionLockKeySlot (tag : Byte) (payload : List Byte) (s : State) : Host.Outcome State Fault Refusal :=
  act (takeRequest .sectionLock tag payload (serveSectionLock payload)) s

/-- R173: LOCKS FREEZE after the checks of R128. -/
def freezeLocks (h : Nat) (s : Part) : Part :=
  if s.nvs.frozen then reply h .done s
  else check h (!s.nvs.jobs.any (·.isFreeze)) .inProgress (queueOrFull h .freeze) s

/-- LOCKS_FREEZE (R173). -/
def execLocksFreeze (tag : Byte) (payload : List Byte) (s : State) : Host.Outcome State Fault Refusal :=
  act (takeRequest .locksFreeze tag payload fun h =>
    withSession h (byteAt payload 0) supervisorOnly fun _ => freezeLocks h) s

/-- R174: BOUNDARY SET after the checks of R128. -/
def setBoundary (h v : Nat) (s : Part) : Part :=
  check h (!s.nvs.jobs.any fun j => (Job.boundary? j).isSome) .inProgress
    (check h (decide (v < s.nvs.boundary)) .badValue (queueOrFull h (.boundary v))) s

/-- BOUNDARY_SET (R174). -/
def execBoundarySet (tag : Byte) (payload : List Byte) (s : State) : Host.Outcome State Fault Refusal :=
  act (takeRequest .boundarySet tag payload fun h =>
    withSession h (byteAt payload 0) supervisorOnly fun _ => setBoundary h (byteAt payload 1).toNat) s

/-! ### The start of a job (R163, R170, R172, R176 to R178, R180) -/

/-- R177: the job to start among those waiting: the oldest hold job, else the oldest. -/
def arbiterChoice (q : List Job) : Option Job := (q.find? (·.isHold)).or q.head?

/-- R177: the queue without the job chosen. -/
def withoutChoice (q : List Job) : List Job := if q.any (·.isHold) then q.eraseP (·.isHold) else q.tail

/-- R178: the job that a deferred mark turns into; a FAILCOUNT takes the count as PRV holds it. -/
def Part.deferredJob (s : Part) : Deferred → JobBody
  | .checkpoint => .checkpoint none false
  | .failcount who lifts => .failcount who (s.prv.count who) lifts false

/-- R178: a place has freed: the oldest deferred mark becomes a job at the tail. -/
def convertDeferred (s : Part) : Part :=
  match s.nvs.deferred with
  | [] => s
  | d :: rest => if s.nvs.hasRoom then queueJob (s.deferredJob d) [] { s with nvs.deferred := rest } else s

/-- The job is in flight. -/
def setInFlight (j : Job) (s : Part) : Part := { s with nvs.inFlight := some j }

/-- R170, R172, R163: the checks of a job at its start; a checkpoint takes the meters. A job that fails them writes nothing. -/
def beginJob (j : Job) (s : Part) : Part :=
  match j.body with
  | .setting c =>
    if s.nvs.sectionLocked c.unit || s.nvs.slotLocked c.unit then replyAll j.origin .locked s
    else if !sectionRules s.nvs c then replyAll j.origin .badValue s
    else setInFlight j s
  | .lock _ => if s.nvs.frozen then replyAll j.origin .frozen s else setInFlight j s
  | .checkpoint _ save => setInFlight { j with body := .checkpoint (some s.mtu.meters) save } s
  | _ => setInFlight j s

/-- R164, R180: the checkpoint of a save starts; from here MTU applies no increment. -/
def beginSaveCheckpoint (s : Part) : Part :=
  { s with
    nvs.saveDue := false
    nvs.inFlight := some ⟨.checkpoint (some s.mtu.meters) true, []⟩
    mtu.closed := true }

/-- R176, R179, R196: NVS may start waiting jobs: in RUN and QUIET, and not while a restart waits or is under way. -/
def Part.mayStartJob (s : Part) : Bool := s.active && !s.psc.restart.isSome && !s.psc.owed.any

/-- R177: the arbiter starts the job it chooses; the place it leaves frees. -/
def startChosen (s : Part) : Part :=
  match arbiterChoice s.nvs.queue with
  | none => s
  | some j => beginJob j (convertDeferred { s with nvs.queue := withoutChoice s.nvs.queue })

/-- R176, R177, R180: with no job in flight the store starts the next. -/
def startJob (s : Part) : Part :=
  if s.nvs.inFlight.isSome then s
  else if s.psc.state = .save ∧ s.nvs.saveDue then beginSaveCheckpoint s
  else if s.mayStartJob then startChosen s
  else s

/-- STORE_JOB_START (R177). -/
def execStoreJobStart (s : State) : Host.Outcome State Fault Refusal := act startJob s

/-! ### The end of a job (R176) -/

/-- The store with a unit's new content. -/
def Nvs.putSetting (n : Nvs) : Setting → Nvs
  | .line c => { n with line := c }
  | .feed f c => { n with feeds := n.feeds.set f c }
  | .port p c => { n with ports := n.ports.set p c }
  | .meter p c => { n with meters := n.meters.set p c }
  | .badge i c => { n with badges := n.badges.set i c }
  | .key k c => { n with keys := n.keys.set k c }
  | .limits c => { n with limits := c }

/-- R176: what a completed job has written in store. -/
def Nvs.commit (n : Nvs) : JobBody → Nvs
  | .setting c => n.putSetting c
  | .lock (.area a) => { n with sectionLocks := n.sectionLocks.set a true }
  | .lock (.slot k) => { n with slotLocks := n.slotLocks.set k true }
  | .freeze => { n with frozen := true }
  | .boundary v => { n with boundary := v }
  | .holdAdd h => { n with holds := n.holds ++ [h] }
  | .holdRemove p b => { n with holds := n.holds.filter fun h => !(h.port == p && h.badge == b) }
  | .threshold p v => { n with meters := upd n.meters p fun c => { c with threshold := v } }
  | .failcount (.port p) v _ _ => { n with failcounts := n.failcounts.set p v }
  | .failcount .reader v _ _ => { n with readerFailed := v }
  | .checkpoint none _ => n
  | .checkpoint (some m) _ => { n with checkpoint := some m }

/-- R176: the end of the job in flight, if it is of the kind that `pick` reads. Completed: the store holds the new content and the
origin acts (`ok`). Failed verification: the store holds the old content, STORE FAULT is raised and the origin acts (`bad`). -/
def endJob {α : Type} (pick : JobBody → Option α) (written : Bool) (ok bad : α → List Nat → Part → Part) (s : Part) :
    Part :=
  match s.nvs.inFlight with
  | none => s
  | some j =>
    match pick j.body with
    | none => s
    | some a =>
      if s.hostReceives then
        let s := { s with nvs.inFlight := none }
        if written then ok a j.origin { s with nvs := s.nvs.commit j.body }
        else bad a j.origin (raise (.storeFault j.body) s)
      else s

/-- R170 and others: the requests that wait for a failed job are replied STORE-FAULT. -/
def replyFault {α : Type} (_ : α) (origin : List Nat) (s : Part) : Part := replyAll origin .storeFault s

/-- The requests that wait for a completed job are replied DONE. -/
def replyDone {α : Type} (_ : α) (origin : List Nat) (s : Part) : Part := replyAll origin .done s

/-- R113, R127, R162: the users of LIMITS load their values (the supply-low time waits for power-on, R168). -/
def loadLimits (s : Part) : Part :=
  evalAll (loadAttemptLimits { s with
    sva.timeout := s.nvs.limits.sessionTimeout, mtu.checkpointPeriod := s.nvs.limits.checkpointPeriod })

/-- R170, R2, R157, R120, R106, R113: the user of a written unit is told. -/
def tellUser (c : Setting) (s : Part) : Part :=
  match c with
  | .line _ => { s with trk.geometryPending := true }
  | .feed _ _ | .port _ _ => s
  | .meter p c => evalService p { s with mtu.cfg := s.mtu.cfg.set p c }
  | .badge _ _ => { s with sva.badges := s.nvs.badges }
  | .key k c => { s with prv.keys := s.prv.keys.set k c }
  | .limits _ => loadLimits s

/-- The setting of a SETTING job. -/
def JobBody.setting? : JobBody → Option Setting
  | .setting c => some c
  | _ => none

/-- SETTING_JOB_END (R170). -/
def execSettingJobEnd (written : Bool) (s : State) : Host.Outcome State Fault Refusal :=
  act (endJob JobBody.setting? written (fun c o s => replyAll o .done (tellUser c s)) replyFault) s

/-- The target of a LOCK job. -/
def JobBody.lock? : JobBody → Option LockTarget
  | .lock t => some t
  | _ => none

/-- LOCK_JOB_END (R172, R108). -/
def execLockJobEnd (written : Bool) (s : State) : Host.Outcome State Fault Refusal :=
  act (endJob JobBody.lock? written replyDone replyFault) s

/-- A FREEZE job. -/
def JobBody.freeze? : JobBody → Option Unit
  | .freeze => some ()
  | _ => none

/-- FREEZE_JOB_END (R173). -/
def execFreezeJobEnd (written : Bool) (s : State) : Host.Outcome State Fault Refusal :=
  act (endJob JobBody.freeze? written replyDone replyFault) s

/-- The value of a BOUNDARY job. -/
def JobBody.boundary? : JobBody → Option Nat
  | .boundary v => some v
  | _ => none

/-- BOUNDARY_JOB_END (R174). -/
def execBoundaryJobEnd (written : Bool) (s : State) : Host.Outcome State Fault Refusal :=
  act (endJob JobBody.boundary? written replyDone replyFault) s

/-- The hold of a HOLD-ADD job. -/
def JobBody.holdAdd? : JobBody → Option StoredHold
  | .holdAdd h => some h
  | _ => none

/-- The LOCKOUTs of these requests wait no longer. -/
def dropLockouts (origin : List Nat) (s : Part) : Part :=
  { s with sva.lockouts := s.sva.lockouts.filter fun k => !origin.contains k.request }

/-- R132, R135, R146: a completed HOLD-ADD: the hold is recorded, and the LOCKOUT is replied DONE if the run enable output is
de-asserted; with a RESTART waiting it is replied at once. -/
def holdAdded (h : StoredHold) (origin : List Nat) (s : Part) : Part :=
  let s := modHold h.port h.badge (fun x => { x with recorded := true }) s
  if s.psc.restart.isSome || !s.runEnable h.port then replyAll origin .done (dropLockouts origin s) else s

/-- HOLD_ADD_JOB_END (R132, R135). -/
def execHoldAddJobEnd (written : Bool) (s : State) : Host.Outcome State Fault Refusal :=
  act (endJob JobBody.holdAdd? written holdAdded fun h o s => replyFault h o (dropLockouts o s)) s

/-- The subject of a HOLD-REMOVE job. -/
def JobBody.holdRemove? : JobBody → Option (Port × Word)
  | .holdRemove p b => some (p, b)
  | _ => none

/-- R140, R135: a completed HOLD-REMOVE: the hold leaves its set, the release is DONE, a LOCKOUT pending on it is ABORTED. The
run enable output follows the set (R136). In SAVE that LOCKOUT, which has no job in flight, goes unreplied (R147, R192, R195; over
R140: log entry 44). -/
def holdRemoved (k : Port × Word) (origin : List Nat) (s : Part) : Part :=
  let left := if s.psc.state = .save then [] else s.sva.lockouts.filter fun x => x.port == k.1 && x.badge == k.2
  let s := { s with
    sva.holders := upd s.sva.holders k.1 fun l => l.filter (·.badge != k.2)
    sva.lockouts := s.sva.lockouts.filter fun x => !(x.port == k.1 && x.badge == k.2) }
  forEach left (fun x => reply x.request .aborted) (replyAll origin .done s)

/-- HOLD_REMOVE_JOB_END (R140). -/
def execHoldRemoveJobEnd (written : Bool) (s : State) : Host.Outcome State Fault Refusal :=
  act (endJob JobBody.holdRemove? written holdRemoved fun k o s =>
    replyFault k o (modHold k.1 k.2 (fun x => { x with releasing := false }) s)) s

/-- The port and value of a THRESHOLD job. -/
def JobBody.threshold? : JobBody → Option (Port × Word)
  | .threshold p v => some (p, v)
  | _ => none

/-- R143, R157: a completed THRESHOLD: MTU's active threshold, and the port's evaluation. -/
def thresholdSet (k : Port × Word) (origin : List Nat) (s : Part) : Part :=
  replyAll origin .done
    (evalService k.1 { s with mtu.cfg := upd s.mtu.cfg k.1 fun c => { c with threshold := k.2 } })

/-- THRESHOLD_JOB_END (R143). -/
def execThresholdJobEnd (written : Bool) (s : State) : Host.Outcome State Fault Refusal :=
  act (endJob JobBody.threshold? written thresholdSet replyFault) s

/-- The content of a FAILCOUNT job: subject, value, lifting mark, and whether the count changed while it was in flight. -/
def JobBody.failcount? : JobBody → Option (Subject × Nat × Bool × Bool)
  | .failcount w v l st => some (w, v, l, st)
  | _ => none

/-- R116, R118: a completed FAILCOUNT; a lifting one sets the count, unless it changed meanwhile, evaluates the subject and
answers the UNBARs that share the job in the order in which they were asked (log entry 43). -/
def failcountWritten (k : Subject × Nat × Bool × Bool) (origin : List Nat) (s : Part) : Part :=
  if k.2.2.1 then
    replyAll origin .done (evalSubject k.1 (if k.2.2.2 then s else putCount k.1 k.2.1 s))
  else s

/-- FAILCOUNT_JOB_END (R114, R116). -/
def execFailcountJobEnd (written : Bool) (s : State) : Host.Outcome State Fault Refusal :=
  act (endJob JobBody.failcount? written failcountWritten replyFault) s

/-- Whether a CHECKPOINT job is a save's. -/
def JobBody.checkpoint? : JobBody → Option Bool
  | .checkpoint _ save => some save
  | _ => none

/-- R195 stage 5: the wait of ten milliseconds begins when SUPWARN is de-asserted. -/
def startSaveHold (s : Part) : Part := { s with psc.saveHold := s.timer Config.saveHoldTime }

/-- R195 stage 4: PSC drops the link outputs; the transmitter stops, in the middle of a frame if one is under way. -/
def dropLinks (s : Part) : Part :=
  let s := { s with psc.linksDropped := true, hlc.sending := none }
  if s.psc.supwarn then s else startSaveHold s

/-- R163: a completed CHECKPOINT is the last completed one. -/
def checkpointDone (save : Bool) (_ : List Nat) (s : Part) : Part :=
  let s := { s with mtu.lastCheckpoint := some ⟨s.mtu.uptime, s.mtu.hall⟩ }
  if save then dropLinks s else s

/-- R163, R195: a failed CHECKPOINT; a save goes on all the same. -/
def checkpointFailed (save : Bool) (_ : List Nat) (s : Part) : Part := if save then dropLinks s else s

/-- CHECKPOINT_JOB_END (R163, R195). -/
def execCheckpointJobEnd (written : Bool) (s : State) : Host.Outcome State Fault Refusal :=
  act (endJob JobBody.checkpoint? written checkpointDone checkpointFailed) s

/-! ### Restart and save (R179, R180) -/

/-- R179 step 2: the jobs that a restart discards. -/
def Job.discarded (j : Job) : Bool :=
  match j.body with
  | .setting _ | .lock _ | .freeze | .boundary _ | .threshold _ _ => true
  | _ => false

/-- R178, R179: NVS applies a restart: it discards, keeps the rest, and turns deferred marks into jobs in the places freed. -/
def restartNvs (s : Part) : Part :=
  let gone := s.nvs.queue.filter (·.discarded)
  let s := { s with nvs.queue := s.nvs.queue.filter fun j => !j.discarded }
  forEach gone (fun _ => convertDeferred) (forEach gone (fun j => replyAll j.origin .aborted) s)

/-- NVS_RESTART (R179): once for each restart carried out (R196). -/
def execNvsRestart (s : State) : Host.Outcome State Fault Refusal :=
  act (fun s => if s.psc.owed.nvs then restartNvs { s with psc.owed.nvs := false } else s) s

/-- R180: NVS at entry to SAVE: the waiting jobs and deferred marks are lost, the save's checkpoint is due. -/
def saveNvs (s : Part) : Part := { s with nvs.queue := [], nvs.deferred := [], nvs.saveDue := true }

end Sys2Proof.Machine
end

