-- ==== Sys2Proof/Machine/Track.lean ====
section
/-! DEFINITION. TRK's commands (01_the_container_track.md): line state, encoder pulses, pitch events, fill requests, restart. -/

namespace Sys2Proof.Machine

/-! ### Line state and geometry (R2 to R5) -/

/-- R2: the active geometry is loaded from store and the pending mark cleared, if the track is empty. -/
def loadGeometry (s : Part) : Part :=
  if s.trk.track.isEmpty then { s with trk.geometry := s.nvs.line, trk.geometryPending := false } else s

/-- R4: LINE START on a stopped line. -/
def startLine (s : Part) : Part :=
  let s := loadGeometry s
  { s with trk.pulses := 0, trk.pitchesDue := 0, trk.straysDue := 0, trk.strayArmed := false, trk.line := .running }

/-- R4: LINE START. -/
def serveLineStart (h : Nat) (s : Part) : Part :=
  check h (s.trk.line == .stopped) .wrongState (fun s => reply h .done (startLine s)) s

/-- LINE_START (R4). -/
def execLineStart (tag : Byte) (payload : List Byte) (s : State) : Host.Outcome State Fault Refusal :=
  act (takeRequest .lineStart tag payload serveLineStart) s

/-- R5: LINE STOP on a running line; a completed pitch whose event is not taken yet is discarded with it (log entry 9). -/
def stopLine (s : Part) : Part :=
  { s with
    trk.line := .stopped, trk.pulses := 0, trk.pitchesDue := 0, trk.strays := 0, trk.straysDue := 0
    trk.strayArmed := true }

/-- R5: LINE STOP. -/
def serveLineStop (h : Nat) (s : Part) : Part :=
  check h (s.trk.line == .running) .wrongState (fun s => reply h .done (stopLine s)) s

/-- LINE_STOP (R5). -/
def execLineStop (tag : Byte) (payload : List Byte) (s : State) : Host.Outcome State Fault Refusal :=
  act (takeRequest .lineStop tag payload serveLineStop) s

/-! ### Encoder pulses (R6, R7) -/

/-- R6, R7: one rising edge on ENC. A completed count owes a pitch event or an ignored pitch (log entry 9). -/
def countPulse (s : Part) : Part :=
  if !s.active then s
  else match s.trk.line with
    | .running =>
      if s.trk.geometry.divider ≤ s.trk.pulses + 1 then { s with trk.pulses := 0, trk.pitchesDue := s.trk.pitchesDue + 1 }
      else { s with trk.pulses := s.trk.pulses + 1 }
    | .stopped =>
      if s.trk.geometry.divider ≤ s.trk.strays + 1 then { s with trk.strays := 0, trk.straysDue := s.trk.straysDue + 1 }
      else { s with trk.strays := s.trk.strays + 1 }

/-- ENCODER_PULSE (R6). -/
def execEncoderPulse (s : State) : Host.Outcome State Fault Refusal := act countPulse s

/-- R7: an ignored pitch raises STRAY PITCH once. -/
def ignorePitch (s : Part) : Part :=
  if s.trk.strayArmed then raise .strayPitch { s with trk.strayArmed := false } else s

/-- R7: the ignored pitch of a completed stray count, or of the edge that completes it (log entry 9). -/
def ignoredPitch (s : Part) : Part :=
  if s.active && s.trk.line == .stopped then
    if 0 < s.trk.straysDue then ignorePitch { s with trk.straysDue := s.trk.straysDue - 1 }
    else if s.trk.geometry.divider ≤ s.trk.strays + 1 then ignorePitch { s with trk.strays := 0 }
    else s
  else s

/-- IGNORED_PITCH (R7). -/
def execIgnoredPitch (s : State) : Host.Outcome State Fault Refusal := act ignoredPitch s

/-! ### The pitch event (R9, R11, R12, R21) -/

/-- R21: the record with its fill OVERRUN. -/
def Record.overrun (r : Record) : Record := { r with fill := r.fill.map fun f => { f with result := .overrun } }

/-- R9 step 3, R21: the records that have just passed their window are OVERRUN, with one WINDOW LEFT each. -/
def departWindows (s : Part) : Part :=
  { s with
    trk.track := s.trk.track.map fun r => if (s.trk.departs r).isSome then r.overrun else r
    fco.toFco := s.fco.toFco ++
      s.trk.track.filterMap fun r => (s.trk.departs r).map fun f => .windowLeft r.container f.port f.feed }

/-- R9 step 4, R23: a record at position G leaves the track and is decided. -/
def passGate (s : Part) : Part :=
  forEach (s.trk.track.filter fun r => s.trk.position r == s.trk.geometry.gate) decideAtGate
    { s with trk.track := s.trk.track.filter fun r => s.trk.position r != s.trk.geometry.gate }

/-- R12: the number after a container number; 65535 wraps to 1. -/
def nextNumber (n : Half) : Half := if n = BitVec.allOnes 16 then 1 else n + 1

/-- R11: a new record at position 0. -/
def enterContainer (s : Part) : Part :=
  meterInc 24 { s with
    trk.track := s.trk.track ++ [⟨s.trk.nextContainer, s.trk.pitch, none, [], false⟩]
    trk.nextContainer := nextNumber s.trk.nextContainer }

/-- R9: a pitch event, whole; `infeed` is the level sampled at step 5. -/
def takePitch (infeed : Bool) (s : Part) : Part :=
  let s := passGate (departWindows { s with trk.pitch := s.trk.pitch + 1 })
  if infeed then enterContainer s else s

/-- R6, R9: the pitch event of a completed count, or of the edge that completes it (log entry 9). -/
def pitchEvent (infeed : Bool) (s : Part) : Part :=
  if s.active && s.trk.line == .running then
    if 0 < s.trk.pitchesDue then takePitch infeed { s with trk.pitchesDue := s.trk.pitchesDue - 1 }
    else if s.trk.geometry.divider ≤ s.trk.pulses + 1 then takePitch infeed { s with trk.pulses := 0 }
    else s
  else s

/-- PITCH_EVENT (R9). -/
def execPitchEvent (infeed : Bool) (s : State) : Host.Outcome State Fault Refusal := act (pitchEvent infeed) s

/-! ### Fill requests (R15 to R20) -/

/-- R60: TRK takes the oldest fill request under way, if it is this one; otherwise there is no such event (log entry 3). -/
def takeFillRequest (m : FillRequest) (go : Part → Part) (s : Part) : Part :=
  if s.hostReceives && s.fco.toTrk.head? == some m then go { s with fco.toTrk := s.fco.toTrk.tail } else s

/-- Change the record of a container on the track. -/
def modRecord (c : Half) (f : Record → Record) (s : Part) : Part :=
  { s with trk.track := s.trk.track.map fun r => if r.container == c then f r else r }

/-- R15: TRK's answer to a RESERVE. -/
def reserveAnswerFor (t : Trk) (c : Half) (p : Port) : ReserveAnswer :=
  match t.find c with
  | none => .noContainer
  | some r =>
    if !t.geometry.windows[p].contains (t.position r) then .outOfWindow
    else if r.fill.isSome then .taken
    else .accepted

/-- R15: RESERVE. -/
def takeReserve (c : Half) (p : Port) (f : Feed) (doses : Nat) (s : Part) : Part :=
  let a := reserveAnswerFor s.trk c p
  let s := if a = .accepted then modRecord c (fun r => { r with fill := some ⟨p, f, doses, 0, .pending⟩ }) s else s
  tellFco (.answer p a) s

/-- RESERVE (R15). -/
def execReserve (container : Half) (port : Port) (feed : Feed) (doses : Nat) (s : State) :
    Host.Outcome State Fault Refusal :=
  act (takeFillRequest (.reserve container port feed doses) (takeReserve container port feed doses)) s

/-- R17: the fill that a CLEAR removes: PENDING, of the port, with no dose done. -/
def Fill.clearable (p : Port) (f : Fill) : Bool := f.port == p && f.pending && f.done == 0

/-- R17: CLEAR on a record. -/
def Record.clearFill (p : Port) (r : Record) : Record := if r.fill.any (·.clearable p) then { r with fill := none } else r

/-- CLEAR (R17). -/
def execClear (container : Half) (port : Port) (s : State) : Host.Outcome State Fault Refusal :=
  act (takeFillRequest (.clear container port) (modRecord container (Record.clearFill port))) s

/-- The fill names the same robot port and feed. -/
def Fill.names (p : Port) (f : Feed) (x : Fill) : Bool := x.port == p && x.feed == f

/-- R18: one dose done on a fill. -/
def Fill.addDose (x : Fill) : Fill :=
  { x with done := x.done + 1, result := if x.pending && x.done + 1 == x.planned then .filled else x.result }

/-- R18: DOSE DONE on a record. -/
def Record.doseDone (p : Port) (f : Feed) (r : Record) : Record :=
  { r with fill := r.fill.map fun x => if x.names p f && decide (x.done < x.planned) then x.addDose else x }

/-- DOSE_DONE (R18). -/
def execDoseDone (container : Half) (port : Port) (feed : Feed) (s : State) : Host.Outcome State Fault Refusal :=
  act (takeFillRequest (.doseDone container port feed) (modRecord container (Record.doseDone port feed))) s

/-- R19: the result a FILL END names. -/
def fillResultOf : EndResult → FillResult
  | .short => .short
  | .fault => .fault
  | .timeout => .timeout
  | .incomplete => .incomplete

/-- R19: FILL END on a record. -/
def Record.fillEnd (p : Port) (f : Feed) (e : EndResult) (r : Record) : Record :=
  { r with fill := r.fill.map fun x => if x.names p f && x.pending then { x with result := fillResultOf e } else x }

/-- FILL_END (R19). -/
def execFillEnd (container : Half) (port : Port) (feed : Feed) (result : EndResult) (s : State) :
    Host.Outcome State Fault Refusal :=
  act (takeFillRequest (.fillEnd container port feed result) (modRecord container (Record.fillEnd port feed result))) s

/-! ### Restart and save (R24, R26) -/

/-- R24: a record at a restart: CROSSED, and a PENDING fill becomes FAULT. -/
def Record.cross (r : Record) : Record :=
  { r with crossed := true, fill := r.fill.map fun f => if f.pending then { f with result := .fault } else f }

/-- R24, R39: TRK applies a restart. -/
def restartTrk (s : Part) : Part :=
  loadGeometry { s with
    trk.track := s.trk.track.map Record.cross
    trk.pulses := 0, trk.pitchesDue := 0, trk.strays := 0, trk.straysDue := 0
    trk.line := .stopped, trk.strayArmed := true, trk.gate := false, trk.gateTimer := none }

/-- TRK_RESTART (R24): once for each restart carried out (R196). -/
def execTrkRestart (s : State) : Host.Outcome State Fault Refusal :=
  act (fun s => if s.psc.owed.trk then restartTrk { s with psc.owed.trk := false } else s) s

/-- R26, R39: TRK at entry to SAVE: every record is decided, oldest first; GATE falls. -/
def saveTrk (s : Part) : Part :=
  let s := { s with trk.gate := false, trk.gateTimer := none }
  forEach s.trk.track decideInSave { s with trk.track := [] }

end Sys2Proof.Machine
end

