-- ==== Sys2Proof/Machine/Supply.lean ====
section
/-! DEFINITION. PSC: RESTART, QUIET, WAKE, the supply warning, save, power-on, power loss and entry to RUN
(10_supply_quiet_state_and_restart.md). -/

namespace Sys2Proof.Machine

/-! ### RESTART (R196, R192) -/

/-- R196: PSC takes a RESTART; from here HLC dispatches nothing and NVS starts no job. -/
def serveRestart (h : Nat) (s : Part) : Part := { s with psc.restart := some h }

/-- RESTART (R196). -/
def execRestart (tag : Byte) (payload : List Byte) (s : State) : Host.Outcome State Fault Refusal :=
  act (takeRequest .restart tag payload serveRestart) s

/-- R192 step 1: the entries that a restart answers ABORTED, in table order. -/
def abortedEntries (h : Nat) (l : Hlc) : List Entry := l.table.filter fun e => e.condition != .replied && e.handle != h

/-- R192 step 4: the notice queue is emptied, mask level and GAP count are 0; the kind sent last counts as a reply (R186). -/
def emptyNotices (s : Part) : Part :=
  { s with hlc.notices := [], hlc.mask := 0, hlc.gap := 0, hlc.lastNotice := false }

/-- R196: the seven blocks are handed the restart. -/
def Owed.all : Owed := ⟨true, true, true, true, true, true, true⟩

/-- R196, R192: PSC carries out the restart that the request `h` asked for. A block that still owes the restart of an earlier one owes
one restart after it, not two (log entry 47). -/
def carryOut (h : Nat) (s : Part) : Part :=
  let s := forEach (abortedEntries h s.hlc) (fun e => reply e.handle .aborted) s
  let s := emptyNotices (reply h .done s)
  let s := zeroUptime (raise (.restarted .request) s)
  { s with psc.cause := .request, psc.restart := none, psc.owed := Owed.all }

/-- R196: the restart is carried out in RUN when no store job is in flight. -/
def restartCarryOut (s : Part) : Part :=
  match s.psc.restart with
  | none => s
  | some h => if s.psc.state = .run ∧ s.nvs.inFlight.isNone then carryOut h s else s

/-- RESTART_CARRY_OUT (R196). -/
def execRestartCarryOut (s : State) : Host.Outcome State Fault Refusal := act restartCarryOut s

/-! ### QUIET and WAKE (R197, R198) -/

/-- R197: the conditions of an accepted QUIET. -/
def Part.mayRest (s : Part) : Bool :=
  s.trk.line == .stopped && (List.finRange 4).all (fun f => s.fco.feeds[f].state.lease?.isNone) &&
    s.nvs.queue.isEmpty && s.nvs.inFlight.isNone && s.nvs.deferred.isEmpty

/-- R197, R105, R112: entry to QUIET; the ports ascending (log entry 42). -/
def enterQuiet (s : Part) : Part := forEach (List.finRange 12) quietPort { s with psc.state := .quiet }

/-- R197: QUIET. -/
def serveQuiet (h : Nat) (s : Part) : Part := check h s.mayRest .wrongState (fun s => reply h .done (enterQuiet s)) s

/-- QUIET (R197). -/
def execQuiet (tag : Byte) (payload : List Byte) (s : State) : Host.Outcome State Fault Refusal :=
  act (takeRequest .quiet tag payload serveQuiet) s

/-- R198: WAKE. -/
def serveWake (h : Nat) (s : Part) : Part := reply h .done (wakeUp .wake s)

/-- WAKE (R198). -/
def execWake (tag : Byte) (payload : List Byte) (s : State) : Host.Outcome State Fault Refusal :=
  act (takeRequest .wake tag payload serveWake) s

/-! ### The supply warning and the save (R193, R195) -/

/-- R193, R195: SUPWARN is asserted: in RUN and QUIET the supply-low timer starts; in a save the wait of stage 5 is off. -/
def assertSupwarn (s : Part) : Part :=
  if s.psc.supwarn then s
  else
    { s with
      psc.supwarn := true
      psc.supplyLowTimer := if s.active then s.timer s.psc.supplyLowTime else s.psc.supplyLowTimer
      psc.saveHold := none }

/-- SUPWARN_ASSERT (R193). -/
def execSupwarnAssert (s : State) : Host.Outcome State Fault Refusal := act assertSupwarn s

/-- R193, R195: SUPWARN is de-asserted: the supply-low timer stops; after a save's links are down the ten milliseconds begin. -/
def deassertSupwarn (s : Part) : Part :=
  if s.psc.supwarn then
    let s := { s with psc.supwarn := false, psc.supplyLowTimer := none }
    if s.psc.state = .save ∧ s.psc.linksDropped then startSaveHold s else s
  else s

/-- SUPWARN_DEASSERT (R193). -/
def execSupwarnDeassert (s : State) : Host.Outcome State Fault Refusal := act deassertSupwarn s

/-- R195 stages 1 and 2: entry to SAVE, block by block. A RESTART that waits is not carried out, and block restarts of one carried out
that are still owed are dropped (log entry 45). -/
def enterSave (s : Part) : Part :=
  let s := { s with
    psc.state := .save, psc.supplyLowTimer := none, psc.saveHold := none, psc.restart := none, psc.owed := Owed.none }
  saveNvs (saveMtu (saveSva (savePrv (saveSpx (saveFco (saveTrk s))))))

/-- R193, R195: the supply-low timer expires. -/
def supplyLowExpiry (s : Part) : Part := if s.active && s.due s.psc.supplyLowTimer then enterSave s else s

/-- SUPPLY_LOW_TIMER_EXPIRY (R195). -/
def execSupplyLowTimerExpiry (s : State) : Host.Outcome State Fault Refusal := act supplyLowExpiry s

/-! ### Power-on (R194, R27, R78, R103, R119, R145, R165, R180, R192) -/

/-- R181: the rate by the strap; asserted is 921,600 baud (log entry 4). -/
def rateOf (strap : Bool) : Rate := if strap then .baud921600 else .baud460800

/-- R103: a port at power-on. -/
def bootPort (n : Nvs) (p : Port) (sent : List (List Byte)) : PortRec :=
  { cfg := n.ports[p], admission := if limitReached n.limits.stationLimit n.failcounts[p] then .barred else .dark,
    parked := false, status := none, link := false, linkTimer := none, relay := [], hunting := false, sent := sent }

/-- R119, R194: the reader is barred by the count in store. -/
def Nvs.bootsReaderBarred (n : Nvs) : Bool := limitReached n.limits.badgeLimit n.readerFailed

/-- R119: PRV at power-on. The draws of the random source go on (log entry 8). -/
def bootPrv (n : Nvs) (draws : Nat) : Prv :=
  { keys := n.keys, contexts := Vector.replicate 12 none, readerContext := none, counts := n.failcounts,
    readerCount := n.readerFailed,
    barTimer := if n.bootsReaderBarred then some (BitVec.ofNat 48 (n.limits.barPeriod * Config.minute)) else none,
    stationLimit := n.limits.stationLimit, badgeLimit := n.limits.badgeLimit, barPeriod := n.limits.barPeriod,
    draws := draws }

/-- R145: the hold of a stored entry. -/
def StoredHold.loaded (h : StoredHold) : Hold := ⟨h.badge, h.session, h.placed, true, false⟩

/-- R145: SVA at power-on. -/
def bootSva (n : Nvs) (sent : List (List Byte)) : Sva :=
  { badges := n.badges, reader := if n.bootsReaderBarred then .barred else .ready, sessions := [], lastSession := 0,
    holders := Vector.ofFn fun p => (n.holds.filter (·.port == p)).map StoredHold.loaded,
    draining := Vector.replicate 12 false, timeout := n.limits.sessionTimeout, lockouts := [], readerSent := sent }

/-- R165: MTU at power-on. -/
def bootMtu (n : Nvs) : Mtu :=
  { Mtu.atReset with
    meters := n.checkpoint.getD zeroMeters, cfg := n.meters, checkpointPeriod := n.limits.checkpointPeriod }

/-- R180: NVS at power-on. -/
def bootNvs (n : Nvs) : Nvs :=
  { n with activeBoundary := n.boundary, queue := [], inFlight := none, deferred := [], saveDue := false }

/-- R78: FCO at power-on. -/
def bootFco (n : Nvs) : Fco :=
  { Fco.atReset with feeds := Vector.ofFn fun f => { state := .closed, cfg := n.feeds[f], queue := [], closing := none } }

/-- R194: the part begins START-UP: every block from its power-on state, loaded from store. -/
def boot (cause : RestartCause) (strap : Bool) (s : Part) : Part :=
  { psc := { Psc.atReset with cause := cause, supwarn := s.psc.supwarn, supplyLowTime := s.nvs.limits.supplyLow }
    hlc := { Hlc.atReset with rate := rateOf strap, sent := s.hlc.sent }
    ports := Vector.ofFn fun p => bootPort s.nvs p s.ports[p].sent
    prv := bootPrv s.nvs s.prv.draws
    trk := { Trk.atReset with geometry := s.nvs.line }
    fco := bootFco s.nvs
    sva := bootSva s.nvs s.sva.readerSent
    mtu := bootMtu s.nvs
    nvs := bootNvs s.nvs }

/-- POWER_ON (R194): the supply comes up from none. -/
def execPowerOn (strap : Bool) (s : State) : Host.Outcome State Fault Refusal :=
  act (fun s => if s.psc.state = .off then boot .power strap s else s) s

/-- SAVE_HOLD_EXPIRY (R195): the end of a save. -/
def execSaveHoldExpiry (strap : Bool) (s : State) : Host.Outcome State Fault Refusal :=
  act (fun s => if s.psc.state = .save ∧ s.due s.psc.saveHold then boot .supplyLow strap s else s) s

/-- R176, R195: the supply fails; the job in flight is whole in store if it had completed there, and absent otherwise. A restart
that blocks still owe is gone with the supply. -/
def losePower (written : Bool) (s : Part) : Part :=
  if s.psc.state = .off then s
  else
    let n := match s.nvs.inFlight with
      | none => s.nvs
      | some j => if written then s.nvs.commit j.body else s.nvs
    { s with psc.state := .off, psc.owed := Owed.none, nvs := bootNvs n }

/-- POWER_LOSS (R195). -/
def execPowerLoss (written : Bool) (s : State) : Host.Outcome State Fault Refusal := act (losePower written) s

/-! ### Entry to RUN (R194) -/

/-- R103, R119, R194: PORT BARRED for each barred port. -/
def announceBarredPorts (s : Part) : Part :=
  forEach ((List.finRange 12).filter fun p => s.ports[p].admission == .barred)
    (fun p s => raise (.portBarred p s.prv.counts[p]) s) s

/-- R119, R194: READER BARRED for a reader barred from its stored count. -/
def announceBarredReader (s : Part) : Part :=
  if s.sva.reader = .barred then raise (.readerBarred s.prv.readerCount s.prv.barPeriod) s else s

/-- R103: every link timer starts. -/
def startLinks (s : Part) : Part :=
  let t := s.timer Config.linkTime
  { s with ports := each s.ports fun _ r => { r with linkTimer := t } }

/-- R194: the part enters RUN; RESTARTED stands first in the notice queue (the order of the rest: log entry 11). -/
def enterRun (s : Part) : Part :=
  let s := raise (.restarted s.psc.cause) { s with psc.state := .run }
  evalServiceAfresh (announceBarredReader (announceBarredPorts (startCheckpointTimer (startLinks s))))

/-- ENTER_RUN (R194): in START-UP with SUPWARN de-asserted. -/
def execEnterRun (s : State) : Host.Outcome State Fault Refusal :=
  act (fun s => if s.psc.state = .startUp ∧ s.psc.supwarn = false then enterRun s else s) s

end Sys2Proof.Machine
end

