-- ==== Sys2Proof/Machine/Dispatch.lean ====
section
/-! DEFINITION. One arm per command: its meaning. -/

namespace Sys2Proof.Machine

def exec (i : Instr) (s : State) : Host.Outcome State Fault Refusal :=
  match i with
  | .identify tag payload => Sys2Proof.Machine.execIdentify tag payload s
  | .status tag payload => Sys2Proof.Machine.execStatus tag payload s
  | .restart tag payload => Sys2Proof.Machine.execRestart tag payload s
  | .restartCarryOut => Sys2Proof.Machine.execRestartCarryOut s
  | .trkRestart => Sys2Proof.Machine.execTrkRestart s
  | .fcoRestart => Sys2Proof.Machine.execFcoRestart s
  | .spxRestart => Sys2Proof.Machine.execSpxRestart s
  | .prvRestart => Sys2Proof.Machine.execPrvRestart s
  | .svaRestart => Sys2Proof.Machine.execSvaRestart s
  | .mtuRestart => Sys2Proof.Machine.execMtuRestart s
  | .nvsRestart => Sys2Proof.Machine.execNvsRestart s
  | .mask tag payload => Sys2Proof.Machine.execMask tag payload s
  | .quiet tag payload => Sys2Proof.Machine.execQuiet tag payload s
  | .wake tag payload => Sys2Proof.Machine.execWake tag payload s
  | .lineStart tag payload => Sys2Proof.Machine.execLineStart tag payload s
  | .lineStop tag payload => Sys2Proof.Machine.execLineStop tag payload s
  | .trackReadList tag payload => Sys2Proof.Machine.execTrackReadList tag payload s
  | .trackReadRecord tag payload => Sys2Proof.Machine.execTrackReadRecord tag payload s
  | .exitReadSummary tag payload => Sys2Proof.Machine.execExitReadSummary tag payload s
  | .exitReadIndex tag payload => Sys2Proof.Machine.execExitReadIndex tag payload s
  | .exitReadContainer tag payload => Sys2Proof.Machine.execExitReadContainer tag payload s
  | .exitReadNextEscape tag payload => Sys2Proof.Machine.execExitReadNextEscape tag payload s
  | .feedOpen tag payload => Sys2Proof.Machine.execFeedOpen tag payload s
  | .feedClose tag payload => Sys2Proof.Machine.execFeedClose tag payload s
  | .feedRead tag payload => Sys2Proof.Machine.execFeedRead tag payload s
  | .portRead tag payload => Sys2Proof.Machine.execPortRead tag payload s
  | .portPark tag payload => Sys2Proof.Machine.execPortPark tag payload s
  | .portWake tag payload => Sys2Proof.Machine.execPortWake tag payload s
  | .relay tag payload => Sys2Proof.Machine.execRelay tag payload s
  | .sessionRead tag payload => Sys2Proof.Machine.execSessionRead tag payload s
  | .holdList tag payload => Sys2Proof.Machine.execHoldList tag payload s
  | .lockout tag payload => Sys2Proof.Machine.execLockout tag payload s
  | .release tag payload => Sys2Proof.Machine.execRelease tag payload s
  | .removeHold tag payload => Sys2Proof.Machine.execRemoveHold tag payload s
  | .signOff tag payload => Sys2Proof.Machine.execSignOff tag payload s
  | .sessionClose tag payload => Sys2Proof.Machine.execSessionClose tag payload s
  | .unbar tag payload => Sys2Proof.Machine.execUnbar tag payload s
  | .timeSet tag payload => Sys2Proof.Machine.execTimeSet tag payload s
  | .timeRead tag payload => Sys2Proof.Machine.execTimeRead tag payload s
  | .meterRead tag payload => Sys2Proof.Machine.execMeterRead tag payload s
  | .meterAdd tag payload => Sys2Proof.Machine.execMeterAdd tag payload s
  | .settingReadSection tag payload => Sys2Proof.Machine.execSettingReadSection tag payload s
  | .settingReadProtection tag payload => Sys2Proof.Machine.execSettingReadProtection tag payload s
  | .settingWrite tag payload => Sys2Proof.Machine.execSettingWrite tag payload s
  | .sectionLockSection tag payload => Sys2Proof.Machine.execSectionLockSection tag payload s
  | .sectionLockKeySlot tag payload => Sys2Proof.Machine.execSectionLockKeySlot tag payload s
  | .locksFreeze tag payload => Sys2Proof.Machine.execLocksFreeze tag payload s
  | .boundarySet tag payload => Sys2Proof.Machine.execBoundarySet tag payload s
  | .unknownKind kind tag payload => Sys2Proof.Machine.execUnknownKind kind tag payload s
  | .transmitterFrameEnd => Sys2Proof.Machine.execTransmitterFrameEnd s
  | .encoderPulse => Sys2Proof.Machine.execEncoderPulse s
  | .pitchEvent infeed => Sys2Proof.Machine.execPitchEvent infeed s
  | .ignoredPitch => Sys2Proof.Machine.execIgnoredPitch s
  | .gateTimerExpiry => Sys2Proof.Machine.execGateTimerExpiry s
  | .reserve container port feed doses => Sys2Proof.Machine.execReserve container port feed doses s
  | .reserveAnswer port answer => Sys2Proof.Machine.execReserveAnswer port answer s
  | .clear container port => Sys2Proof.Machine.execClear container port s
  | .doseDone container port feed => Sys2Proof.Machine.execDoseDone container port feed s
  | .fillEnd container port feed result => Sys2Proof.Machine.execFillEnd container port feed result s
  | .windowLeft container port feed => Sys2Proof.Machine.execWindowLeft container port feed s
  | .idleMarker port => Sys2Proof.Machine.execIdleMarker port s
  | .linkTimerExpiry port => Sys2Proof.Machine.execLinkTimerExpiry port s
  | .hello port identity role => Sys2Proof.Machine.execHello port identity role s
  | .proof port nonce proof => Sys2Proof.Machine.execProof port nonce proof s
  | .proofTimerExpiry port => Sys2Proof.Machine.execProofTimerExpiry port s
  | .disown port => Sys2Proof.Machine.execDisown port s
  | .report port status => Sys2Proof.Machine.execReport port status s
  | .undefinedKind port kind => Sys2Proof.Machine.execUndefinedKind port kind s
  | .claim port feed container doses => Sys2Proof.Machine.execClaim port feed container doses s
  | .cancel port => Sys2Proof.Machine.execCancel port s
  | .take port feed => Sys2Proof.Machine.execTake port feed s
  | .doseStart port container index => Sys2Proof.Machine.execDoseStart port container index s
  | .doseEnd port container index result => Sys2Proof.Machine.execDoseEnd port container index result s
  | .takeTimerExpiry feed => Sys2Proof.Machine.execTakeTimerExpiry feed s
  | .holdTimerExpiry feed => Sys2Proof.Machine.execHoldTimerExpiry feed s
  | .verdict port container result reason => Sys2Proof.Machine.execVerdict port container result reason s
  | .stationRelay port data => Sys2Proof.Machine.execStationRelay port data s
  | .secondBoundary => Sys2Proof.Machine.execSecondBoundary s
  | .present badge => Sys2Proof.Machine.execPresent badge s
  | .readerProof nonce proof => Sys2Proof.Machine.execReaderProof nonce proof s
  | .readerProofTimerExpiry => Sys2Proof.Machine.execReaderProofTimerExpiry s
  | .barTimerExpiry => Sys2Proof.Machine.execBarTimerExpiry s
  | .idleTimerExpiry session => Sys2Proof.Machine.execIdleTimerExpiry session s
  | .storeJobStart => Sys2Proof.Machine.execStoreJobStart s
  | .settingJobEnd written => Sys2Proof.Machine.execSettingJobEnd written s
  | .lockJobEnd written => Sys2Proof.Machine.execLockJobEnd written s
  | .freezeJobEnd written => Sys2Proof.Machine.execFreezeJobEnd written s
  | .boundaryJobEnd written => Sys2Proof.Machine.execBoundaryJobEnd written s
  | .holdAddJobEnd written => Sys2Proof.Machine.execHoldAddJobEnd written s
  | .holdRemoveJobEnd written => Sys2Proof.Machine.execHoldRemoveJobEnd written s
  | .thresholdJobEnd written => Sys2Proof.Machine.execThresholdJobEnd written s
  | .failcountJobEnd written => Sys2Proof.Machine.execFailcountJobEnd written s
  | .checkpointJobEnd written => Sys2Proof.Machine.execCheckpointJobEnd written s
  | .checkpointTimerExpiry => Sys2Proof.Machine.execCheckpointTimerExpiry s
  | .supwarnAssert => Sys2Proof.Machine.execSupwarnAssert s
  | .supwarnDeassert => Sys2Proof.Machine.execSupwarnDeassert s
  | .supplyLowTimerExpiry => Sys2Proof.Machine.execSupplyLowTimerExpiry s
  | .saveHoldExpiry strap => Sys2Proof.Machine.execSaveHoldExpiry strap s
  | .powerOn strap => Sys2Proof.Machine.execPowerOn strap s
  | .powerLoss written => Sys2Proof.Machine.execPowerLoss written s
  | .enterRun => Sys2Proof.Machine.execEnterRun s
  | .hostFrameDiscarded characters => Sys2Proof.Machine.execHostFrameDiscarded s characters
  | .hostIdleGap => Sys2Proof.Machine.execHostIdleGap s
  | .stationFrameDiscarded port kind payload crc => Sys2Proof.Machine.execStationFrameDiscarded port s kind payload crc
  | .uptimeMillisecond => Sys2Proof.Machine.execUptimeMillisecond s

end Sys2Proof.Machine
end

