-- ==== Sys2Proof/Machine/Step.lean ====
section
/-! DEFINITION. One step: the command at the front of the queue; and a table word put in front of the queue. -/

namespace Sys2Proof.Machine

/-- One step takes the command at the front of the queue and runs it with the queue's rest. On an empty queue the part idles
(log entry 2). -/
def step (s : State) : Host.Outcome State Fault Refusal :=
  match s.pending with
  | [] => .next s
  | c :: rest => exec c { s with pending := rest }

/-- The state with the command that a table word spells at the front of its queue; the state itself where it spells none. -/
def State.withFetchWord (s : State) (nbits w : Nat) : State :=
  match decodeTableWord nbits w with
  | none => s
  | some c => { s with pending := c :: s.pending }

end Sys2Proof.Machine
end

