-- ==== Sys2Proof/Safety.lean ====
section
/-! DEFINITION. What the statements about the part are written in: a completed command, a request that is served, and the
invariants of the part. -/

namespace Sys2Proof.Machine

/-! ### Completed commands and requests -/

/-- The command completes: the part becomes `p`, and the queue of commands is not touched. -/
abbrev Gives (c : Instr) (s : State) (p : Part) : Prop := exec c s = .next { s with part := p }

/-- The request kind, tag and payload of a host request. -/
def requestOf : Instr → Option (ReqKind × Byte × List Byte)
  | .identify t d => some (.identify, t, d)
  | .status t d => some (.status, t, d)
  | .restart t d => some (.restart, t, d)
  | .mask t d => some (.mask, t, d)
  | .quiet t d => some (.quiet, t, d)
  | .wake t d => some (.wake, t, d)
  | .lineStart t d => some (.lineStart, t, d)
  | .lineStop t d => some (.lineStop, t, d)
  | .trackReadList t d => some (.trackRead, t, d)
  | .trackReadRecord t d => some (.trackRead, t, d)
  | .exitReadSummary t d => some (.exitRead, t, d)
  | .exitReadIndex t d => some (.exitRead, t, d)
  | .exitReadContainer t d => some (.exitRead, t, d)
  | .exitReadNextEscape t d => some (.exitRead, t, d)
  | .feedOpen t d => some (.feedOpen, t, d)
  | .feedClose t d => some (.feedClose, t, d)
  | .feedRead t d => some (.feedRead, t, d)
  | .portRead t d => some (.portRead, t, d)
  | .portPark t d => some (.portPark, t, d)
  | .portWake t d => some (.portWake, t, d)
  | .relay t d => some (.relay, t, d)
  | .sessionRead t d => some (.sessionRead, t, d)
  | .holdList t d => some (.holdList, t, d)
  | .lockout t d => some (.lockout, t, d)
  | .release t d => some (.release, t, d)
  | .removeHold t d => some (.removeHold, t, d)
  | .signOff t d => some (.signOff, t, d)
  | .sessionClose t d => some (.sessionClose, t, d)
  | .unbar t d => some (.unbar, t, d)
  | .timeSet t d => some (.timeSet, t, d)
  | .timeRead t d => some (.timeRead, t, d)
  | .meterRead t d => some (.meterRead, t, d)
  | .meterAdd t d => some (.meterAdd, t, d)
  | .settingReadSection t d => some (.settingRead, t, d)
  | .settingReadProtection t d => some (.settingRead, t, d)
  | .settingWrite t d => some (.settingWrite, t, d)
  | .sectionLockSection t d => some (.sectionLock, t, d)
  | .sectionLockKeySlot t d => some (.sectionLock, t, d)
  | .locksFreeze t d => some (.locksFreeze, t, d)
  | .boundarySet t d => some (.boundarySet, t, d)
  | _ => none

/-- Every entry of the request table has a handle issued before. -/
abbrev Hlc.handlesBelow (h : Hlc) : Prop := ∀ e ∈ h.table, e.handle < h.nextHandle

/-- R182, R183, R192: a request of the kind, of a length that fits, goes to its owner: the receiver is at rest and ready for its
frame, the part state serves it, the table has room, and no RESTART waits. -/
abbrev Part.serves (s : Part) (k : ReqKind) : Prop :=
  (s.psc.state = .run ∨ s.psc.state = .quiet ∧ k.servedInQuiet = true) ∧ s.hlc.receiver = .ready ∧
    s.hlc.table.length < Config.tableSize ∧ s.psc.restart = none ∧ s.hlc.handlesBelow

/-- R184: HLC with the request entered. -/
def Hlc.entered (h : Hlc) (k : ReqKind) (tag : Byte) (payload : List Byte) (c : Condition) : Hlc :=
  { h with
    receiver := .ready
    table := h.table ++ [⟨h.nextHandle, k, tag, payload, k.owner, c⟩]
    nextHandle := h.nextHandle + 1 }

/-- R184, R185: HLC with the request entered and replied in the same step. -/
def Hlc.answered (h : Hlc) (k : ReqKind) (tag : Byte) (payload : List Byte) (code : Code) (content : List Byte) : Hlc :=
  { h.entered k tag payload .replied with replies := h.replies ++ [⟨some h.nextHandle, k.byte, tag, code, content⟩] }

/-- The part with the request entered, handed to its owner and not yet replied. -/
def Part.entered (s : Part) (k : ReqKind) (tag : Byte) (payload : List Byte) : Part :=
  { s with hlc := s.hlc.entered k tag payload .dispatched }

/-- The part with the request entered and replied, and nothing else changed. -/
def Part.answered (s : Part) (k : ReqKind) (tag : Byte) (payload : List Byte) (code : Code) (content : List Byte) : Part :=
  { s with hlc := s.hlc.answered k tag payload code content }

/-- R183: HLC with one more immediate reply, unless eight wait, and the receiver ready for the next frame. -/
def Hlc.refused (h : Hlc) (kind tag : Byte) (code : Code) : Hlc :=
  { h with
    receiver := .ready
    replies := if h.replies.countP (·.entry.isNone) < Config.immediateSize then h.replies ++ [⟨none, kind, tag, code, []⟩]
      else h.replies }

/-- The part with an immediate reply made, and nothing else changed. -/
def Part.refused (s : Part) (kind tag : Byte) (code : Code) : Part := { s with hlc := s.hlc.refused kind tag code }

/-- R183, check 3: outside RUN a request of a kind that is not served in QUIET is turned away: QUIET in QUIET, SAVING in SAVE. -/
def OnlyInRun (c : Instr) (k : ReqKind) (tag : Byte) : Prop :=
  ∀ s : State, s.part.hlc.receiver = .ready →
    (s.part.psc.state = .quiet → Gives c s (s.part.refused k.byte tag .quiet)) ∧
    (s.part.psc.state = .save → Gives c s (s.part.refused k.byte tag .saving))

/-- R81, R90: a good station frame reaches the port in an admission state other than DARK: the part is in RUN or QUIET and SPX is
not waiting for an idle marker. -/
abbrev Part.hears (s : Part) (p : Port) : Prop :=
  s.active = true ∧ s.ports[p].hunting = false ∧ s.ports[p].admission ≠ .dark

/-- A good station frame: its port and its KIND byte (11.3). RELAY with more than 64 bytes is none (R81), nor is a kind of the table
under UNDEFINED_KIND (log entry 20). -/
def stationFrameOf : Instr → Option (Port × Byte)
  | .hello p _ _ => some (p, 0x01)
  | .proof p _ _ => some (p, 0x02)
  | .disown p => some (p, 0x03)
  | .report p _ => some (p, 0x04)
  | .claim p _ _ _ => some (p, 0x05)
  | .cancel p => some (p, 0x06)
  | .take p _ => some (p, 0x07)
  | .doseStart p _ _ => some (p, 0x08)
  | .doseEnd p _ _ _ => some (p, 0x09)
  | .verdict p _ _ _ => some (p, 0x0A)
  | .stationRelay p d => if d.length ≤ 64 then some (p, 0x0B) else none
  | .undefinedKind p k => if 1 ≤ k.toNat ∧ k.toNat ≤ 0x0B then none else some (p, k)
  | _ => none

/-- R90: the kinds of frame, by KIND byte, that a port accepts in each admission state. -/
def Part.acceptsKind (s : Part) (p : Port) (kind : Byte) : Prop :=
  match s.ports[p].admission with
  | .listening => kind = 0x01 ∨ kind = 0x04 ∨ kind = 0x09 ∧
      ((∃ (f : Feed) (l : Lease), s.fco.feeds[f].state = .draining l ∧ l.port = p) ∨
        ∃ c i, s.fco.notes[p] = some (.doseEnd c i))
  | .challenged => kind = 0x02 ∨ kind = 0x04
  | .admitted => 0x03 ≤ kind.toNat ∧ kind.toNat ≤ 0x0B
  | .parked => kind = 0x04
  | .barred => kind = 0x04
  | _ => False

/-- R82: the link timer of a port restarted, and the link up. -/
def Part.heardAt (s : Part) (p : Port) : Part :=
  { s with ports := upd s.ports p fun r =>
      { r with linkTimer := s.timer Config.linkTime, link := if r.admission = .barred then true else r.link } }

/-! ### Requests that name a session, and jobs that answer requests -/

/-- R128: the permissions of the requests that need a session. -/
def ReqKind.permits : ReqKind → BadgeRole → Bool
  | .lockout, _ | .release, _ | .sessionClose, _ => true
  | .signOff, r | .meterAdd, r => r != .operator
  | .removeHold, r | .unbar, r | .sectionLock, r | .locksFreeze, r | .boundarySet, r => r == .supervisor
  | _, _ => false

/-- The requests that need a session (SETTING WRITE apart, which may name none: R169). -/
def ReqKind.needsSession : ReqKind → Bool
  | .lockout | .release | .sessionClose | .signOff | .meterAdd | .removeHold | .unbar | .sectionLock | .locksFreeze
  | .boundarySet => true
  | _ => false

/-- R126, R128: the number names an open session; 0 names none. -/
abbrev Part.inSession (s : Part) (num : Byte) (x : Session) : Prop :=
  num ≠ 0 ∧ s.sva.sessions.find? (·.num == num) = some x

/-- R128: the request is served, and its session is open and permitted. -/
abbrev Part.accepts (s : Part) (k : ReqKind) (num : Byte) (x : Session) : Prop :=
  s.serves k ∧ s.inSession num x ∧ k.permits x.role = true

/-- R128: the part with the idle timer of a session restarted with the active session timeout. -/
def Part.withIdle (s : Part) (num : Byte) : Part :=
  { s with sva := { s.sva with sessions := s.sva.sessions.map fun x =>
      if x.num = num then { x with idle := some (s.mtu.uptime + BitVec.ofNat 48 (s.sva.timeout * 60000)) } else x } }

/-- The requests of a job replied with a code, in order. -/
def Part.repliedTo (s : Part) (origin : List Nat) (code : Code) : Part :=
  { s with hlc := origin.foldl (fun h r => h.reply r code []) s.hlc }

/-- The part with a frame sent to the reader. -/
def Part.toldReader (s : Part) (f : ReaderOut) : Part :=
  { s with sva := { s.sva with readerSent := s.sva.readerSent ++ [f.bytes] } }

/-- The part with a notice raised now. -/
def Part.noticed (s : Part) (b : NoticeBody) : Part := { s with hlc := s.hlc.enqueue ⟨b, s.mtu.hall, s.trk.pitch⟩ }

/-- The part with a job at the tail of the store queue. -/
def Part.queued (s : Part) (b : JobBody) (origin : List Nat) : Part :=
  { s with nvs := { s.nvs with queue := s.nvs.queue ++ [⟨b, origin⟩] } }

/-- R176: the part with the job in flight ended. -/
def Part.jobEnded (s : Part) : Part := { s with nvs := { s.nvs with inFlight := none } }

/-! ### Barring -/

/-- R89, R88: the port reported barred: its context ends, an ADMITTED port leaves ADMITTED, the state is BARRED, and PORT BARRED is
raised with the count. -/
def Part.barredAt (s : Part) (p : Port) : Part :=
  let q : Part := { s with prv := { s.prv with contexts := s.prv.contexts.set p none } }
  let left : Part :=
    if s.ports[p].admission = .admitted then leaveAdmitted p .barred .barred q
    else { q with ports := s.ports.set p { s.ports[p] with admission := .barred } }
  left.noticed (.portBarred p s.prv.counts[p])

/-- R89: where a port goes that is no longer barred: DARK, PARKED or LISTENING by its link and its parked mark. -/
def PortRec.released (r : PortRec) : Admission :=
  if r.link = false then .dark else if r.parked = true then .parked else .listening

/-- R115: a port evaluated against its count and the station limit: barred, released, or as it was. -/
def Part.portEvaluated (s : Part) (p : Port) : Part :=
  let r := s.ports[p]
  if limitReached s.prv.stationLimit s.prv.counts[p] = true then
    if r.admission = .barred then s else s.barredAt p
  else if r.admission = .barred then { s with ports := s.ports.set p { r with admission := r.released } }
  else s

/-- R117, R125: the reader barred: an exchange under way ends with REFUSE BARRED, the bar timer starts with a full period, and READER
BARRED is raised with the count and the period. No frame is sent in START-UP and SAVE (R121). -/
def Part.readerBarredNow (s : Part) : Part :=
  let q : Part := match s.sva.reader with
    | .challenging _ _ =>
      let ended : Part := { s with prv := { s.prv with readerContext := none } }
      if s.active = true then ended.toldReader (.refuse .barred) else ended
    | _ => s
  Part.noticed { q with
    prv := { q.prv with barTimer := some (s.mtu.uptime + BitVec.ofNat 48 (s.prv.barPeriod * 60000)) }
    sva := { q.sva with reader := .barred } } (.readerBarred s.prv.readerCount s.prv.barPeriod)

/-- R117, R118: the reader evaluated against its count and the badge limit: barred, released with its timer stopped, or as it was. -/
def Part.readerEvaluated (s : Part) : Part :=
  if limitReached s.prv.badgeLimit s.prv.readerCount = true then
    if s.sva.reader = .barred then s else s.readerBarredNow
  else if s.sva.reader = .barred then
    { s with prv := { s.prv with barTimer := none }, sva := { s.sva with reader := .ready } }
  else s

/-- R113, R115: every port and then the reader evaluated, the ports ascending (log entry 42). -/
def Part.evaluated (s : Part) : Part := ((List.finRange 12).foldl Part.portEvaluated s).readerEvaluated

/-! ### Power-on -/

/-- R27, R39: TRK at power-on, over the stored LINE section. -/
def Trk.startsFrom (line : Geometry) (t : Trk) : Prop :=
  t.line = .stopped ∧ t.track = [] ∧ t.exits = [] ∧ t.escapePending = 0 ∧ t.pitch = 0 ∧ t.nextContainer = 1 ∧ t.pulses = 0 ∧
    t.strays = 0 ∧ t.strayArmed = true ∧ t.geometry = line ∧ t.geometryPending = false ∧ t.gate = false ∧ t.gateTimer = none

/-- R78: FCO at power-on, over the stored FEEDS section. -/
def Fco.startsFrom (cfg : Vector FeedCfg 4) (c : Fco) : Prop :=
  (∀ f : Feed, c.feeds[f].state = .closed ∧ c.feeds[f].closing = none ∧ c.feeds[f].queue = [] ∧ c.feeds[f].cfg = cfg[f]) ∧
    ∀ p : Port, c.claims[p] = none ∧ c.notes[p] = none

/-- R103, R115: a port at power-on: its binding from store, BARRED from its stored count, DARK otherwise. -/
def PortRec.startsFrom (n : Nvs) (p : Port) (r : PortRec) : Prop :=
  r.cfg = n.ports[p] ∧
    (r.admission = if limitReached n.limits.stationLimit n.failcounts[p] then .barred else .dark) ∧
    r.parked = false ∧ r.status = none ∧ r.link = false ∧ r.linkTimer = none ∧ r.relay = []

/-- R119: PRV at power-on. -/
def Prv.startsFrom (n : Nvs) (v : Prv) : Prop :=
  v.keys = n.keys ∧ (∀ p : Port, v.contexts[p] = none ∧ v.counts[p] = n.failcounts[p]) ∧ v.readerContext = none ∧
    v.readerCount = n.readerFailed ∧ v.stationLimit = n.limits.stationLimit ∧ v.badgeLimit = n.limits.badgeLimit ∧
    v.barPeriod = n.limits.barPeriod ∧
    (v.barTimer = if limitReached n.limits.badgeLimit n.readerFailed then
      some (BitVec.ofNat 48 (n.limits.barPeriod * Config.minute)) else none)

/-- R145: SVA at power-on; the holder sets are the stored hold list, every hold recorded. -/
def Sva.startsFrom (n : Nvs) (v : Sva) : Prop :=
  v.badges = n.badges ∧ v.timeout = n.limits.sessionTimeout ∧ v.sessions = [] ∧ v.lastSession = 0 ∧
    (∀ p : Port, v.draining[p] = false ∧
      v.holders[p] = (n.holds.filter (·.port == p)).map fun h => ⟨h.badge, h.session, h.placed, true, false⟩) ∧
    (v.reader = if limitReached n.limits.badgeLimit n.readerFailed then .barred else .ready) ∧ v.lockouts = []

/-- R165: MTU at power-on; the meters are the stored checkpoint, or 0 and not FULL where the store holds none. -/
def Mtu.startsFrom (n : Nvs) (m : Mtu) : Prop :=
  m.uptime = 0 ∧ m.hall = ⟨0, true⟩ ∧
    m.meters = n.checkpoint.getD (Vector.replicate 28 ⟨0, false⟩) ∧
    m.cfg = n.meters ∧ m.checkpointPeriod = n.limits.checkpointPeriod ∧ m.checkpointTimer = none ∧ m.lastCheckpoint = none

/-- R194 and the power-on rules of the blocks: the part at the beginning of START-UP, over a store. -/
def Part.startsFrom (n : Nvs) (t : Part) : Prop :=
  t.psc.state = .startUp ∧ t.trk.startsFrom n.line ∧ t.fco.startsFrom n.feeds ∧
    (∀ p : Port, t.ports[p].startsFrom n p ∧ t.runEnable p = false) ∧ (∀ f : Feed, t.permitOutput f = false) ∧
    t.gateOutput = false ∧ t.prv.startsFrom n ∧ t.sva.startsFrom n ∧ t.mtu.startsFrom n ∧
    t.hlc.table = [] ∧ t.hlc.replies = [] ∧ t.hlc.notices = [] ∧ t.hlc.mask = 0 ∧ t.hlc.gap = 0 ∧
    t.psc.supplyLowTime = n.limits.supplyLow ∧
    t.nvs = { n with activeBoundary := n.boundary, queue := [], inFlight := none, deferred := [], saveDue := false }

/-- R194, R103, R119, R159: the notices of entry to RUN, in the model's order (log entry 11). -/
def Part.runNotices (s : Part) : List NoticeBody :=
  [.restarted s.psc.cause] ++
    ((List.finRange 12).filter fun p : Port => s.ports[p].admission = .barred).map
      (fun p : Port => .portBarred p s.prv.counts[p]) ++
    (if s.sva.reader = .barred then [.readerBarred s.prv.readerCount s.prv.barPeriod] else []) ++
    (List.finRange 12).filterMap fun p : Port =>
      let role := s.ports[p].cfg.role
      let a := s.mtu.meters[meterA p].value
      let c := s.mtu.cfg[p]
      match serviceOf c a with
      | .none => none
      | .due => some (.serviceDue p role a c.threshold c.grace)
      | .limit => some (.hardLimit p role a c.threshold c.grace)

/-! ### Invariants -/

/-- R36: what a container that is decided PASS looks like. -/
def Record.good (r : Record) : Bool :=
  !r.crossed && r.fill.any (·.result == .filled) && r.verdicts.all (·.result == .pass)

/-- R36, R37, R34: an exit entry is REJECT exactly when a cause is present, a passed one holds a good record, and only a passed one
is an escape. -/
abbrev ExitEntry.sound (e : ExitEntry) : Prop :=
  e.decision = e.causes.decision ∧ (e.decision = .pass → e.record.good = true) ∧ (e.escape = true → e.decision = .pass)

/-- R13: at most the planned doses are done. -/
def Record.dosesFit (r : Record) : Bool := r.fill.all fun f => decide (f.done ≤ f.planned)

/-- R12, R13, R36, R38, R40: TRK's invariant. -/
def Trk.sound (t : Trk) : Prop :=
  t.nextContainer ≠ 0 ∧ (∀ r ∈ t.track, r.container ≠ 0 ∧ r.dosesFit = true) ∧ t.gate = t.gateTimer.isSome ∧
    t.exits.length ≤ Config.exitSize ∧ ∀ e ∈ t.exits, e.sound

/-- The container numbers of the exit list and then of the track, oldest first. -/
def Trk.containers (t : Trk) : List Half := t.exits.map (·.record.container) ++ t.track.map (·.container)

/-- R12: the numbers are the consecutive ones that come just before `next`, with 65535 followed by 1. -/
def numberedUpTo (next : Half) (l : List Half) : Prop :=
  next ≠ 0 ∧ ∀ (i : Nat) (h : i < l.length), l[i] ≠ 0 ∧ (l[i].toNat - 1 + (l.length - i)) % 65535 = next.toNat - 1

/-- R10, R12, R14: positions on the track fall from head to tail and stay below the gate offset; the numbers of exit list and track are
the last ones issued, in order. With it stands what keeps it so: at most sixteen exit entries, and every LINE section that is active,
stored or on its way to store within the ranges of R1. -/
def Part.trackOrdered (s : Part) : Prop :=
  (s.trk.track.map s.trk.position).Pairwise (· > ·) ∧ (∀ r ∈ s.trk.track, s.trk.position r < s.trk.geometry.gate) ∧
    numberedUpTo s.trk.nextContainer s.trk.containers ∧ s.trk.exits.length ≤ Config.exitSize ∧
    geometryFits s.trk.geometry = true ∧ geometryFits s.nvs.line = true ∧
    ∀ j ∈ s.nvs.jobs, ∀ g, j.body = .setting (.line g) → geometryFits g = true

/-- R183, R184, R188 to R190: HLC's invariant. -/
def Hlc.sound (h : Hlc) : Prop :=
  h.table.length ≤ Config.tableSize ∧ h.handlesBelow ∧ (h.table.map (·.handle)).Nodup ∧
    h.replies.countP (·.entry.isNone) ≤ Config.immediateSize ∧ h.notices.length ≤ Config.noticeSize ∧ h.gap ≤ 255 ∧ h.mask ≤ 7

/-- R122, R126: SVA's sessions: at most three, with numbers from 1 and no number or badge twice; an exchange under way is for a
badge without a session, and finds room. -/
def Sva.sessionsSound (v : Sva) : Prop :=
  v.sessions.length ≤ Config.sessionSize ∧ (v.sessions.map (·.badge)).Nodup ∧ (v.sessions.map (·.num)).Nodup ∧
    (∀ x ∈ v.sessions, x.num ≠ 0) ∧
    match v.reader with
    | .challenging b _ => v.sessions.length < Config.sessionSize ∧ ∀ x ∈ v.sessions, x.badge ≠ b
    | _ => True

/-- R52, R98, R176: claim places, relay queues and store queue keep their limits. -/
def Part.queuesFit (s : Part) : Prop :=
  (∀ f, s.fco.load f ≤ Config.claimSize) ∧ (∀ p : Port, s.ports[p].relay.length ≤ Config.relaySize) ∧
    s.nvs.queue.length ≤ Config.storeSize

/-- R47, R52: how many of claim in reservation, queued entry, grant and lease the robot on a port holds. -/
def Fco.holdings (c : Fco) (p : Port) : Nat :=
  (if c.claims[p].isSome then 1 else 0) +
    ((List.finRange 4).map fun f =>
      c.feeds[f].queue.countP (·.port == p) + if c.feeds[f].servesPort p then 1 else 0).sum

/-- R47, R52, R57: a robot holds at most one of claim in reservation, queued entry, grant and lease; queued entries, grants and claims that
are not void are those of ADMITTED ports. With it stands what keeps it so: no late note beside a grant or lease (R59, R63), and a proof
context only at a CHALLENGED port (R110). -/
def Part.claimsSound (s : Part) : Prop :=
  (∀ p : Port, s.fco.holdings p ≤ 1) ∧
    (∀ (f : Feed), ∀ e ∈ s.fco.feeds[f].queue, s.ports[e.port].admission = .admitted) ∧
    (∀ (f : Feed) (l : Lease), s.fco.feeds[f].state = .granted l → s.ports[l.port].admission = .admitted) ∧
    (∀ (p : Port) (k : Claim), s.fco.claims[p] = some k → k.void = none → s.ports[p].admission = .admitted) ∧
    (∀ (f : Feed) (l : Lease), s.fco.feeds[f].state.lease? = some l → s.fco.notes[l.port] = none) ∧
    ∀ p : Port, s.prv.contexts[p].isSome = true → s.ports[p].admission = .challenged

/-- R89, R117: outside SAVE, and with supply, a port is BARRED exactly when its count has reached a nonzero station limit, and the
reader exactly when its count has reached a nonzero badge limit. -/
def Part.barringSound (s : Part) : Prop :=
  s.psc.state ≠ .save → s.psc.state ≠ .off →
    (∀ p : Port, s.ports[p].admission = .barred ↔ s.portBarred p = true) ∧
    (s.sva.reader = .barred ↔ s.readerBarred = true)

/-- R132: what the store keeps of a hold. -/
def Hold.stored (x : Hold) (p : Port) : StoredHold := ⟨p, x.badge, x.session, x.placed⟩

/-- The port and badge a hold job is for. -/
def Job.holdKey? (j : Job) : Option (Port × Word) :=
  match j.body with
  | .holdAdd h => some (h.port, h.badge)
  | .holdRemove p b => some (p, b)
  | _ => none

/-- R132, R134, R138: the hold that a hold job is for: a HOLD-ADD is for an unrecorded hold that is not in release, a HOLD-REMOVE for a hold
in release. -/
def Sva.backs (v : Sva) (j : Job) : Prop :=
  match j.body with
  | .holdAdd h => (⟨h.badge, h.session, h.placed, false, false⟩ : Hold) ∈ v.holders[h.port]
  | .holdRemove p b => ∃ x ∈ v.holders[p], x.badge = b ∧ x.releasing = true
  | _ => True

/-- R131, R132: the stored hold list is always the set of the holds marked recorded. With it stands what keeps it so: no port with
more than three holds or one badge twice, in memory or in store, and every hold job with its hold, one job for a hold. Without supply only the store
counts. -/
def Part.holdsSound (s : Part) : Prop :=
  (∀ p : Port, (s.nvs.holds.filter (·.port == p)).length ≤ Config.holdSize) ∧
    (s.nvs.holds.map fun h => (h.port, h.badge)).Nodup ∧
    (s.psc.state ≠ .off →
      (∀ p : Port, s.sva.holders[p].length ≤ Config.holdSize ∧ (s.sva.holders[p].map (·.badge)).Nodup) ∧
      (∀ h : StoredHold, h ∈ s.nvs.holds ↔ ∃ x ∈ s.sva.holders[h.port], x.recorded = true ∧ x.stored h.port = h) ∧
      (∀ j ∈ s.nvs.jobs, s.sva.backs j) ∧ (s.nvs.jobs.filterMap Job.holdKey?).Nodup)

end Sys2Proof.Machine
end

