-- ==== Sys2Proof/Certificates/Slice0/Obligations.lean ====
section
/-! DEFINITION. The statements about the part. Each is a proposition; none is proved here. `s.part` is the part before the command,
and `Gives c s t` says that the command answers a next state whose part is `t` and whose queue of commands is as before. -/

section

open Sys2Proof Sys2Proof.Machine

/-! ### The machine -/

/-- A step takes the command at the front of the queue and is that command's effect on the rest. On an empty queue the part
idles: the model's choice, log entry 2. Every command answers a next state in every state, and leaves the queue of commands as
it is: the manual describes no condition that stops the part. -/
def Obligations.StepTakesTheFrontCommand : Prop :=
  ((∀ (c : Instr) (rest : List Instr) (s : State), s.pending = c :: rest → step s = exec c { s with pending := rest }) ∧
   ∀ s : State, s.pending = [] → step s = .next s) ∧
  (∀ (c : Instr) (s : State), ∃ t : Part, Gives c s t)

/-- The state after reset is the beginning of START-UP over a store fresh from manufacture (R175 and the defaults of the
sections, R1, R48, R84, R120, R157, R168). The line rate and the level of SUPWARN are the model's choice, log entry 4. -/
def Obligations.ResetIsPowerOnOfAFreshStore : Prop :=
  let n := State.reset.part.nvs
  State.reset.pending = [] ∧ State.reset.part.startsFrom n ∧ State.reset.part.psc.cause = .power ∧
    n.line.gate = 12 ∧ n.line.divider = 1 ∧
    (∀ p : Port, n.line.windows[p] = ⟨0, 0⟩ ∧ n.line.cameras[p] = ⟨0, false, false⟩) ∧
    (∀ f : Feed, n.feeds[f] = ⟨false, 150, 1500⟩) ∧
    (∀ p : Port, n.ports[p] = ⟨.unused, 0, 0, false⟩ ∧ n.meters[p] = ⟨0, 0, 0⟩) ∧
    (∀ i : Fin 16, n.badges[i] = if i = 0 then ⟨1, .supervisor, 0, true⟩ else ⟨0, .operator, 0, false⟩) ∧
    (∀ k : Slot, n.keys[k] = 0 ∧ n.slotLocks[k] = false) ∧ (∀ a : Fin 7, n.sectionLocks[a] = false) ∧
    n.limits = ⟨3, 5, 15, 20, 60, 2⟩ ∧ n.holds = [] ∧ n.checkpoint = none ∧
    (∀ p : Port, n.failcounts[p] = 0) ∧ n.readerFailed = 0 ∧ n.frozen = false ∧ n.boundary = 4

/-- The invariants stated below hold in the state after reset. -/
def Obligations.ResetMeetsTheInvariants : Prop :=
  let p := State.reset.part
  p.trk.sound ∧ p.trackOrdered ∧ p.hlc.sound ∧ p.sva.sessionsSound ∧ p.queuesFit ∧ p.claimsSound ∧ p.barringSound ∧ p.holdsSound

/-! ### Invariants -/

/-- R12, R13, R36, R38, R40: every step keeps TRK's invariant: no container is numbered 0, no fill has more doses done than
planned, GATE is asserted exactly while its timer runs, the exit list has at most sixteen entries, and each was decided REJECT
exactly when a cause was present; a container decided PASS was filled, whole and never judged bad. -/
def Obligations.StepKeepsTrackSound : Prop :=
  ∀ s t : State, s.part.trk.sound → step s = .next t → t.part.trk.sound

/-- R10, R12, R14: every step keeps the track in entry order, the oldest record at the highest position, each at a position of
its own below the gate offset, so at most as many as the gate offset and never more than 90; and the numbers of exit list and
track are the last ones issued, in order, so no number stands twice in the two together. -/
def Obligations.StepKeepsTrackOrdered : Prop :=
  ∀ s t : State, s.part.trackOrdered → step s = .next t →
    t.part.trackOrdered ∧ t.part.trk.containers.Nodup ∧ t.part.trk.track.length ≤ t.part.trk.geometry.gate ∧
      t.part.trk.geometry.gate ≤ 90

/-- R183, R184, R188 to R190: every step keeps HLC's limits: at most 8 requests, 8 immediate replies and 32 notices, a mask
level up to 7, a GAP count up to 255, and every request under a name of its own (the names are the model's, log entry 6). -/
def Obligations.StepKeepsHostLinkSound : Prop :=
  ∀ s t : State, s.part.hlc.sound → step s = .next t → t.part.hlc.sound

/-- R126: every step keeps at most three sessions, with numbers from 1 upwards, no number and no badge twice. -/
def Obligations.StepKeepsSessionsSound : Prop :=
  ∀ s t : State, s.part.sva.sessionsSound → step s = .next t → t.part.sva.sessionsSound

/-- R52, R98, R176: every step keeps the limits of the claim queues, the relay queues and the store queue. -/
def Obligations.StepKeepsQueuesInBounds : Prop :=
  ∀ s t : State, s.part.queuesFit → step s = .next t → t.part.queuesFit

/-- R47, R52, R57: every step keeps at most one of claim in reservation, queued entry, grant and lease for each robot; and
queued entries, grants and claims that are not void are those of ADMITTED ports. -/
def Obligations.StepKeepsClaimsSound : Prop :=
  ∀ s t : State, s.part.claimsSound → step s = .next t → t.part.claimsSound

/-- R89, R117: every step keeps a port BARRED exactly when its failed count has reached a nonzero station limit, and the
reader BARRED exactly when its failed count has reached a nonzero badge limit (in START-UP, RUN and QUIET; in SAVE barring is
not acted on, R119). -/
def Obligations.StepKeepsBarringSound : Prop :=
  ∀ s t : State, s.part.barringSound → step s = .next t → t.part.barringSound

/-- R131, R132: every step keeps the stored hold list equal to the holds marked recorded, whatever jobs end, fail or are lost:
so a recorded hold is there after any loss of supply. -/
def Obligations.StepKeepsHoldsStored : Prop :=
  ∀ s t : State, s.part.holdsSound → step s = .next t → t.part.holdsSound

/-! ### The host link -/

/-- R183: the checks of a good frame, in order, each with its immediate reply and nothing else changed. The frame is received
by a receiver at rest and ready for it. R184, R185: a request that passes the checks is entered in the table, behind the
entries that stand there, and no entry leaves. An owner's reply marks the entry replied and joins the reply stream with the
request's kind and tag, once; that a further reply to it changes nothing is log entry 38. -/
def Obligations.GoodFramesAreCheckedInOrder : Prop :=
  ((∀ (k : ReqKind) (d : List Byte),
     let n := d.length
     (k ∈ [.identify, .status, .restart, .quiet, .wake, .lineStart, .lineStop, .sessionRead, .timeRead] →
       (lengthFits k d = true ↔ n = 0)) ∧
     (k ∈ [.mask, .feedOpen, .feedClose, .feedRead, .portRead, .portPark, .portWake, .holdList, .sessionClose, .locksFreeze] →
       (lengthFits k d = true ↔ n = 1)) ∧
     (k ∈ [.lockout, .release, .signOff, .unbar, .meterRead, .boundarySet] → (lengthFits k d = true ↔ n = 2)) ∧
     (k ∈ [.trackRead, .exitRead, .settingRead, .sectionLock] → (lengthFits k d = true ↔ n = 3)) ∧
     (k ∈ [.removeHold, .timeSet, .meterAdd] → (lengthFits k d = true ↔ n = 6)) ∧
     (k = .relay → (lengthFits k d = true ↔ 1 ≤ n ∧ n ≤ 65)) ∧
     (k = .settingWrite → (lengthFits k d = true ↔ 3 ≤ n ∧ ∀ area size : Nat, (byteAt d 1).toNat = area →
       (area, size) ∈ [(0, 50), (1, 5), (2, 11), (3, 12), (4, 7), (5, 16), (6, 7)] → n = 3 + size))) ∧
   (∀ (kind tag : Byte) (d : List Byte) (s : State), d.length ≤ 248 → s.part.hostReceives = true →
     s.part.hlc.receiver = .ready → ¬ (1 ≤ kind.toNat ∧ kind.toNat ≤ 0x22) →
     Gives (.unknownKind kind tag d) s (s.part.refused kind tag .unknownKind)) ∧
   ∀ (c : Instr) (k : ReqKind) (tag : Byte) (d : List Byte) (s : State), requestOf c = some (k, tag, d) → d.length ≤ 248 →
     s.part.hostReceives = true → s.part.hlc.receiver = .ready →
     (lengthFits k d = false → Gives c s (s.part.refused k.byte tag .badLength)) ∧
     (lengthFits k d = true → s.part.psc.state = .save → Gives c s (s.part.refused k.byte tag .saving)) ∧
     (lengthFits k d = true → s.part.psc.state = .quiet → k ∉ [.status, .identify, .timeRead, .meterRead, .wake] →
       Gives c s (s.part.refused k.byte tag .quiet)) ∧
     (lengthFits k d = true → s.part.psc.state = .run ∨
         s.part.psc.state = .quiet ∧ k ∈ [.status, .identify, .timeRead, .meterRead, .wake] →
       8 ≤ s.part.hlc.table.length → Gives c s (s.part.refused k.byte tag .busy))) ∧
  ((∀ (c : Instr) (k : ReqKind) (tag : Byte) (d : List Byte) (s : State), requestOf c = some (k, tag, d) →
     lengthFits k d = true → d.length ≤ 248 → s.part.serves k →
     ∃ t, Gives c s t ∧
       t.hlc.table.map (fun e => (e.handle, e.kind, e.tag, e.payload)) =
         s.part.hlc.table.map (fun e => (e.handle, e.kind, e.tag, e.payload)) ++ [(s.part.hlc.nextHandle, k, tag, d)]) ∧
   ∀ (h : Hlc) (e : Entry) (code : Code) (content : List Byte), (h.table.map (·.handle)).Nodup → e ∈ h.table →
     (e.condition = .replied → h.reply e.handle code content = h) ∧
     (e.condition ≠ .replied → h.reply e.handle code content = { h with
       table := h.table.map fun x => if x.handle = e.handle then { x with condition := .replied } else x
       replies := h.replies ++
         [⟨some e.handle, e.kind.byte, e.tag, code, if code = .done then content else []⟩] }))

/-- R181, R182, R199: the receiver, character by character (a character is its byte, or none where it has no stop bit). At
rest and ready, SYNC begins a frame and any other character is ignored, and no SYNC is taken then until an idle gap. Inside a
frame: a LENGTH above 248 is a length fault, a character without a stop bit a character fault, a CRC other than the computed
one a CRC fault; each discards the frame, and no SYNC is taken until an idle gap. A frame that has not ended leaves the
receiver inside it. The gap makes the receiver ready. In START-UP and without supply nothing is received. That a request or an
unknown kind acts only with the receiver at rest and ready, its frame being one command, is log entry 5; that
HOST_FRAME_DISCARDED with a good frame is no event, log entry 20. -/
def Obligations.ReceiverWaitsForAnIdleGap : Prop :=
  (∀ s : State, s.part.hostReceives = true →
    let becomes : List Character → Receiver → Prop := fun l r =>
      Gives (.hostFrameDiscarded l) s { s.part with hlc := { s.part.hlc with receiver := r } }
    Gives .hostIdleGap s { s.part with hlc := { s.part.hlc with receiver := .ready } } ∧
    (∀ l, s.part.hlc.receiver = .gapWanted → becomes l .gapWanted) ∧
    (∀ c rest, s.part.hlc.receiver = .ready → c ≠ some 0xA5 → becomes (c :: rest) .gapWanted) ∧
    ∀ (taken : List Byte) (before : List Character),
      (taken.length < 2 ∨ fromLe (taken.take 2) ≤ 248 ∧ taken.length < fromLe (taken.take 2) + 6) →
      (s.part.hlc.receiver = .ready ∧ before = some 0xA5 :: taken.map some ∨
        s.part.hlc.receiver = .insideFrame taken ∧ before = []) →
      becomes before (.insideFrame taken) ∧
      (∀ rest, becomes (before ++ none :: rest) .gapWanted) ∧
      (∀ lo hi rest, taken = [lo] → 248 < lo.toNat + 256 * hi.toNat → becomes (before ++ some hi :: rest) .gapWanted) ∧
      ∀ (kind tag lo hi : Byte) (payload : List Byte) (rest : List Character), payload.length ≤ 248 →
        let checked := le 2 payload.length ++ [kind, tag] ++ payload
        let received : Half := hi ++ lo
        taken = checked ++ [lo] →
        (received ≠ crc16 checked → becomes (before ++ some hi :: rest) .gapWanted) ∧
        (received = crc16 checked → Gives (.hostFrameDiscarded (before ++ some hi :: rest)) s s.part)) ∧
  (∀ (l : List Character) (s : State), s.part.hostReceives = false →
    Gives (.hostFrameDiscarded l) s s.part ∧ Gives .hostIdleGap s s.part) ∧
  (∀ (c : Instr) (k : ReqKind) (tag : Byte) (d : List Byte) (s : State), requestOf c = some (k, tag, d) →
    s.part.hostReceives = false ∨ s.part.hlc.receiver ≠ .ready → Gives c s s.part) ∧
  ∀ (kind tag : Byte) (d : List Byte) (s : State),
    s.part.hostReceives = false ∨ s.part.hlc.receiver ≠ .ready → Gives (.unknownKind kind tag d) s s.part

/-- R188: MASK sets the level and is replied DONE; a value above 7 is refused; from then on exactly the notices whose priority
is above the level are sendable; in QUIET the level stays. -/
def Obligations.MaskSetsTheLevel : Prop :=
  (∀ (tag level : Byte) (s : State), s.part.serves .mask →
    (level.toNat ≤ 7 →
      Gives (.mask tag [level]) s
        { s.part with hlc := { s.part.hlc.answered .mask tag [level] .done [] with mask := level.toNat } } ∧
      ∀ n : Notice, ({ s.part.hlc with mask := level.toNat } : Hlc).sendable n = true ↔ level.toNat < n.body.priority) ∧
    (7 < level.toNat → Gives (.mask tag [level]) s (s.part.answered .mask tag [level] .badValue []))) ∧
  ∀ tag level : Byte, OnlyInRun (.mask tag [level]) .mask tag

/-- R186, R189: the transmitter: a frame under way is finished first; then, of replies and sendable notices, the only kind
that waits or else the kind not sent last: the oldest reply, or the oldest sendable notice, which leaves the queue. Nothing is
sent in START-UP and after a save has dropped the links. An idle transmitter chooses at a TRANSMITTER_FRAME_END (log entry
21), and an immediate reply leaves its list when its frame begins (log entry 13). R191: when the frame of a notice begins with
the GAP count above 0, a GAP notice with the count joins the tail, stamped with hall time and pitch count, and the count
returns to 0. -/
def Obligations.TransmitterTakesRepliesAndNoticesInTurn : Prop :=
  ((∀ s : State, s.part.hostSends = false → Gives .transmitterFrameEnd s s.part) ∧
   (∀ (s : State) (f : Sending), s.part.hostSends = true → s.part.hlc.sending = some f →
     exec .transmitterFrameEnd s = exec .transmitterFrameEnd { s with part := { s.part with hlc := { s.part.hlc with
       sending := none
       sent := s.part.hlc.sent ++ [f.bytes]
       table := match f with
         | .reply r => s.part.hlc.table.filter fun e => some e.handle != r.entry
         | .notice _ => s.part.hlc.table } } }) ∧
   (∀ (s : State), s.part.hostSends = true → s.part.hlc.sending = none → s.part.hlc.replies = [] →
     (∀ n ∈ s.part.hlc.notices, n.body.priority ≤ s.part.hlc.mask) → Gives .transmitterFrameEnd s s.part) ∧
   (∀ (s : State) (r : Reply) (rest : List Reply), s.part.hostSends = true → s.part.hlc.sending = none →
     s.part.hlc.replies = r :: rest →
     s.part.hlc.lastNotice = true ∨ (∀ n ∈ s.part.hlc.notices, n.body.priority ≤ s.part.hlc.mask) →
     Gives .transmitterFrameEnd s
       { s.part with hlc := { s.part.hlc with sending := some (.reply r), replies := rest, lastNotice := false } }) ∧
   ∀ (s : State) (before after : List Notice) (n : Notice), s.part.hostSends = true → s.part.hlc.sending = none →
     s.part.hlc.notices = before ++ n :: after → (∀ m ∈ before, m.body.priority ≤ s.part.hlc.mask) →
     s.part.hlc.mask < n.body.priority → s.part.hlc.lastNotice = false ∨ s.part.hlc.replies = [] →
     ∃ t, Gives .transmitterFrameEnd s t ∧ t.hlc.sending = some (.notice n) ∧ t.hlc.lastNotice = true ∧
       (s.part.hlc.gap = 0 → t = { s.part with hlc := { s.part.hlc with
         sending := some (.notice n), notices := before ++ after, lastNotice := true } })) ∧
  (∀ (s : State) (before after : List Notice) (n : Notice), s.part.hostSends = true → s.part.hlc.sending = none →
     s.part.hlc.notices = before ++ n :: after → (∀ m ∈ before, m.body.priority ≤ s.part.hlc.mask) →
     s.part.hlc.mask < n.body.priority → s.part.hlc.lastNotice = false ∨ s.part.hlc.replies = [] → 0 < s.part.hlc.gap →
     Gives .transmitterFrameEnd s { s.part with hlc := { s.part.hlc with
       sending := some (.notice n)
       notices := before ++ after ++ [⟨.gap s.part.hlc.gap, s.part.mtu.hall, s.part.trk.pitch⟩]
       gap := 0
       lastNotice := true } })

/-- R190: a notice raised into a full queue displaces the oldest notice of the lowest priority present, GAP and RESTARTED
apart, if that priority is at or below its own, and is dropped otherwise; either way the GAP count rises, up to 255. -/
def Obligations.FullQueueDisplacesTheLowest : Prop :=
  ∀ (body : NoticeBody) (s : Part), s.hlc.notices.length = 32 →
    let n : Notice := ⟨body, s.mtu.hall, s.trk.pitch⟩
    let gap := if s.hlc.gap < 255 then s.hlc.gap + 1 else 255
    let loses : Notice → Prop := fun m => (∀ c, m.body ≠ .gap c) ∧ ∀ c, m.body ≠ .restarted c
    (∀ (before after : List Notice) (old : Notice), s.hlc.notices = before ++ old :: after → loses old →
      (∀ m ∈ s.hlc.notices, loses m → old.body.priority ≤ m.body.priority) →
      (∀ m ∈ before, loses m → old.body.priority < m.body.priority) → s.hlc.gap ≤ 255 →
      (old.body.priority ≤ body.priority →
        raise body s = { s with hlc := { s.hlc with notices := before ++ after ++ [n], gap := gap } }) ∧
      (body.priority < old.body.priority → raise body s = { s with hlc := { s.hlc with gap := gap } })) ∧
    (s.hlc.gap ≤ 255 → (∀ m ∈ s.hlc.notices, ¬ loses m) → raise body s = { s with hlc := { s.hlc with gap := gap } })

/-- R199, R200, 11.2, 11.5: the bytes of what the part sends the host and shows it: a reply carries its request's kind plus
80h (in one byte, log entry 15) and tag, a notice its kind and tag 0, its header and its subject fields; each frame is SYNC,
LENGTH, KIND, TAG, PAYLOAD and the CRC over LENGTH through PAYLOAD, least significant byte first. Then the reply codes in
order, every notice with kind, priority and subject fields, and the records of TRACK READ and EXIT READ. -/
def Obligations.FramesNoticesAndRecordsAreLaidOut : Prop :=
  let frame : Byte → Byte → List Byte → List Byte := fun kind tag payload =>
    let checked := le 2 payload.length ++ [kind, tag] ++ payload
    [(0xA5 : Byte)] ++ checked ++ [(crc16 checked).setWidth 8, (crc16 checked >>> 8).setWidth 8]
  let mark : Bool → Nat → Nat := fun b w => if b then w else 0
  (∀ b0 b1 b2 b3 b4 b5 : Byte, le 2 (b1 ++ b0).toNat = [b0, b1] ∧ le 4 (b3 ++ b2 ++ b1 ++ b0).toNat = [b0, b1, b2, b3] ∧
    le 6 (b5 ++ b4 ++ b3 ++ b2 ++ b1 ++ b0).toNat = [b0, b1, b2, b3, b4, b5]) ∧
  (∀ r : Reply, (Sending.reply r).bytes = frame (r.kind + 0x80) r.tag (r.code.byte :: r.content)) ∧
  ([Code.done, .busy, .unknownKind, .badLength, .badValue, .wrongState, .noSession, .notPermitted, .locked, .frozen, .full,
    .notFound, .alreadyHeld, .inProgress, .overflow, .storeFault, .aborted, .quiet, .saving].map Code.byte =
    (List.range 19).map (BitVec.ofNat 8)) ∧
  (∀ n : Notice, (Sending.notice n).bytes = frame n.body.kind 0
    ([BitVec.ofNat 8 n.body.priority] ++ le 6 n.hall.time.toNat ++ [if n.hall.unset then 1 else 0] ++ le 4 n.pitch.toNat ++
      n.body.subject)) ∧
  (let lays : NoticeBody → Byte → Nat → List Byte → Prop := fun b kind priority subject =>
      b.kind = kind ∧ b.priority = priority ∧ b.subject = subject
    let num : Port → Byte := fun p => BitVec.ofNat 8 (p.val + 1)
    ∀ (p : Port) (f : Feed) (m : Meter) (c : Half) (i k : Nat) (r : VerdictResult) (role : Role) (badgeRole : BadgeRole)
      (a t g v : Word) (b n : Byte) (d : List Byte) (idle : Bool) (st : Admission),
      lays (.restarted .power) 0xE0 7 [0] ∧ lays (.restarted .supplyLow) 0xE0 7 [1] ∧ lays (.restarted .request) 0xE0 7 [2] ∧
      lays (.escape c p r) 0xE1 7 (le 2 c.toNat ++ [num p, r.byte]) ∧ lays (.gap i) 0xE2 7 [BitVec.ofNat 8 i] ∧
      lays (.feedTimeout f p c i) 0xE3 6
        ([BitVec.ofNat 8 (f.val + 1), num p] ++ le 2 c.toNat ++ [BitVec.ofNat 8 i]) ∧
      (∀ j : JobBody, lays (.storeFault j) 0xE4 6 j.faultBytes) ∧
      lays (.portBarred p i) 0xE5 5 [num p, BitVec.ofNat 8 i] ∧
      lays (.readerBarred i k) 0xE6 5 [BitVec.ofNat 8 i, BitVec.ofNat 8 k] ∧
      lays (.hardLimit p role a t g) 0xE7 5 ([num p, role.byte] ++ le 4 a.toNat ++ le 4 t.toNat ++ le 4 g.toNat) ∧
      lays (.lateVerdict c p r b) 0xE8 4 (le 2 c.toNat ++ [num p, r.byte, b]) ∧
      lays (.meterFull m v a) 0xE9 4 ([BitVec.ofNat 8 m.val] ++ le 4 v.toNat ++ le 4 a.toNat) ∧
      lays (.serviceDue p role a t g) 0xEA 3 ([num p, role.byte] ++ le 4 a.toNat ++ le 4 t.toNat ++ le 4 g.toNat) ∧
      lays .strayPitch 0xEB 3 [] ∧
      (∀ why, lays (.portState p st why) 0xEC 2 [num p, st.byte, why.byte]) ∧
      lays (.sessionOpened n v badgeRole) 0xED 2 ([n] ++ le 4 v.toNat ++ [badgeRole.byte]) ∧
      lays (.sessionClosed n v idle) 0xEE 2 ([n] ++ le 4 v.toNat ++ [if idle then 1 else 0]) ∧
      lays (.woken .wake) 0xEF 2 [0, 0] ∧ lays (.woken (.port p)) 0xEF 2 [1, num p] ∧ lays (.woken .reader) 0xEF 2 [2, 0] ∧
      lays (.relay p d) 0xF0 1 ([num p, BitVec.ofNat 8 d.length] ++ d) ∧
      lays (.relayDropped p i) 0xF1 1 [num p, BitVec.ofNat 8 i]) ∧
  ([LeaveCause.entry, .linkDown, .disown, .unexpected, .portPark, .quiet, .isolation, .barred].map LeaveCause.byte =
    [0, 1, 2, 3, 4, 5, 6, 7]) ∧
  ([Admission.dark, .listening, .known, .challenged, .admitted, .parked, .barred].map Admission.byte =
    [0, 1, 2, 3, 4, 5, 6]) ∧
  ([VerdictResult.pass, .reject, .unreadable].map VerdictResult.byte = [0, 1, 2]) ∧
  ([Role.unused, .robot, .camera].map Role.byte = [0, 1, 2]) ∧
  ([BadgeRole.operator, .technician, .supervisor].map BadgeRole.byte = [1, 2, 3]) ∧
  (let fault : JobBody → Byte → Nat → Nat → Word → Prop := fun j kind low high badge =>
      j.faultBytes = [kind, BitVec.ofNat 8 low, BitVec.ofNat 8 high] ++ le 4 badge.toNat
    ∀ (p : Port) (b v : Word) (k : Slot) (area : Fin 7) (h : StoredHold) (i : Nat) (x y : Bool),
      (∀ g, fault (.setting (.line g)) 0 0 0 0) ∧ (∀ (f : Feed) c, fault (.setting (.feed f c)) 0 1 (f.val + 1) 0) ∧
      (∀ c, fault (.setting (.port p c)) 0 2 (p.val + 1) 0) ∧ (∀ c, fault (.setting (.meter p c)) 0 3 (p.val + 1) 0) ∧
      (∀ (n : Fin 16) c, fault (.setting (.badge n c)) 0 4 n.val 0) ∧ (∀ c, fault (.setting (.key k c)) 0 5 k.val 0) ∧
      (∀ l, fault (.setting (.limits l)) 0 6 0 0) ∧ fault (.lock (.area area)) 1 area.val 0 0 ∧
      fault (.lock (.slot k)) 1 k.val 1 0 ∧ fault .freeze 2 0 0 0 ∧ fault (.boundary i) 3 0 0 0 ∧
      fault (.holdAdd h) 4 (h.port.val + 1) 0 h.badge ∧ fault (.holdRemove p b) 5 (p.val + 1) 0 b ∧
      fault (.threshold p v) 6 (p.val + 1) 0 0 ∧ fault (.failcount (.port p) i x y) 7 (p.val + 1) 0 0 ∧
      fault (.failcount .reader i x y) 7 0 0 0 ∧ ∀ c, fault (.checkpoint c x) 8 0 0 0) ∧
  ([FillResult.pending, .filled, .short, .fault, .timeout, .incomplete, .overrun].map FillResult.byte =
    [1, 2, 3, 4, 5, 6, 7]) ∧
  (∀ v : Verdict, v.bytes = [BitVec.ofNat 8 (v.port.val + 1), v.result.byte, v.reason] ++ le 4 v.pitch.toNat) ∧
  (∀ (r : Record) (place : Nat),
    let n := BitVec.ofNat 8 r.verdicts.length
    (r.fill = none →
      r.block place = le 2 r.container.toNat ++ le 4 r.entry.toNat ++
        [BitVec.ofNat 8 place, 0, 0, 0, 0, 0, if r.crossed then 1 else 0, n] ++ r.verdicts.flatMap Verdict.bytes ∧
      r.item place = le 2 r.container.toNat ++ [BitVec.ofNat 8 place, BitVec.ofNat 8 (mark r.crossed 128), 0, n]) ∧
    ∀ x : Fill, r.fill = some x →
      r.block place = le 2 r.container.toNat ++ le 4 r.entry.toNat ++
        [BitVec.ofNat 8 place, x.result.byte, BitVec.ofNat 8 (x.port.val + 1), BitVec.ofNat 8 (x.feed.val + 1),
         BitVec.ofNat 8 x.planned, BitVec.ofNat 8 x.done, if r.crossed then 1 else 0, n] ++
        r.verdicts.flatMap Verdict.bytes ∧
      r.item place = le 2 r.container.toNat ++
        [BitVec.ofNat 8 place, BitVec.ofNat 8 (x.result.byte.toNat + mark r.crossed 128),
         BitVec.ofNat 8 (x.done + 16 * x.planned), n]) ∧
  ∀ e : ExitEntry,
    let k := e.causes
    let late := BitVec.ofNat 8 e.late.length
    let decision : Byte := match e.decision with
      | .pass => 0
      | .reject => 1
    e.bytes = e.record.block e.gateOffset ++
      [decision, BitVec.ofNat 8 (mark k.crossed 1 + mark k.noFill 2 + mark k.fillFailed 4 + mark k.unreadable 8 +
        mark k.rejected 16 + mark k.missing 32)] ++ le 4 e.pitch.toNat ++ le 6 e.hall.time.toNat ++
      [if e.hall.unset then 1 else 0, if e.escape then 1 else 0, late] ++ e.late.flatMap Verdict.bytes ∧
    e.item = le 2 e.record.container.toNat ++
      [decision, BitVec.ofNat 8 (mark e.escape 1 + mark e.unread 2), late]

/-- R187, R201: IDENTIFY and STATUS reply DONE with their content and change nothing else. STATUS counts its own entry. R50,
R201: FEED READ shows the feed and changes nothing else; a number outside 1 to 4 is refused BAD-VALUE. R101, R201: PORT READ
shows the port's entry, its holds, its failed count and limit and its service status, and changes nothing else. -/
def Obligations.PartFeedsAndPortsAreShown : Prop :=
  ((∀ (tag : Byte) (s : State), s.part.serves .identify →
     Gives (.identify tag []) s (s.part.answered .identify tag [] .done
       (identityBytes s.part.nvs.identity ++ [0xD8, 0x04, s.part.hlc.rate.byte, 8, 32]))) ∧
   ∀ (tag : Byte) (s : State), s.part.serves .status →
     Gives (.status tag []) s (s.part.answered .status tag [] .done
       [s.part.psc.state.byte, s.part.psc.cause.byte, s.part.trk.line.byte, markByte s.part.trk.geometryPending,
        BitVec.ofNat 8 (s.part.trk.exits.countP fun e => e.escape && e.unread),
        BitVec.ofNat 8 (s.part.hlc.table.length + 1), BitVec.ofNat 8 s.part.hlc.notices.length,
        BitVec.ofNat 8 s.part.hlc.mask, BitVec.ofNat 8 s.part.hlc.gap, BitVec.ofNat 8 s.part.nvs.queue.length])) ∧
  ((∀ (tag n : Byte) (s : State), s.part.serves .feedRead →
     (¬ (1 ≤ n.toNat ∧ n.toNat ≤ 4) → Gives (.feedRead tag [n]) s (s.part.answered .feedRead tag [n] .badValue [])) ∧
     ∀ f : Feed, n.toNat = f.val + 1 →
       let r := s.part.fco.feeds[f]
       Gives (.feedRead tag [n]) s (s.part.answered .feedRead tag [n] .done
         ([r.state.byte, markByte (s.part.permitOutput f), markByte r.cfg.singleDose] ++ le 2 r.cfg.takeWindow ++
           le 2 r.cfg.holdLimit ++ [markByte r.closing.isSome, BitVec.ofNat 8 r.queue.length] ++
           r.queue.flatMap (fun e => [numberByte e.port] ++ le 2 e.container.toNat ++
             [BitVec.ofNat 8 e.doses, markByte e.remnant]) ++
           match r.state.lease? with
           | none => List.replicate 14 0
           | some l => [1, numberByte l.port] ++ le 2 l.container.toNat ++
               [BitVec.ofNat 8 l.granted, BitVec.ofNat 8 l.index, BitVec.ofNat 8 l.retries, markByte l.inFlight,
                BitVec.ofNat 8 l.after, markByte l.remnant, if r.state.permits then 1 else 0] ++
               le 2 (s.part.timeLeft l.timer) ++ [l.target.byte]))) ∧
   ∀ tag n : Byte, OnlyInRun (.feedRead tag [n]) .feedRead tag) ∧
  ((∀ (tag n : Byte) (s : State), s.part.serves .portRead →
     (¬ (1 ≤ n.toNat ∧ n.toNat ≤ 12) → Gives (.portRead tag [n]) s (s.part.answered .portRead tag [n] .badValue [])) ∧
     ∀ p : Port, n.toNat = p.val + 1 →
       let r := s.part.ports[p]
       Gives (.portRead tag [n]) s (s.part.answered .portRead tag [n] .done
         ([n, r.cfg.role.byte] ++ identityBytes r.cfg.identity ++
           [BitVec.ofNat 8 r.cfg.slot.val, markByte r.cfg.wake, r.admission.byte, markByte r.parked, statusByte r.status,
            markByte r.link, BitVec.ofNat 8 r.relay.length, markByte s.part.prv.contexts[p].isSome] ++
           le 2 (match s.part.prv.contexts[p] with
             | some k => s.part.timeLeft k.timer
             | none => 0) ++
           [BitVec.ofNat 8 s.part.prv.counts[p], BitVec.ofNat 8 s.part.prv.stationLimit, s.part.mtu.service[p].byte,
            BitVec.ofNat 8 s.part.sva.holders[p].length] ++
           s.part.sva.holders[p].flatMap fun x => le 4 x.badge.toNat))) ∧
   ∀ tag n : Byte, OnlyInRun (.portRead tag [n]) .portRead tag)

/-! ### Supply, quiet state and restart -/

/-- R196, R192, the wait: a RESTART is entered and waits; while it waits a request that passes the checks is entered and goes
to no owner, and the store starts no job. R196, R192, R149, the carrying out: with no store job in flight, every other request
without a reply is replied ABORTED in table order, then the RESTART DONE; the notice queue holds RESTARTED alone; mask level
and GAP count are 0; the cause is REQUEST; uptime is 0, and every timer of the part (gate, take and hold, link, proof, bar,
idle, checkpoint, supply-low) keeps its remaining time; every block has the restart handed to it, one that still owes an
earlier one too (log entry 47); the part state stays RUN. Owed second boundaries fall with the uptime they came from (log
entry 9). R149, R196: when uptime is set to 0, a timer keeps its remaining time: the time left on it is what it was before. -/
def Obligations.RestartWaitsAndIsCarriedOut : Prop :=
  ((∀ (tag : Byte) (s : State), s.part.serves .restart → s.part.psc.state = .run →
     Gives (.restart tag []) s
       { s.part.entered .restart tag [] with psc := { s.part.psc with restart := some s.part.hlc.nextHandle } }) ∧
   (∀ tag : Byte, OnlyInRun (.restart tag []) .restart tag) ∧
   (∀ (c : Instr) (k : ReqKind) (tag : Byte) (d : List Byte) (s : State), requestOf c = some (k, tag, d) →
     lengthFits k d = true → d.length ≤ 248 → s.part.psc.state = .run → s.part.hlc.receiver = .ready →
     s.part.hlc.table.length < 8 → s.part.psc.restart.isSome = true →
     Gives c s { s.part with hlc := s.part.hlc.entered k tag d .waiting }) ∧
   ∀ s : State, s.part.psc.restart.isSome = true → s.part.psc.state = .run → Gives .storeJobStart s s.part) ∧
  ((∀ (s : State) (h : Nat) (e : Entry), s.part.hlc.sound → s.part.psc.state = .run → s.part.nvs.inFlight = none →
     s.part.psc.restart = some h → e ∈ s.part.hlc.table → e.handle = h → e.condition ≠ .replied →
     let keeps : Timer → Timer := s.part.rebased
     ∃ t, Gives .restartCarryOut s t ∧
       t.psc = { s.part.psc with
         cause := .request, restart := none, owed := ⟨true, true, true, true, true, true, true⟩,
         supplyLowTimer := keeps s.part.psc.supplyLowTimer, saveHold := keeps s.part.psc.saveHold } ∧
       t.hlc = { s.part.hlc with
         table := s.part.hlc.table.map fun x => { x with condition := .replied }
         replies := s.part.hlc.replies ++
           (s.part.hlc.table.filter fun x => x.condition != .replied && x.handle != h).map
             (fun x => ⟨some x.handle, x.kind.byte, x.tag, .aborted, []⟩) ++ [⟨some h, e.kind.byte, e.tag, .done, []⟩]
         notices := [⟨.restarted .request, s.part.mtu.hall, s.part.trk.pitch⟩]
         mask := 0
         gap := 0
         lastNotice := false } ∧
       t.mtu = { s.part.mtu with
         uptime := 0, secondsDue := 0, checkpointTimer := keeps s.part.mtu.checkpointTimer } ∧
       t.trk = { s.part.trk with gateTimer := keeps s.part.trk.gateTimer } ∧
       t.sva = { s.part.sva with sessions := s.part.sva.sessions.map fun x => { x with idle := keeps x.idle } } ∧
       (∀ p : Port, t.ports[p] = { s.part.ports[p] with linkTimer := keeps s.part.ports[p].linkTimer } ∧
         t.prv.contexts[p] = s.part.prv.contexts[p].map fun k => { k with timer := keeps k.timer }) ∧
       t.prv = { s.part.prv with
         contexts := t.prv.contexts
         readerContext := s.part.prv.readerContext.map fun k => { k with timer := keeps k.timer }
         barTimer := keeps s.part.prv.barTimer } ∧
       (∀ f : Feed, t.fco.feeds[f] = { s.part.fco.feeds[f] with state := match s.part.fco.feeds[f].state with
         | .granted l => .granted { l with timer := keeps l.timer }
         | .held l => .held { l with timer := keeps l.timer }
         | .draining l => .draining { l with timer := keeps l.timer }
         | x => x }) ∧
       t.fco = { s.part.fco with feeds := t.fco.feeds } ∧ t.nvs = s.part.nvs) ∧
   ∀ s : State, s.part.psc.restart = none ∨ s.part.psc.state ≠ .run ∨ s.part.nvs.inFlight.isSome = true →
     Gives .restartCarryOut s s.part) ∧
  (∀ (s : State) (h : Nat) (e : Time), s.part.psc.state = .run → s.part.nvs.inFlight = none → s.part.psc.restart = some h →
     s.part.timeLeft (some e) < 2 ^ 47 →
     ∃ t, Gives .restartCarryOut s t ∧ t.timeLeft (s.part.rebased (some e)) = s.part.timeLeft (some e) ∧
       t.due (s.part.rebased (some e)) = s.part.due (some e))

/-- R193: SUPWARN asserted in RUN or QUIET starts the supply-low timer for the active supply-low time, and de-asserted stops
it; in START-UP and SAVE the assertion does not start it. The ten milliseconds of a save's hold (R195, stage 5) are off while
SUPWARN is asserted and begin when it is de-asserted after the links are down: only time within stage 5 counts (log entry 18).
A level that does not change is no event (log entry 3). R195 stages 1 and 2, R26, R80: when the supply-low timer expires, the
part is in SAVE: no output is asserted, and every timer stands still, the supply-low timer and FCO's take and hold timers too;
the track is empty and every record on it is in the exit list, REJECT with CROSSED among its causes, oldest first; meter 26
has counted them; the waiting store jobs and the deferred marks are gone and the save's checkpoint is due; holds, failed
counts and the store are as before. Block restarts still owed are dropped: log entry 45. Whether a timer is due is compared
modulo 2^48: log entry 37. -/
def Obligations.SupplyWarningLeadsToSave : Prop :=
  ((∀ s : State, s.part.psc.supwarn = false →
     Gives .supwarnAssert s { s.part with psc := { s.part.psc with
       supwarn := true
       supplyLowTimer :=
         if s.part.psc.state = .run ∨ s.part.psc.state = .quiet then
           some (s.part.mtu.uptime + BitVec.ofNat 48 s.part.psc.supplyLowTime)
         else s.part.psc.supplyLowTimer
       saveHold := none } }) ∧
   (∀ s : State, s.part.psc.supwarn = true →
     Gives .supwarnDeassert s { s.part with psc := { s.part.psc with
       supwarn := false
       supplyLowTimer := none
       saveHold :=
         if s.part.psc.state = .save ∧ s.part.psc.linksDropped = true then some (s.part.mtu.uptime + 10)
         else s.part.psc.saveHold } }) ∧
   (∀ s : State, s.part.psc.supwarn = true → Gives .supwarnAssert s s.part) ∧
   ∀ s : State, s.part.psc.supwarn = false → Gives .supwarnDeassert s s.part) ∧
  ((∀ (s : State) (e : Time), (s.part.psc.state = .run ∨ s.part.psc.state = .quiet) → s.part.psc.supplyLowTimer = some e →
     (s.part.mtu.uptime - e).toNat < 2 ^ 47 →
     ∃ t, Gives .supplyLowTimerExpiry s t ∧
       t.psc = { s.part.psc with state := .save, supplyLowTimer := none, saveHold := none, restart := none, owed := Owed.none } ∧
       (∀ f : Feed, t.fco.feeds[f] = { s.part.fco.feeds[f] with state := match s.part.fco.feeds[f].state with
         | .granted l => .granted { l with timer := none }
         | .held l => .held { l with timer := none }
         | .draining l => .draining { l with timer := none }
         | x => x }) ∧
       (∀ p : Port, t.runEnable p = false ∧ t.ports[p].linkTimer = none ∧ t.prv.contexts[p] = none) ∧
       (∀ f : Feed, t.permitOutput f = false) ∧ t.gateOutput = false ∧ t.trk.gateTimer = none ∧
       t.prv.readerContext = none ∧ t.prv.barTimer = none ∧ (∀ x ∈ t.sva.sessions, x.idle = none) ∧
       t.mtu.checkpointTimer = none ∧ t.trk.track = [] ∧ t.trk.pitch = s.part.trk.pitch ∧
       (s.part.trk.exits.length ≤ 16 →
         t.trk.exits =
           let all := s.part.trk.exits ++ s.part.trk.track.map fun r =>
             { record := r, gateOffset := s.part.trk.geometry.gate, decision := .reject,
               causes := { s.part.causes r with crossed := true }, pitch := s.part.trk.pitch, hall := s.part.mtu.hall,
               late := [], escape := false, unread := true }
           all.drop (all.length - 16)) ∧
       (s.part.mtu.closed = false → s.part.mtu.meters[(26 : Meter)].full = false →
         s.part.mtu.meters[(26 : Meter)].value.toNat + s.part.trk.track.length < 2 ^ 32 →
         t.mtu.meters[(26 : Meter)].value.toNat =
           s.part.mtu.meters[(26 : Meter)].value.toNat + s.part.trk.track.length) ∧
       (∀ i : Meter, i ≠ 26 → t.mtu.meters[i] = s.part.mtu.meters[i]) ∧
       t.nvs = { s.part.nvs with queue := [], deferred := [], saveDue := true } ∧
       t.sva.holders = s.part.sva.holders ∧ t.prv.counts = s.part.prv.counts) ∧
   ∀ s : State, (s.part.psc.state ≠ .run ∧ s.part.psc.state ≠ .quiet) ∨ s.part.due s.part.psc.supplyLowTimer = false →
     Gives .supplyLowTimerExpiry s s.part)

/-- R194 with the power-on rules of the blocks (R27, R78, R103, R119, R145, R165, R180, R192): POWER_ON, and the end of a save
after ten milliseconds with SUPWARN de-asserted, begin START-UP over the store, with the causes POWER and SUPPLY-LOW and the
line rate of the strap (asserted means 921,600: log entry 4). POWER_ON acts only on a part without supply: log entry 24. R195,
R176: a loss of supply leaves the store with the job in flight either whole or absent, and nothing else of it changed; the
part is without supply until it comes up. The state without supply, the operand of POWER_LOSS and the fields held until
POWER_ON are log entry 27. Whether the ten milliseconds are over is compared modulo 2^48: log entry 37. -/
def Obligations.StoreOutlivesTheSupply : Prop :=
  ((∀ (strap : Bool) (s : State), s.part.psc.state = .off →
     ∃ t, Gives (.powerOn strap) s t ∧ t.startsFrom s.part.nvs ∧ t.psc.cause = .power ∧
       t.hlc.rate = if strap then .baud921600 else .baud460800) ∧
   (∀ (strap : Bool) (s : State) (e : Time), s.part.psc.state = .save → s.part.psc.saveHold = some e →
     (s.part.mtu.uptime - e).toNat < 2 ^ 47 →
     ∃ t, Gives (.saveHoldExpiry strap) s t ∧ t.startsFrom s.part.nvs ∧ t.psc.cause = .supplyLow ∧
       t.hlc.rate = if strap then .baud921600 else .baud460800) ∧
   (∀ (strap : Bool) (s : State), s.part.psc.state ≠ .off → Gives (.powerOn strap) s s.part) ∧
   ∀ (strap : Bool) (s : State), s.part.psc.state ≠ .save ∨ s.part.due s.part.psc.saveHold = false →
     Gives (.saveHoldExpiry strap) s s.part) ∧
  ((∀ (s : State) (j : Job), s.part.psc.state ≠ .off → s.part.nvs.inFlight = some j →
     Gives (.powerLoss true) s { s.part with
       psc := { s.part.psc with state := .off, owed := Owed.none }
       nvs := { s.part.nvs.commit j.body with
         activeBoundary := (s.part.nvs.commit j.body).boundary, queue := [], inFlight := none, deferred := [], saveDue := false } }) ∧
   (∀ (s : State) (written : Bool), s.part.psc.state ≠ .off → s.part.nvs.inFlight = none ∨ written = false →
     Gives (.powerLoss written) s { s.part with
       psc := { s.part.psc with state := .off, owed := Owed.none }
       nvs := { s.part.nvs with
         activeBoundary := s.part.nvs.boundary, queue := [], inFlight := none, deferred := [], saveDue := false } }) ∧
   ∀ (s : State) (written : Bool), s.part.psc.state = .off → Gives (.powerLoss written) s s.part)

/-- R194, R103, R119, R159, R165, R192: with SUPWARN de-asserted the part enters RUN: RESTARTED with the cause stands first
among the notices; then, in an order the model chose (log entry 11), PORT BARRED for every barred port, READER BARRED, and
SERVICE DUE or HARD LIMIT by the loaded meters; every link timer and the checkpoint timer start. R197, R105, R112: QUIET on a
stopped line, with no grant or lease, no store job and no deferred mark: every ADMITTED port receives PARK, keeps a parked
mark and is PARKED, and its claim in reservation is void; every CHALLENGED port returns to LISTENING, its context ended with
no failure counted; the request is DONE. Otherwise it is refused WRONG-STATE and nothing changes. Of a claim void already the
first mark stands: log entry 12; the order of the notices among the ports is log entry 42. R198: WAKE in QUIET returns the
part to RUN with WOKEN and its cause; in RUN it is replied DONE with no change. On an accepted QUIET each port that was
ADMITTED raises PORT STATE, after RELAY DROPPED if its relay queue held messages (R88; the ports ascending: log entry 42). -/
def Obligations.RunIsEnteredAndQuietRests : Prop :=
  ((∀ s : State, s.part.psc.state = .startUp → s.part.psc.supwarn = false → s.part.hlc.notices = [] →
     ∃ t, Gives .enterRun s t ∧ t.psc = { s.part.psc with state := .run } ∧
       t.hlc = { s.part.hlc with
         notices := s.part.runNotices.map fun b => ⟨b, s.part.mtu.hall, s.part.trk.pitch⟩ } ∧
       (∀ p : Port, t.ports[p] = { s.part.ports[p] with linkTimer := some (s.part.mtu.uptime + 50) } ∧
         t.mtu.service[p] = serviceOf s.part.mtu.cfg[p] s.part.mtu.meters[meterA p].value ∧
         (s.part.sva.draining[p] = false → t.runEnable p = s.part.sva.holders[p].isEmpty)) ∧
       t.mtu.checkpointTimer = some (s.part.mtu.uptime + BitVec.ofNat 48 (s.part.mtu.checkpointPeriod * 1000)) ∧
       t.mtu.meters = s.part.mtu.meters ∧ t.trk = s.part.trk ∧ t.fco = s.part.fco ∧ t.sva = s.part.sva ∧
       t.prv = s.part.prv ∧ t.nvs = s.part.nvs) ∧
   ∀ s : State, s.part.psc.state ≠ .startUp ∨ s.part.psc.supwarn = true → Gives .enterRun s s.part) ∧
  ((∀ (tag : Byte) (s : State), s.part.serves .quiet → s.part.trk.line = .stopped →
     (∀ f : Feed, s.part.fco.feeds[f].state.lease? = none) → s.part.nvs.queue = [] → s.part.nvs.inFlight = none →
     s.part.nvs.deferred = [] →
     ∃ t, Gives (.quiet tag []) s t ∧ t.psc = { s.part.psc with state := .quiet } ∧
       (∀ p : Port,
         let r := s.part.ports[p]
         (t.ports[p] =
           if r.admission = .admitted then
             { r with
               admission := .parked, parked := true, relay := []
               sent := if r.link then r.sent ++ [StationOut.park.bytes] else r.sent }
           else if r.admission = .challenged then { r with admission := .listening }
           else r) ∧
         (t.prv.contexts[p] = if r.admission = .challenged then none else s.part.prv.contexts[p]) ∧
         (t.fco.claims[p] = if r.admission = .admitted then
             s.part.fco.claims[p].map fun k => { k with void := k.void <|> some .silent }
           else s.part.fco.claims[p])) ∧
       t.hlc.replies = s.part.hlc.replies ++ [⟨some s.part.hlc.nextHandle, 0x05, tag, .done, []⟩] ∧
       (let raised : List NoticeBody := (List.finRange 12).flatMap fun p : Port =>
          let r := s.part.ports[p]
          if r.admission = .admitted then
            (if r.relay = [] then [] else [.relayDropped p r.relay.length]) ++ [.portState p .parked .quiet]
          else []
        t.hlc = raised.foldl (fun h b => h.enqueue ⟨b, s.part.mtu.hall, s.part.trk.pitch⟩)
          (s.part.hlc.answered .quiet tag [] .done [])) ∧
       ((∀ f : Feed, s.part.fco.feeds[f].queue = []) →
         t.fco.feeds = s.part.fco.feeds ∧ t.fco.toTrk = s.part.fco.toTrk ∧ t.fco.notes = s.part.fco.notes) ∧
       t.prv.counts = s.part.prv.counts ∧ t.prv.readerContext = s.part.prv.readerContext ∧ t.trk = s.part.trk ∧
       t.sva = s.part.sva ∧ t.mtu = s.part.mtu ∧ t.nvs = s.part.nvs) ∧
   (∀ (tag : Byte) (s : State), s.part.serves .quiet →
     s.part.trk.line ≠ .stopped ∨ (∃ f : Feed, s.part.fco.feeds[f].state.lease?.isSome = true) ∨ s.part.nvs.queue ≠ [] ∨
       s.part.nvs.inFlight.isSome = true ∨ s.part.nvs.deferred ≠ [] →
     Gives (.quiet tag []) s (s.part.answered .quiet tag [] .wrongState [])) ∧
   ∀ tag : Byte, OnlyInRun (.quiet tag []) .quiet tag) ∧
  ((∀ (tag : Byte) (s : State), s.part.serves .wake → s.part.psc.state = .quiet →
     Gives (.wake tag []) s { s.part with
       psc := { s.part.psc with state := .run }
       hlc := (s.part.hlc.answered .wake tag [] .done []).enqueue ⟨.woken .wake, s.part.mtu.hall, s.part.trk.pitch⟩ }) ∧
   ∀ (tag : Byte) (s : State), s.part.serves .wake → s.part.psc.state = .run →
     Gives (.wake tag []) s (s.part.answered .wake tag [] .done []))

/-- R24, R2, R39: TRK's restart: the track is kept with every record CROSSED and every PENDING fill FAULT; exit list, pitch
count and next number are kept; the counts are 0, the line STOPPED, the stray mark armed, GATE down; the geometry is reloaded
if the track is empty. Owed pitch events and ignored pitches fall with their counts: log entry 9. R79, R60: FCO's restart:
every feed is CLOSED with an empty queue and its settings from store; TRK is sent, feed by feed (ascending: log entry 42),
FILL END FAULT for a lease, the release for a grant, and the release of every queued entry; every claim in reservation is
void; the late notes are clear; draining has ended for the ports of DRAINING leases; no frame is sent and no notice raised.
That every void mark becomes the one that sends nothing is log entry 12. -/
def Obligations.TrackAndFeedsRestart : Prop :=
  (∀ s : State, s.part.psc.owed.trk = true →
     Gives .trkRestart s { s.part with
       psc := { s.part.psc with owed := { s.part.psc.owed with trk := false } }
       trk := { s.part.trk with
         track := s.part.trk.track.map fun r =>
           { r with
             crossed := true
             fill := r.fill.map fun f => { f with result := if f.result = .pending then .fault else f.result } }
         pulses := 0
         pitchesDue := 0
         strays := 0
         straysDue := 0
         line := .stopped
         strayArmed := true
         gate := false
         gateTimer := none
         geometry := if s.part.trk.track = [] then s.part.nvs.line else s.part.trk.geometry
         geometryPending := if s.part.trk.track = [] then false else s.part.trk.geometryPending } }) ∧
  (∀ s : State, s.part.psc.owed.fco = true →
     ∃ t, Gives .fcoRestart s t ∧ t.psc = { s.part.psc with owed := { s.part.psc.owed with fco := false } } ∧
       (∀ f : Feed, t.fco.feeds[f] = { state := .closed, cfg := s.part.nvs.feeds[f], queue := [], closing := none } ∧
         t.permitOutput f = false) ∧
       (∀ p : Port, t.fco.notes[p] = none ∧ t.fco.claims[p] = s.part.fco.claims[p].map (fun k => { k with void := some .silent }) ∧
         ((∃ (f : Feed) (l : Lease), s.part.fco.feeds[f].state = .draining l ∧ l.port = p) → t.sva.draining[p] = false)) ∧
       t.fco.toTrk = s.part.fco.toTrk ++ (List.finRange 4).flatMap (fun f : Feed =>
         (match s.part.fco.feeds[f].state with
           | .granted l => [if l.remnant then .fillEnd l.container l.port f .incomplete else .clear l.container l.port]
           | .held l => [.fillEnd l.container l.port f .fault]
           | .draining l => [.fillEnd l.container l.port f .fault]
           | _ => []) ++
         s.part.fco.feeds[f].queue.map fun e : QueueEntry =>
           if e.remnant then .fillEnd e.container e.port f .incomplete else .clear e.container e.port) ∧
       t.fco.toFco = s.part.fco.toFco ∧ t.ports = s.part.ports ∧ t.hlc.notices = s.part.hlc.notices ∧ t.trk = s.part.trk ∧
       t.mtu = s.part.mtu ∧ t.prv = s.part.prv ∧ t.nvs = s.part.nvs ∧ t.sva.holders = s.part.sva.holders)

/-- R104, R57: SPX's restart: a BARRED port keeps its state and link, every other is DARK with its link down; parked mark,
status and relay queue are cleared, contexts discarded with no failure counted, every link timer restarted, the bindings
reloaded; no frame is sent and no notice raised; FCO has been told of the ports that were ADMITTED (`portLeft`; ascending, log
entry 42): their claims in reservation are void, their queued entries removed, their grants ended, each reservation released
once. (Of a BARRED port "no frame" is said where claims, queued entries and grants are those of ADMITTED ports, which
StepKeepsClaimsSound keeps.) Of a claim void already the first mark stands: log entry 12. R119, R113, R112, R115: PRV's
restart: keys and limits are reloaded, every context ends with no failure counted, the counts are kept, and outside SAVE every
port and the reader are evaluated against the reloaded limits (`Part.evaluated`; the ports taken ascending, then the reader:
log entry 42), so that each stands barred as they say and a released port goes to DARK, PARKED or LISTENING; in SAVE barring
is not acted on. -/
def Obligations.PortsAndProofsRestart : Prop :=
  (∀ s : State, s.part.psc.owed.spx = true →
     let told : Part := { s.part with
       psc := { s.part.psc with owed := { s.part.psc.owed with spx := false } }
       prv := { s.part.prv with contexts := Vector.replicate 12 none }
       ports := Vector.ofFn fun p : Port => { s.part.ports[p] with
         cfg := s.part.nvs.ports[p]
         admission := if s.part.ports[p].admission = .barred then .barred else .dark
         parked := false
         status := none
         link := if s.part.ports[p].admission = .barred then s.part.ports[p].link else false
         linkTimer := some (s.part.mtu.uptime + 50)
         relay := [] } }
     let t := ((List.finRange 12).filter fun p : Port => s.part.ports[p].admission = .admitted).foldl
       (fun u p => portLeft p u) told
     Gives .spxRestart s t ∧ t.psc = { s.part.psc with owed := { s.part.psc.owed with spx := false } } ∧
       (∀ p : Port,
         let r := s.part.ports[p]
         t.ports[p] = {
           cfg := s.part.nvs.ports[p]
           admission := if r.admission = .barred then .barred else .dark
           parked := false
           status := none
           link := if r.admission = .barred then r.link else false
           linkTimer := some (s.part.mtu.uptime + 50)
           relay := []
           hunting := r.hunting
           sent := t.ports[p].sent } ∧
         (r.admission ≠ .barred ∨ s.part.claimsSound → t.ports[p].sent = r.sent) ∧
         (t.fco.claims[p] = if r.admission = .admitted then
             s.part.fco.claims[p].map fun k => { k with void := k.void <|> some .silent }
           else s.part.fco.claims[p])) ∧
       (s.part.claimsSound →
         (∀ f : Feed, t.fco.feeds[f] = { s.part.fco.feeds[f] with
           queue := []
           state := match s.part.fco.feeds[f].state with
             | .granted l => l.target.state
             | st => st }) ∧
         ∃ released, t.fco.toTrk = s.part.fco.toTrk ++ released ∧
           released.Perm ((List.finRange 4).flatMap fun f : Feed =>
             (match s.part.fco.feeds[f].state with
               | .granted l => [if l.remnant then .fillEnd l.container l.port f .incomplete else .clear l.container l.port]
               | _ => []) ++
             s.part.fco.feeds[f].queue.map fun e : QueueEntry =>
               if e.remnant then .fillEnd e.container e.port f .incomplete else .clear e.container e.port)) ∧
       t.prv = { s.part.prv with contexts := Vector.replicate 12 none } ∧ t.hlc = s.part.hlc ∧ t.trk = s.part.trk ∧
       t.sva = s.part.sva ∧ t.mtu = s.part.mtu ∧ t.nvs = s.part.nvs) ∧
  (∀ s : State, s.part.psc.owed.prv = true →
     let l := s.part.nvs.limits
     let loaded : Part := { s.part with
       psc := { s.part.psc with owed := { s.part.psc.owed with prv := false } }
       prv := { s.part.prv with
         keys := s.part.nvs.keys
         contexts := Vector.replicate 12 none
         readerContext := none
         stationLimit := l.stationLimit
         badgeLimit := l.badgeLimit
         barPeriod := l.barPeriod } }
     let t := if s.part.psc.state = .save then loaded else loaded.evaluated
     Gives .prvRestart s t ∧ t.psc = { s.part.psc with owed := { s.part.psc.owed with prv := false } } ∧
       t.prv.keys = s.part.nvs.keys ∧ t.prv.readerContext = none ∧ t.prv.counts = s.part.prv.counts ∧
       t.prv.readerCount = s.part.prv.readerCount ∧ t.prv.stationLimit = s.part.nvs.limits.stationLimit ∧
       t.prv.badgeLimit = s.part.nvs.limits.badgeLimit ∧ t.prv.barPeriod = s.part.nvs.limits.barPeriod ∧
       (∀ p : Port, t.prv.contexts[p] = none) ∧
       (s.part.psc.state ≠ .save →
         (∀ p : Port,
           t.ports[p].admission = .barred ↔ limitReached s.part.nvs.limits.stationLimit s.part.prv.counts[p] = true) ∧
         (t.sva.reader = .barred ↔ limitReached s.part.nvs.limits.badgeLimit s.part.prv.readerCount = true) ∧
         ∀ p : Port, s.part.ports[p].admission = .barred → limitReached l.stationLimit s.part.prv.counts[p] = false →
           t.ports[p].admission = s.part.ports[p].released) ∧
       (s.part.psc.state = .save → t.ports = s.part.ports ∧ t.sva = s.part.sva ∧ t.hlc = s.part.hlc ∧ t.fco = s.part.fco) ∧
       (s.part.sva.reader = .barred → t.sva.reader = .barred → t.prv.barTimer = s.part.prv.barTimer) ∧
       t.nvs = s.part.nvs ∧ t.mtu = s.part.mtu ∧ t.trk = s.part.trk ∧ t.sva.holders = s.part.sva.holders)

/-- R146: SVA's restart: every session ends with no notice, the last number is kept, the reader is READY or stays BARRED, the
holds are kept with their marks, and badge table and session timeout are reloaded. LOCKOUTs that have been answered wait no
longer. That LOCKOUTs not yet replied keep their place is log entry 14. R166, R159: MTU's restart: uptime is 0; hall time,
meters, FULL marks and the last completed checkpoint are kept; the METERS copy and the checkpoint period are reloaded, the
checkpoint timer starts from 0, and every port has the service status of its kept meter A. Uptime is set to 0 here a second
time, after the carrying out: log entry 32; the order of the notices among the ports is log entry 42. R179: NVS's restart:
every waiting SETTING, LOCK, FREEZE, BOUNDARY and THRESHOLD job is discarded, and every waiting HOLD-ADD, HOLD-REMOVE,
FAILCOUNT and CHECKPOINT job kept, in order; the store is as it was. The requests of the discarded jobs that have no reply yet
are answered ABORTED (log entry 14). Each place freed takes the oldest deferred mark as a job at the tail (R178; that the
discarding frees it is log entry 22, that a mark keeps its lifting mark log entry 36); the other marks stay. A block that has
no restart to take takes none: the model's reading of R196, log entry 3. -/
def Obligations.SessionsMetersAndStoreRestart : Prop :=
  (∀ s : State, s.part.psc.owed.sva = true →
     Gives .svaRestart s { s.part with
       psc := { s.part.psc with owed := { s.part.psc.owed with sva := false } }
       sva := { s.part.sva with
         sessions := []
         reader := if s.part.sva.reader = .barred then .barred else .ready
         badges := s.part.nvs.badges
         timeout := s.part.nvs.limits.sessionTimeout
         lockouts := s.part.sva.lockouts.filter fun k => (s.part.hlc.unreplied k.request).isSome }
       prv := { s.part.prv with readerContext := none } }) ∧
  (∀ s : State, s.part.psc.owed.mtu = true →
     ∃ t, Gives .mtuRestart s t ∧ t.mtu.uptime = 0 ∧ t.mtu.hall = s.part.mtu.hall ∧ t.mtu.meters = s.part.mtu.meters ∧
       t.mtu.lastCheckpoint = s.part.mtu.lastCheckpoint ∧ t.mtu.cfg = s.part.nvs.meters ∧
       t.mtu.checkpointPeriod = s.part.nvs.limits.checkpointPeriod ∧
       t.mtu.checkpointTimer = some (BitVec.ofNat 48 (s.part.nvs.limits.checkpointPeriod * 1000)) ∧
       (∀ p : Port, t.mtu.service[p] = serviceOf s.part.nvs.meters[p] s.part.mtu.meters[meterA p].value) ∧
       t.nvs = s.part.nvs ∧ t.sva.holders = s.part.sva.holders ∧ t.prv.counts = s.part.prv.counts ∧
       t.psc.owed = { s.part.psc.owed with mtu := false }) ∧
  (∀ s : State, s.part.psc.owed.nvs = true →
     let n := s.part.nvs
     let keeps : Job → Bool := fun j => match j.body with
       | .holdAdd _ => true
       | .holdRemove _ _ => true
       | .failcount _ _ _ _ => true
       | .checkpoint _ _ => true
       | _ => false
     let gone := n.queue.filter fun j => !keeps j
     let gives : List Job → List Deferred → Prop := fun queue marks =>
       Gives .nvsRestart s (Part.repliedTo { s.part with
         psc := { s.part.psc with owed := { s.part.psc.owed with nvs := false } }
         nvs := { n with queue := queue, deferred := marks } } (gone.flatMap (·.origin)) .aborted)
     (n.deferred = [] → gives (n.queue.filter keeps) []) ∧
     (n.queue.length ≤ 8 →
       let freed := min gone.length n.deferred.length
       gives (n.queue.filter keeps ++ (n.deferred.take freed).map fun d => match d with
           | .checkpoint => ⟨.checkpoint none false, []⟩
           | .failcount who lifting => ⟨.failcount who (s.part.prv.count who) lifting false, []⟩)
         (n.deferred.drop freed))) ∧
  (∀ s : State,
     (s.part.psc.owed.trk = false → Gives .trkRestart s s.part) ∧ (s.part.psc.owed.fco = false → Gives .fcoRestart s s.part) ∧
     (s.part.psc.owed.spx = false → Gives .spxRestart s s.part) ∧ (s.part.psc.owed.prv = false → Gives .prvRestart s s.part) ∧
     (s.part.psc.owed.sva = false → Gives .svaRestart s s.part) ∧ (s.part.psc.owed.mtu = false → Gives .mtuRestart s s.part) ∧
     (s.part.psc.owed.nvs = false → Gives .nvsRestart s s.part))

/-! ### The track and the gate -/

/-- R4, R2: LINE START on a stopped line: the geometry is loaded from store if the track is empty, the pulse count is 0, the
stray mark disarmed, the line RUNNING, the reply DONE; on a running line it is refused WRONG-STATE and changes nothing.
(`pitchesDue` and `straysDue` are the model's, log entry 9.) R5: LINE STOP on a running line: STOPPED, both pulse counts 0,
the stray mark armed, the reply DONE, and nothing else: no feed, claim, grant, lease or record; on a stopped line it is
refused WRONG-STATE and changes nothing. R6, R7: an edge on ENC in RUN or QUIET adds one to the pulse count of the line's
state; the edge that reaches the divider sets the count back to 0 and owes a pitch event, or on a stopped line an ignored
pitch (that it is owed, and taken as a command of its own, is the model's choice, log entry 9). An ignored pitch raises STRAY
PITCH once, while the stray mark is armed, and moves nothing. In START-UP and SAVE edges change nothing. -/
def Obligations.LineRunsAndEdgesAreCounted : Prop :=
  ((∀ (tag : Byte) (s : State), s.part.serves .lineStart → s.part.trk.line = .stopped →
     Gives (.lineStart tag []) s { s.part.answered .lineStart tag [] .done [] with
       trk := { s.part.trk with
         geometry := if s.part.trk.track = [] then s.part.nvs.line else s.part.trk.geometry
         geometryPending := if s.part.trk.track = [] then false else s.part.trk.geometryPending
         pulses := 0
         pitchesDue := 0
         straysDue := 0
         strayArmed := false
         line := .running } }) ∧
   (∀ (tag : Byte) (s : State), s.part.serves .lineStart → s.part.trk.line = .running →
     Gives (.lineStart tag []) s (s.part.answered .lineStart tag [] .wrongState [])) ∧
   ∀ tag : Byte, OnlyInRun (.lineStart tag []) .lineStart tag) ∧
  ((∀ (tag : Byte) (s : State), s.part.serves .lineStop → s.part.trk.line = .running →
     Gives (.lineStop tag []) s { s.part.answered .lineStop tag [] .done [] with
       trk := { s.part.trk with
         line := .stopped, pulses := 0, pitchesDue := 0, strays := 0, straysDue := 0, strayArmed := true } }) ∧
   (∀ (tag : Byte) (s : State), s.part.serves .lineStop → s.part.trk.line = .stopped →
     Gives (.lineStop tag []) s (s.part.answered .lineStop tag [] .wrongState [])) ∧
   ∀ tag : Byte, OnlyInRun (.lineStop tag []) .lineStop tag) ∧
  ((∀ s : State, s.part.psc.state = .run ∨ s.part.psc.state = .quiet →
     Gives .encoderPulse s { s.part with trk :=
       let full := s.part.trk.geometry.divider
       match s.part.trk.line with
       | .running =>
         if s.part.trk.pulses + 1 < full then { s.part.trk with pulses := s.part.trk.pulses + 1 }
         else { s.part.trk with pulses := 0, pitchesDue := s.part.trk.pitchesDue + 1 }
       | .stopped =>
         if s.part.trk.strays + 1 < full then { s.part.trk with strays := s.part.trk.strays + 1 }
         else { s.part.trk with strays := 0, straysDue := s.part.trk.straysDue + 1 } }) ∧
   (∀ s : State, s.part.psc.state ≠ .run → s.part.psc.state ≠ .quiet →
     Gives .encoderPulse s s.part ∧ Gives .ignoredPitch s s.part ∧ ∀ b, Gives (.pitchEvent b) s s.part) ∧
   (∀ s : State, s.part.psc.state = .run ∨ s.part.psc.state = .quiet → s.part.trk.line = .stopped → 0 < s.part.trk.straysDue →
     let t := { s.part.trk with straysDue := s.part.trk.straysDue - 1 }
     (s.part.trk.strayArmed = true → Gives .ignoredPitch s { s.part with
       trk := { t with strayArmed := false }
       hlc := s.part.hlc.enqueue ⟨.strayPitch, s.part.mtu.hall, s.part.trk.pitch⟩ }) ∧
     (s.part.trk.strayArmed = false → Gives .ignoredPitch s { s.part with trk := t })) ∧
   (∀ s : State, s.part.trk.line = .running → Gives .ignoredPitch s s.part) ∧
   (∀ (s : State) (b : Bool), s.part.trk.line = .stopped → Gives (.pitchEvent b) s s.part) ∧
   (∀ (s : State) (b : Bool), s.part.trk.line = .running → s.part.trk.pitchesDue = 0 →
     (s.part.trk.pulses + 1 < s.part.trk.geometry.divider → Gives (.pitchEvent b) s s.part) ∧
     (s.part.psc.state = .run ∨ s.part.psc.state = .quiet → s.part.trk.geometry.divider ≤ s.part.trk.pulses + 1 →
       exec (.pitchEvent b) s = exec (.pitchEvent b)
         { s with part := { s.part with trk := { s.part.trk with pulses := 0, pitchesDue := 1 } } })) ∧
   ∀ s : State, s.part.trk.line = .stopped → s.part.trk.straysDue = 0 →
     (s.part.trk.strays + 1 < s.part.trk.geometry.divider → Gives .ignoredPitch s s.part) ∧
     (s.part.psc.state = .run ∨ s.part.psc.state = .quiet → s.part.trk.geometry.divider ≤ s.part.trk.strays + 1 →
       exec .ignoredPitch s = exec .ignoredPitch
         { s with part := { s.part with trk := { s.part.trk with strays := 0, straysDue := 1 } } }))

/-- R9, R10, R11, R12, R21: a pitch event: the pitch count advances; a record that has just passed the window of its PENDING
fill is OVERRUN and WINDOW LEFT is sent; the records at the gate offset leave the track; with INFEED asserted a new record
stands at its tail with the next number, and meter 24 counts it. That a PITCH_EVENT takes a pitch event that is owed, and how
it acts on an edge of its own, is log entry 9. -/
def Obligations.PitchEventMovesTheTrack : Prop :=
  ∀ (infeed : Bool) (s : State), s.part.psc.state = .run ∨ s.part.psc.state = .quiet → s.part.trk.line = .running →
    0 < s.part.trk.pitchesDue →
    let pitch := s.part.trk.pitch + 1
    let departs : Record → Option Fill := fun r => r.fill.filter fun f => decide
      (f.result = .pending ∧ (pitch - r.entry).toNat = s.part.trk.geometry.windows[f.port].last + 1)
    ∃ t, Gives (.pitchEvent infeed) s t ∧ t.trk.pitch = pitch ∧ t.trk.pitchesDue = s.part.trk.pitchesDue - 1 ∧
      t.trk.track = ((s.part.trk.track.map fun r => match departs r with
          | some f => { r with fill := some { f with result := .overrun } }
          | none => r).filter fun r => (pitch - r.entry).toNat ≠ s.part.trk.geometry.gate) ++
        (if infeed then [⟨s.part.trk.nextContainer, pitch, none, [], false⟩] else []) ∧
      (t.trk.nextContainer =
        if infeed then (if s.part.trk.nextContainer = 65535 then 1 else s.part.trk.nextContainer + 1)
        else s.part.trk.nextContainer) ∧
      t.fco.toFco = s.part.fco.toFco ++ s.part.trk.track.filterMap (fun r => (departs r).map fun f =>
        TrkMessage.windowLeft r.container f.port f.feed) ∧
      (s.part.mtu.closed = false →
        (infeed = true → s.part.mtu.meters[(24 : Meter)].full = false →
          s.part.mtu.meters[(24 : Meter)].value.toNat < 2 ^ 32 - 1 →
          t.mtu.meters[(24 : Meter)].value = s.part.mtu.meters[(24 : Meter)].value + 1) ∧
        (infeed = false → t.mtu.meters[(24 : Meter)] = s.part.mtu.meters[(24 : Meter)])) ∧
      (∀ i : Meter, i.val < 24 → t.mtu.meters[i] = s.part.mtu.meters[i]) ∧
      t.trk.geometry = s.part.trk.geometry ∧ t.trk.line = .running ∧ t.ports = s.part.ports ∧ t.fco.feeds = s.part.fco.feeds ∧
      t.fco.toTrk = s.part.fco.toTrk ∧ t.sva = s.part.sva ∧ t.nvs = s.part.nvs ∧ t.prv = s.part.prv

/-- R23, R28, R29, R36, R37, R38, R40: the record that a pitch event brings to the gate offset is decided REJECT exactly when
a cause is present, is entered with its decision at the tail of the exit list (of more than sixteen the oldest is removed), is
counted in meter 25 or 26, and drives GATE: REJECT asserts it and starts its timer anew, PASS ends a pulse. With no record at
the gate, exit list and GATE stay. R38: when the gate timer has run out GATE is de-asserted and the timer stopped; an expiry
before its time is no event (log entry 3). Whether it has run out is compared modulo 2^48: log entry 37. -/
def Obligations.RecordAtTheGateIsDecided : Prop :=
  ((∀ (infeed : Bool) (s : State) (before after : List Record) (r : Record),
     s.part.psc.state = .run ∨ s.part.psc.state = .quiet → s.part.trk.line = .running → 0 < s.part.trk.pitchesDue →
     let pitch := s.part.trk.pitch + 1
     let g := s.part.trk.geometry
     s.part.trk.track = before ++ r :: after → (pitch - r.entry).toNat = g.gate →
     (∀ x ∈ before ++ after, (pitch - x.entry).toNat ≠ g.gate) →
     let d : Record := { r with fill := r.fill.map fun f =>
       if f.result = .pending ∧ g.windows[f.port].last + 1 = g.gate then { f with result := .overrun } else f }
     let missing := ∃ p : Port, 1 ≤ g.cameras[p].offset ∧ g.cameras[p].offset < g.gate ∧ g.cameras[p].required = true ∧
       (∀ v ∈ d.verdicts, v.port ≠ p) ∧ ¬ (s.part.sva.holders[p] ≠ [] ∧ g.cameras[p].bypass = true)
     let failed := ∃ f, d.fill = some f ∧ f.result ≠ .filled
     let unreadable := ∃ v ∈ d.verdicts, v.result = .unreadable
     let judgedBad := ∃ v ∈ d.verdicts, v.result = .reject
     let rejected := d.crossed = true ∨ d.fill = none ∨ failed ∨ unreadable ∨ judgedBad ∨ missing
     ∃ t e, Gives (.pitchEvent infeed) s t ∧
       t.trk.exits = (s.part.trk.exits ++ [e]).drop (s.part.trk.exits.length + 1 - 16) ∧
       e.record = d ∧ e.gateOffset = g.gate ∧ e.pitch = pitch ∧ e.hall = s.part.mtu.hall ∧ e.late = [] ∧ e.escape = false ∧
       e.unread = true ∧ (e.causes.crossed = true ↔ d.crossed = true) ∧ (e.causes.noFill = true ↔ d.fill = none) ∧
       (e.causes.fillFailed = true ↔ failed) ∧ (e.causes.unreadable = true ↔ unreadable) ∧
       (e.causes.rejected = true ↔ judgedBad) ∧ (e.causes.missing = true ↔ missing) ∧
       (rejected → e.decision = .reject ∧ t.trk.gate = true ∧ t.trk.gateTimer = some (s.part.mtu.uptime + 15)) ∧
       (¬ rejected → e.decision = .pass ∧ t.trk.gate = false ∧ t.trk.gateTimer = none) ∧
       (s.part.mtu.closed = false → ∀ m : Meter, (m = 26 ∧ rejected ∨ m = 25 ∧ ¬ rejected) →
         s.part.mtu.meters[m].full = false → s.part.mtu.meters[m].value.toNat < 2 ^ 32 - 1 →
         t.mtu.meters[m].value = s.part.mtu.meters[m].value + 1) ∧
       (∀ m : Meter, (m = 26 ∧ ¬ rejected ∨ m = 25 ∧ rejected) → t.mtu.meters[m] = s.part.mtu.meters[m])) ∧
   ∀ (infeed : Bool) (s : State), s.part.psc.state = .run ∨ s.part.psc.state = .quiet → s.part.trk.line = .running →
     0 < s.part.trk.pitchesDue →
     (∀ x ∈ s.part.trk.track, (s.part.trk.pitch + 1 - x.entry).toNat ≠ s.part.trk.geometry.gate) →
     ∃ t, Gives (.pitchEvent infeed) s t ∧ t.trk.exits = s.part.trk.exits ∧ t.trk.gate = s.part.trk.gate ∧
       t.trk.gateTimer = s.part.trk.gateTimer ∧ t.mtu.meters[(25 : Meter)] = s.part.mtu.meters[(25 : Meter)] ∧
       t.mtu.meters[(26 : Meter)] = s.part.mtu.meters[(26 : Meter)]) ∧
  ((∀ (s : State) (e : Time), s.part.trk.gateTimer = some e → (s.part.mtu.uptime - e).toNat < 2 ^ 47 →
     Gives .gateTimerExpiry s { s.part with trk := { s.part.trk with gate := false, gateTimer := none } }) ∧
   ∀ s : State, s.part.due s.part.trk.gateTimer = false → Gives .gateTimerExpiry s s.part)

/-- R15, R20: RESERVE: TRK answers NO-CONTAINER, OUT-OF-WINDOW or TAKEN and changes no record, or it sets the fill, PENDING
with no dose done, and answers ACCEPTED. R17, R18, R19, R20, R22: CLEAR, DOSE DONE and FILL END: each changes the fill of the
container named, if it is on the track and the fill is one the rule names, and nothing else. R60, log entry 3: TRK takes the
requests FCO has sent, in the order sent: one that is not the oldest under way is no event. FCO takes only what TRK has sent. -/
def Obligations.FillRequestsReachTheTrack : Prop :=
  (∀ (c : Half) (p : Port) (f : Feed) (doses : Nat) (rest : List FillRequest) (s : State), s.part.hostReceives = true →
     s.part.fco.toTrk = .reserve c p f doses :: rest →
     let w := s.part.trk.geometry.windows[p]
     let taken : ReserveAnswer → Part := fun a =>
       { s.part with fco := { s.part.fco with toTrk := rest, toFco := s.part.fco.toFco ++ [.answer p a] } }
     ((∀ r ∈ s.part.trk.track, r.container ≠ c) → Gives (.reserve c p f doses) s (taken .noContainer)) ∧
     ∀ r : Record, s.part.trk.track.find? (·.container == c) = some r →
       let pos := (s.part.trk.pitch - r.entry).toNat
       let inside := 1 ≤ w.first ∧ w.first ≤ pos ∧ pos ≤ w.last
       (¬ inside → Gives (.reserve c p f doses) s (taken .outOfWindow)) ∧
       (inside → r.fill ≠ none → Gives (.reserve c p f doses) s (taken .taken)) ∧
       (inside → r.fill = none → Gives (.reserve c p f doses) s { taken .accepted with
         trk := { s.part.trk with track := s.part.trk.track.map fun x =>
           if x.container = c then { x with fill := some ⟨p, f, doses, 0, .pending⟩ } else x } })) ∧
  (∀ (c : Half) (p : Port) (f : Feed) (rest : List FillRequest) (s : State), s.part.hostReceives = true →
     let changed : (Record → Record) → Part := fun g => { s.part with
       fco := { s.part.fco with toTrk := rest }
       trk := { s.part.trk with track := s.part.trk.track.map fun r => if r.container = c then g r else r } }
     (s.part.fco.toTrk = .clear c p :: rest → Gives (.clear c p) s (changed fun r => { r with
       fill := r.fill.filter fun x => !decide (x.port = p ∧ x.result = .pending ∧ x.done = 0) })) ∧
     (s.part.fco.toTrk = .doseDone c p f :: rest → Gives (.doseDone c p f) s (changed fun r => { r with
       fill := r.fill.map fun x =>
         if x.port = p ∧ x.feed = f ∧ x.done < x.planned then
           { x with
             done := x.done + 1
             result := if x.result = .pending ∧ x.done + 1 = x.planned then .filled else x.result }
         else x })) ∧
     ∀ e : EndResult, s.part.fco.toTrk = .fillEnd c p f e :: rest → Gives (.fillEnd c p f e) s (changed fun r => { r with
       fill := r.fill.map fun x =>
         if x.port = p ∧ x.feed = f ∧ x.result = .pending then
           { x with result := match e with
             | .short => .short
             | .fault => .fault
             | .timeout => .timeout
             | .incomplete => .incomplete }
         else x })) ∧
  ((∀ (c : Half) (p : Port) (f : Feed) (n : Nat) (e : EndResult) (s : State),
     (s.part.fco.toTrk.head? ≠ some (.reserve c p f n) → Gives (.reserve c p f n) s s.part) ∧
     (s.part.fco.toTrk.head? ≠ some (.clear c p) → Gives (.clear c p) s s.part) ∧
     (s.part.fco.toTrk.head? ≠ some (.doseDone c p f) → Gives (.doseDone c p f) s s.part) ∧
     (s.part.fco.toTrk.head? ≠ some (.fillEnd c p f e) → Gives (.fillEnd c p f e) s s.part)) ∧
   ∀ (c : Half) (p : Port) (f : Feed) (a : ReserveAnswer) (s : State),
     (TrkMessage.answer p a ∉ s.part.fco.toFco → Gives (.reserveAnswer p a) s s.part) ∧
     (TrkMessage.windowLeft c p f ∉ s.part.fco.toFco → Gives (.windowLeft c p f) s s.part))

/-- R30 to R35: a VERDICT from an ADMITTED port: refused WRONG-ROLE, OUT-OF-WINDOW or UNKNOWN; on the track refused EARLY or
DUPLICATE, or stored at the tail of the record's list and counted in the port's meter A; in the exit list refused DUPLICATE,
or added late. -/
def Obligations.VerdictIsTaken : Prop :=
  ∀ (p : Port) (c : Half) (result reason : Byte) (s : State), s.part.hears p → s.part.ports[p].admission = .admitted →
    let q := s.part.heardAt p
    let g := s.part.trk.geometry
    let refused : Reason → Prop := fun why => Gives (.verdict p c result reason) s (refuse p why 0x0A q)
    let v : Verdict := ⟨p, if result = 0 then .pass else if result = 1 then .reject else .unreadable, reason, s.part.trk.pitch⟩
    let placed := 1 ≤ g.cameras[p].offset ∧ g.cameras[p].offset < g.gate
    (s.part.ports[p].cfg.role ≠ .camera → refused .wrongRole) ∧
    (s.part.ports[p].cfg.role = .camera → ¬ placed → refused .outOfWindow) ∧
    (s.part.ports[p].cfg.role = .camera → placed →
      c = 0 ∨ ((∀ r ∈ s.part.trk.track, r.container ≠ c) ∧ ∀ e ∈ s.part.trk.exits, e.record.container ≠ c) →
      refused .unknown) ∧
    (∀ r : Record, s.part.ports[p].cfg.role = .camera → placed → c ≠ 0 →
      s.part.trk.track.find? (·.container == c) = some r →
      let pos := (s.part.trk.pitch - r.entry).toNat
      (pos < g.cameras[p].offset → refused .early) ∧
      (g.cameras[p].offset ≤ pos → (∃ x ∈ r.verdicts, x.port = p) → refused .duplicate) ∧
      (g.cameras[p].offset ≤ pos → (∀ x ∈ r.verdicts, x.port ≠ p) →
        Gives (.verdict p c result reason) s (meterInc (meterA p) { q with trk := { s.part.trk with
          track := s.part.trk.track.map fun x =>
            if x.container = c then { x with verdicts := x.verdicts ++ [v] } else x } }))) ∧
    ∀ e : ExitEntry, s.part.ports[p].cfg.role = .camera → placed → c ≠ 0 → (∀ r ∈ s.part.trk.track, r.container ≠ c) →
      s.part.trk.exits.find? (·.record.container == c) = some e →
      ((∃ x ∈ e.record.verdicts ++ e.late, x.port = p) → refused .duplicate) ∧
      ((∀ x ∈ e.record.verdicts ++ e.late, x.port ≠ p) →
        let escapes := v.result ≠ .pass ∧ e.decision = .pass ∧ e.escape = false
        let late := raise (.lateVerdict c p v.result reason) (refuse p .late 0x0A { q with trk := { s.part.trk with
          exits := s.part.trk.exits.map fun x =>
            if x.record.container = c then
              { x with
                late := x.late ++ [v]
                unread := true
                escape := x.escape || decide (v.result ≠ .pass ∧ x.decision = .pass ∧ x.escape = false) }
            else x } })
        (escapes → Gives (.verdict p c result reason) s (raise (.escape c p v.result) (meterInc 27 late))) ∧
        (¬ escapes → Gives (.verdict p c result reason) s late))

/-- R43, R200: TRACK READ: LIST from an index, with up to forty items, oldest first; RECORD; refusals; nothing else changes.
R44, R41, R200: EXIT READ: SUMMARY leaves every mark; a whole entry, by index, by container or as the oldest escape pending,
is a full read and clears the entry's unread mark; refusals change nothing. -/
def Obligations.TrackAndExitsAreShown : Prop :=
  ((∀ (tag lo hi : Byte) (s : State), s.part.serves .trackRead →
     let i := lo.toNat + 256 * hi.toNat
     let items := (s.part.trk.track.drop i).take 40
     (i ≤ 89 → Gives (.trackReadList tag [0, lo, hi]) s (s.part.answered .trackRead tag [0, lo, hi] .done
       (BitVec.ofNat 8 s.part.trk.track.length :: le 4 s.part.trk.pitch.toNat ++
         [BitVec.ofNat 8 s.part.trk.geometry.gate, BitVec.ofNat 8 items.length] ++
         items.flatMap fun r => r.item (s.part.trk.pitch - r.entry).toNat))) ∧
     (89 < i → Gives (.trackReadList tag [0, lo, hi]) s (s.part.answered .trackRead tag [0, lo, hi] .badValue []))) ∧
   (∀ (tag lo hi : Byte) (s : State), s.part.serves .trackRead →
     let c : Half := hi ++ lo
     (∀ r : Record, c ≠ 0 → s.part.trk.track.find? (·.container == c) = some r →
       Gives (.trackReadRecord tag [1, lo, hi]) s (s.part.answered .trackRead tag [1, lo, hi] .done
         (le 4 s.part.trk.pitch.toNat ++ r.block (s.part.trk.pitch - r.entry).toNat))) ∧
     (c = 0 ∨ (∀ r ∈ s.part.trk.track, r.container ≠ c) →
       Gives (.trackReadRecord tag [1, lo, hi]) s (s.part.answered .trackRead tag [1, lo, hi] .notFound []))) ∧
   ∀ (tag x lo hi : Byte) (s : State), s.part.serves .trackRead → 1 < x.toNat →
     Gives (.trackReadList tag [x, lo, hi]) s (s.part.answered .trackRead tag [x, lo, hi] .badValue [])) ∧
  (∀ (tag lo hi : Byte) (s : State), s.part.serves .exitRead →
     let exits := s.part.trk.exits
     let n := lo.toNat + 256 * hi.toNat
     let c : Half := hi ++ lo
     let refused : Byte → Code → Part := fun sel code => s.part.answered .exitRead tag [sel, lo, hi] code []
     let read : Byte → ExitEntry → Part := fun sel e => { s.part.answered .exitRead tag [sel, lo, hi] .done e.bytes with
       trk := { s.part.trk with exits := exits.map fun x =>
         if x.record.container = e.record.container then { x with unread := false } else x } }
     Gives (.exitReadSummary tag [0, lo, hi]) s (s.part.answered .exitRead tag [0, lo, hi] .done
       ([BitVec.ofNat 8 exits.length, BitVec.ofNat 8 (exits.countP fun e => e.escape && e.unread)] ++
         exits.flatMap (·.item))) ∧
     (15 < n → Gives (.exitReadIndex tag [1, lo, hi]) s (refused 1 .badValue)) ∧
     (n ≤ 15 → exits.length ≤ n → Gives (.exitReadIndex tag [1, lo, hi]) s (refused 1 .notFound)) ∧
     (∀ e, n ≤ 15 → exits[n]? = some e → Gives (.exitReadIndex tag [1, lo, hi]) s (read 1 e)) ∧
     (c = 0 ∨ (∀ e ∈ exits, e.record.container ≠ c) → Gives (.exitReadContainer tag [2, lo, hi]) s (refused 2 .notFound)) ∧
     (∀ e, c ≠ 0 → exits.find? (·.record.container == c) = some e →
       Gives (.exitReadContainer tag [2, lo, hi]) s (read 2 e)) ∧
     ((∀ e ∈ exits, ¬ (e.escape = true ∧ e.unread = true)) →
       Gives (.exitReadNextEscape tag [3, lo, hi]) s (refused 3 .notFound)) ∧
     (∀ e, exits.find? (fun e => e.escape && e.unread) = some e → Gives (.exitReadNextEscape tag [3, lo, hi]) s (read 3 e)) ∧
     ∀ x : Byte, 3 < x.toNat → Gives (.exitReadSummary tag [x, lo, hi]) s (refused x .badValue))

/-! ### The product feeds

The part's shared operations are named in the statements, and what each does is stated of it: `arbitrate` and `finishLease`
(`ArbiterServesTheHead`), `meterInc` and `evalService` (`IncrementsAreApplied`), `raise` (`FullQueueDisplacesTheLowest`), `sendStation` and
`refuse` (`OutputsFollowTheState`), `robotUnready` (`StationsReportAndRelay`), `leaveAdmitted` and `portLeft` (`UnexpectedFramesFallBack`), `countFailure` and
`setCount` (`FailuresAreCountedAndBar`, `ReaderProofOpensASession`). `modPort`, `modFeed`, `setFeed`, `setQueue`, `setNote` and `askTrk` change
the one field they name. -/

/-- R58, R59, R60: the arbiter of a FREE feed takes the head of the queue: an entry whose container has left the window is
removed with WITHDRAW, one whose robot is at LIMIT with REFUSE SERVICE-DUE, the reservation released, and the arbiter goes on;
the first other entry is granted: GRANT is sent, the late note cleared, the take timer runs. A feed that is not FREE, or has
no entry, is left. The REFUSE of an entry removed names the kind CLAIM: log entry 39. R69 step 3, R75, R76, R135, R136: the
end of a lease: the feed is in the end target; with the end of a drain the draining mark of the port is clear, and the
LOCKOUTs that waited for the run enable output, their holds recorded, are DONE; a pending FEED CLOSE of a feed that is now
CLOSED is DONE. The LOCKOUTs are replied before the pending FEED CLOSE: log entry 30. -/
def Obligations.ArbiterServesTheHead : Prop :=
  (∀ (f : Feed) (s : Part),
     (s.fco.feeds[f].state ≠ .free → arbitrate f s = s) ∧
     (s.fco.feeds[f].queue = [] → arbitrate f s = s) ∧
     ∀ (e : QueueEntry) (rest : List QueueEntry), s.fco.feeds[f].state = .free → s.fco.feeds[f].queue = e :: rest →
       let release : FillRequest :=
         if e.remnant then .fillEnd e.container e.port f .incomplete else .clear e.container e.port
       let inside := ∃ r, s.trk.track.find? (·.container == e.container) = some r ∧
         1 ≤ s.trk.geometry.windows[e.port].first ∧ s.trk.geometry.windows[e.port].first ≤ (s.trk.pitch - r.entry).toNat ∧
         (s.trk.pitch - r.entry).toNat ≤ s.trk.geometry.windows[e.port].last
       let c := s.fco.feeds[f].cfg
       let doses := if c.singleDose then 1 else e.doses
       (¬ inside → arbitrate f s =
         arbitrate f (sendStation e.port (.withdrawClaim e.container) (askTrk release (setQueue f rest s)))) ∧
       (inside → s.mtu.service[e.port] = .limit → arbitrate f s =
         arbitrate f (refuse e.port .serviceDue 0x05 (askTrk release (setQueue f rest s)))) ∧
       (inside → s.mtu.service[e.port] ≠ .limit → arbitrate f s =
         sendStation e.port (.grant f e.container doses) (setNote e.port none (modFeed f (fun r => { r with
           queue := rest
           state := .granted {
             port := e.port
             container := e.container
             granted := doses
             index := 1
             retries := 0
             inFlight := false
             after := e.doses - doses
             remnant := e.remnant
             timer := some (s.mtu.uptime + BitVec.ofNat 48 c.takeWindow)
             target := .free } }) s)))) ∧
  (∀ (f : Feed) (l : Lease) (drained : Bool) (s : Part),
     let t := finishLease f l drained s
     let settled : Lockout → Bool := fun k =>
       k.port == l.port && s.sva.holders[l.port].any fun x => x.badge == k.badge && x.recorded
     let h := if drained then (s.sva.lockouts.filter settled).foldl (fun h k => h.reply k.request .done []) s.hlc else s.hlc
     t.fco.feeds[f].state = (match l.target with
       | .free => .free
       | .closed => .closed) ∧
     t.fco.feeds[f].queue = s.fco.feeds[f].queue ∧ (∀ g : Feed, g ≠ f → t.fco.feeds[g] = s.fco.feeds[g]) ∧
     (l.target = .closed → t.fco.feeds[f].closing = none) ∧
     (t.sva = if drained then
         { s.sva with
           draining := s.sva.draining.set l.port false, lockouts := s.sva.lockouts.filter fun k => !settled k }
       else s.sva) ∧
     (t.hlc = match s.fco.feeds[f].closing with
       | some r => if l.target = .closed then h.reply r .done [] else h
       | none => h) ∧
     t.trk = s.trk ∧ t.ports = s.ports ∧ t.mtu = s.mtu ∧ t.prv = s.prv ∧ t.nvs = s.nvs ∧ t.psc = s.psc ∧
     t.fco.toTrk = s.fco.toTrk ∧ t.fco.claims = s.fco.claims ∧ t.fco.notes = s.fco.notes)

/-- R53, R54: a CLAIM from an ADMITTED port: the first check that fails gives its refusal and nothing else changes; when all
pass, TRK is sent RESERVE and the claim is in reservation. R54: TRK's answer for a claim in reservation: ACCEPTED puts the
claim at the tail of the queue, and the arbiter acts; on a void claim it is undone by CLEAR, with the REFUSE of the void mark;
a refusal is passed to the robot, on a void claim only where the mark sends a REFUSE. The REFUSE then sent names the kind
CLAIM (log entry 39), and any answer under way is taken (log entry 23). -/
def Obligations.ClaimIsReserved : Prop :=
  (∀ (p : Port) (feed : Byte) (c : Half) (doses : Byte) (s : State), s.part.hears p → s.part.ports[p].admission = .admitted →
     let q := s.part.heardAt p
     let r := s.part.ports[p]
     let k := s.part.fco
     let refused : Reason → Prop := fun why => Gives (.claim p feed c doses) s (refuse p why 0x05 q)
     let robot := r.cfg.role = .robot
     let ready := r.status = some .ready ∨ r.status = some .busy
     let busy := (∃ f : Feed, ∃ l, k.feeds[f].state.lease? = some l ∧ l.port = p) ∨
       (∃ f : Feed, ∃ e ∈ k.feeds[f].queue, e.port = p) ∨ k.claims[p] ≠ none
     let shut : Feed → Prop := fun f =>
       k.feeds[f].state = .closed ∨ ∃ l, k.feeds[f].state = .draining l ∧ l.target = .closed
     (¬ robot → refused .wrongRole) ∧
     (robot → ¬ ready → refused .notReady) ∧
     (robot → ready → busy → refused .claimOpen) ∧
     (robot → ready → ¬ busy → ¬ (1 ≤ feed.toNat ∧ feed.toNat ≤ 4) → refused .feedClosed) ∧
     ∀ f : Feed, robot → ready → ¬ busy → feed.toNat = f.val + 1 →
       (shut f → refused .feedClosed) ∧
       (¬ shut f → ¬ (1 ≤ doses.toNat ∧ doses.toNat ≤ 3) → refused .sequence) ∧
       (¬ shut f → 1 ≤ doses.toNat → doses.toNat ≤ 3 → s.part.mtu.service[p] = .limit → refused .serviceDue) ∧
       (¬ shut f → 1 ≤ doses.toNat → doses.toNat ≤ 3 → s.part.mtu.service[p] ≠ .limit → 8 ≤ k.load f → refused .notReady) ∧
       (¬ shut f → 1 ≤ doses.toNat → doses.toNat ≤ 3 → s.part.mtu.service[p] ≠ .limit → k.load f < 8 →
         Gives (.claim p feed c doses) s { q with fco := { k with
           claims := k.claims.set p (some ⟨f, c, doses.toNat, none⟩)
           toTrk := k.toTrk ++ [.reserve c p f doses.toNat] } })) ∧
  (∀ (p : Port) (a : ReserveAnswer) (k : Claim) (s : State), s.part.psc.state = .run ∨ s.part.psc.state = .quiet →
     TrkMessage.answer p a ∈ s.part.fco.toFco → s.part.fco.claims[p] = some k →
     let q : Part := { s.part with fco := { s.part.fco with
       toFco := s.part.fco.toFco.erase (.answer p a), claims := s.part.fco.claims.set p none } }
     let gives := Gives (.reserveAnswer p a) s
     (a = .accepted → k.void = none → gives (arbitrate k.feed
       (setQueue k.feed (s.part.fco.feeds[k.feed].queue ++ [⟨p, k.container, k.doses, false⟩]) q))) ∧
     (a = .accepted → k.void = some .silent → gives (askTrk (.clear k.container p) q)) ∧
     (a = .accepted → k.void = some .notReady → gives (refuse p .notReady 0x05 (askTrk (.clear k.container p) q))) ∧
     (a = .accepted → k.void = some .feedClosed → gives (refuse p .feedClosed 0x05 (askTrk (.clear k.container p) q))) ∧
     ∀ why : Reason, (a = .noContainer ∧ why = .noContainer ∨ a = .outOfWindow ∧ why = .outOfWindow ∨ a = .taken ∧ why = .taken) →
       (k.void ≠ some .silent → gives (refuse p why 0x05 q)) ∧ (k.void = some .silent → gives q))

/-- R55: CANCEL removes what the robot holds short of a lease, with the release of R60 and no answer; with a lease or nothing
it is refused SEQUENCE; a port that is no robot's is refused WRONG-ROLE. (A robot holds at most one of these, R52.) Of a claim
void already the first mark stands: log entry 12. R61: TAKE of the feed granted to the robot makes it HELD under the hold
timer; against a TAKE note for the feed it is refused LATE and the note cleared; in every other case SEQUENCE; a port that is
no robot's is refused WRONG-ROLE. R62, R63: the take timer expires: LAPSE is sent, the reservation released, the TAKE note
set, the feed in the end target, and the arbiter acts. Without a grant, or before its time, there is no expiry (log entry 3). -/
def Obligations.GrantIsTakenOrLapses : Prop :=
  (∀ (p : Port) (s : State), s.part.hears p → s.part.ports[p].admission = .admitted →
     let q := s.part.heardAt p
     let k := s.part.fco
     let robot := s.part.ports[p].cfg.role = .robot
     let gives := Gives (.cancel p) s
     (¬ robot → gives (refuse p .wrongRole 0x06 q)) ∧
     (∀ (f : Feed) (before after : List QueueEntry) (e : QueueEntry), robot → k.feeds[f].queue = before ++ e :: after →
       e.port = p → (∀ x ∈ before ++ after, x.port ≠ p) → (∀ g : Feed, g ≠ f → ∀ x ∈ k.feeds[g].queue, x.port ≠ p) →
       gives (askTrk (if e.remnant then .fillEnd e.container p f .incomplete else .clear e.container p)
         (setQueue f (before ++ after) q))) ∧
     (∀ c : Claim, robot → (∀ f : Feed, ∀ x ∈ k.feeds[f].queue, x.port ≠ p) → k.claims[p] = some c →
       gives { q with fco := { k with claims := k.claims.set p (some { c with void := c.void <|> some .silent }) } }) ∧
     (robot → (∀ f : Feed, ∀ x ∈ k.feeds[f].queue, x.port ≠ p) → k.claims[p] = none →
       (∀ (f : Feed) (l : Lease), k.feedServing p = some f → k.feeds[f].state = .granted l →
         gives (arbitrate f (askTrk
           (if l.remnant then .fillEnd l.container l.port f .incomplete else .clear l.container l.port)
           (setFeed f l.target.state q)))) ∧
       (∀ (f : Feed) (l : Lease), k.feedServing p = some f → k.feeds[f].state = .held l ∨ k.feeds[f].state = .draining l →
         gives (refuse p .sequence 0x06 q)) ∧
       (k.feedServing p = none → gives (refuse p .sequence 0x06 q)))) ∧
  (∀ (p : Port) (feed : Byte) (s : State), s.part.hears p → s.part.ports[p].admission = .admitted →
     let q := s.part.heardAt p
     let robot := s.part.ports[p].cfg.role = .robot
     let gives := Gives (.take p feed) s
     (¬ robot → gives (refuse p .wrongRole 0x07 q)) ∧
     (robot → ¬ (1 ≤ feed.toNat ∧ feed.toNat ≤ 4) → gives (refuse p .sequence 0x07 q)) ∧
     ∀ f : Feed, robot → feed.toNat = f.val + 1 →
       let mine := ∃ l, s.part.fco.feeds[f].state = .granted l ∧ l.port = p
       (∀ l, s.part.fco.feeds[f].state = .granted l → l.port = p →
         gives (setFeed f (.held { l with
           timer := some (s.part.mtu.uptime + BitVec.ofNat 48 s.part.fco.feeds[f].cfg.holdLimit) }) q)) ∧
       (¬ mine → s.part.fco.notes[p] = some (.take f) → gives (refuse p .late 0x07 (setNote p none q))) ∧
       (¬ mine → s.part.fco.notes[p] ≠ some (.take f) → gives (refuse p .sequence 0x07 q))) ∧
  ((∀ (f : Feed) (l : Lease) (s : State), s.part.psc.state = .run ∨ s.part.psc.state = .quiet →
     s.part.fco.feeds[f].state = .granted l → s.part.due l.timer = true →
     Gives (.takeTimerExpiry f) s (arbitrate f (setNote l.port (some (.take f))
       (askTrk (if l.remnant then .fillEnd l.container l.port f .incomplete else .clear l.container l.port)
         (setFeed f l.target.state (sendStation l.port (.lapse f) s.part)))))) ∧
   ∀ (f : Feed) (s : State), (∀ l, s.part.fco.feeds[f].state = .granted l → s.part.due l.timer = false) →
     Gives (.takeTimerExpiry f) s s.part)

/-- R64: DOSE START on the HELD lease it names, its container in the window: a dose is in flight and the hold timer starts
anew; with the container outside the window it is refused OUT-OF-WINDOW and the lease cut with WITHDRAW and FILL END
INCOMPLETE; else SEQUENCE, and WRONG-ROLE for a port that is no robot's. R65 to R68, R70: a DOSE END on a HELD lease with the
dose in flight: it counts in the robot's meter A; OK sends DOSE DONE and goes on to the next dose, or ends the lease, a
single-dose chain leaving its remnant at the head of the queue; RETRY uses a retry, the third is FAULT; SHORT and FAULT end
the chain with FILL END. (The end target of a HELD lease is FREE: a FEED CLOSE has cut it, R76.) -/
def Obligations.DosesRunOnAHeldLease : Prop :=
  (∀ (p : Port) (c : Half) (i : Byte) (s : State), s.part.hears p → s.part.ports[p].admission = .admitted →
     let q := s.part.heardAt p
     let k := s.part.fco
     let robot := s.part.ports[p].cfg.role = .robot
     let gives := Gives (.doseStart p c i) s
     (¬ robot → gives (refuse p .wrongRole 0x08 q)) ∧
     (robot → (∀ (f : Feed) (l : Lease), k.feedServing p = some f → k.feeds[f].state = .held l →
         l.inFlight = true ∨ l.container ≠ c ∨ l.index ≠ i.toNat) → gives (refuse p .sequence 0x08 q)) ∧
     ∀ (f : Feed) (l : Lease), robot → k.feedServing p = some f → k.feeds[f].state = .held l → l.inFlight = false →
       l.container = c → l.index = i.toNat →
       (s.part.trk.inWindow p c = true → gives (setFeed f (.held { l with
         inFlight := true
         timer := some (s.part.mtu.uptime + BitVec.ofNat 48 k.feeds[f].cfg.holdLimit) }) q)) ∧
       (s.part.trk.inWindow p c = false → gives (arbitrate f (finishLease f l false
         (askTrk (.fillEnd l.container l.port f .incomplete)
           (sendStation l.port (.withdrawFeed f) (refuse p .outOfWindow 0x08 q))))))) ∧
  (∀ (p : Port) (result : Byte) (f : Feed) (l : Lease) (s : State), s.part.hears p → s.part.ports[p].admission = .admitted →
     s.part.ports[p].cfg.role = .robot → s.part.fco.feedServing p = some f → s.part.fco.feeds[f].state = .held l →
     l.inFlight = true → l.index < 256 → l.target = .free →
     let q := meterInc (meterA p) (s.part.heardAt p)
     let timer : Timer := some (s.part.mtu.uptime + BitVec.ofNat 48 s.part.fco.feeds[f].cfg.holdLimit)
     let gives := Gives (.doseEnd p l.container (BitVec.ofNat 8 l.index) result) s
     let ends : EndResult → Part := fun e => arbitrate f (setFeed f .free (askTrk (.fillEnd l.container l.port f e) q))
     (result = 0 → l.index < l.granted → gives (setFeed f (.held { l with
       inFlight := false, index := l.index + 1, retries := 0, timer := timer })
         (askTrk (.doseDone l.container l.port f) q))) ∧
     (result = 0 → l.granted ≤ l.index → gives (arbitrate f (modFeed f (fun r => { r with
       state := .free
       queue := if l.after = 0 then r.queue else ⟨l.port, l.container, l.after, true⟩ :: r.queue })
         (askTrk (.doseDone l.container l.port f) q)))) ∧
     (result = 2 → l.retries < 2 → gives (setFeed f (.held { l with
       inFlight := false, retries := l.retries + 1, timer := timer }) q)) ∧
     (result = 2 → 2 ≤ l.retries → gives (ends .fault)) ∧
     (result = 1 → gives (ends .short)) ∧
     (3 ≤ result.toNat → gives (ends .fault)))

/-- R65, R75, R63: a DOSE END on a DRAINING lease with the dose in flight counts in meter A, sends TRK the requests of R75 and
ends the lease and the drain, from an ADMITTED or a LISTENING port; one that comes after the hold expiry finds its note, is
refused LATE and counted; any other is refused SEQUENCE and not counted; a port that is no robot's is refused WRONG-ROLE. R69,
R63: the hold timer of a HELD or DRAINING lease expires: FILL END TIMEOUT is sent, the DOSE END note set, the lease ended,
FEED TIMEOUT raised, and the arbiter acts. Before its time there is no expiry (log entry 3). R73, R72: WINDOW LEFT for the
grant of the feed: it lapses; for its HELD lease: WITHDRAW, and the lease ends with FILL END INCOMPLETE or, with a dose in
flight, drains; for anything else nothing changes. The message is taken wherever it stands among those under way: log entry
23. R80: in SAVE, in START-UP and without supply FCO takes nothing: a take or hold timer expiry, an answer of TRK and a WINDOW
LEFT change nothing (log entry 31). -/
def Obligations.LateEndsAndCutsEndTheLease : Prop :=
  (∀ (p : Port) (s : State), s.part.hears p →
     let r := s.part.ports[p]
     let k := s.part.fco
     let passes := r.admission = .admitted ∨ r.admission = .listening ∧
       ((∃ (f : Feed) (l : Lease), k.feeds[f].state = .draining l ∧ l.port = p) ∨ ∃ c i, k.notes[p] = some (.doseEnd c i))
     let q := s.part.heardAt p
     (∀ (result : Byte) (f : Feed) (l : Lease), passes → r.cfg.role = .robot → k.feedServing p = some f →
       k.feeds[f].state = .draining l → l.inFlight = true → l.index < 256 →
       let requests : List FillRequest :=
         if result = 0 then
           if l.index = l.granted ∧ l.after = 0 then [.doseDone l.container l.port f]
           else [.doseDone l.container l.port f, .fillEnd l.container l.port f .incomplete]
         else if result = 1 then [.fillEnd l.container l.port f .short]
         else if result = 2 then [.fillEnd l.container l.port f .incomplete]
         else [.fillEnd l.container l.port f .fault]
       let counted := meterInc (meterA p) q
       Gives (.doseEnd p l.container (BitVec.ofNat 8 l.index) result) s
         (arbitrate f (finishLease f { l with inFlight := false } true
           (setFeed f (.draining { l with inFlight := false }) (forEach requests askTrk counted))))) ∧
     ∀ (c : Half) (i result : Byte), passes →
       (r.cfg.role ≠ .robot → Gives (.doseEnd p c i result) s (refuse p .wrongRole 0x09 q)) ∧
       (r.cfg.role = .robot → k.endable p c i = none →
         (k.notes[p] = some (.doseEnd c i.toNat) →
           Gives (.doseEnd p c i result) s (meterInc (meterA p) (refuse p .late 0x09 (setNote p none q)))) ∧
         (k.notes[p] ≠ some (.doseEnd c i.toNat) → Gives (.doseEnd p c i result) s (refuse p .sequence 0x09 q)))) ∧
  ((∀ (f : Feed) (l : Lease) (drained : Bool) (s : State), s.part.psc.state = .run ∨ s.part.psc.state = .quiet →
     s.part.fco.feeds[f].state = (if drained then .draining l else .held l) → s.part.due l.timer = true →
     Gives (.holdTimerExpiry f) s (arbitrate f
       (setNote l.port (some (.doseEnd l.container l.index))
         (raise (.feedTimeout f l.port l.container l.index)
           (finishLease f l drained (askTrk (.fillEnd l.container l.port f .timeout) s.part)))))) ∧
   ∀ (f : Feed) (s : State),
     (∀ l, s.part.fco.feeds[f].state = .held l ∨ s.part.fco.feeds[f].state = .draining l → s.part.due l.timer = false) →
     Gives (.holdTimerExpiry f) s s.part) ∧
  (∀ (c : Half) (p : Port) (f : Feed) (s : State), s.part.psc.state = .run ∨ s.part.psc.state = .quiet →
     TrkMessage.windowLeft c p f ∈ s.part.fco.toFco →
     let q : Part := { s.part with fco := { s.part.fco with toFco := s.part.fco.toFco.erase (.windowLeft c p f) } }
     let gives := Gives (.windowLeft c p f) s
     (∀ l, s.part.fco.feeds[f].state = .granted l → l.port = p → l.container = c →
       gives (arbitrate f (setNote p (some (.take f))
         (askTrk (if l.remnant then .fillEnd c p f .incomplete else .clear c p)
           (setFeed f l.target.state (sendStation p (.lapse f) q)))))) ∧
     (∀ l, s.part.fco.feeds[f].state = .held l → l.port = p → l.container = c →
       (l.inFlight = false → gives (arbitrate f (finishLease f l false
         (askTrk (.fillEnd c p f .incomplete) (sendStation p (.withdrawFeed f) q))))) ∧
       (l.inFlight = true → gives (drainBegins p (setFeed f (.draining l) (sendStation p (.withdrawFeed f) q))))) ∧
     ((∀ l, (s.part.fco.feeds[f].state = .granted l ∨ s.part.fco.feeds[f].state = .held l) → l.port = p → l.container ≠ c) →
       gives q)) ∧
  (∀ (f : Feed) (p : Port) (c : Half) (a : ReserveAnswer) (s : State), s.part.psc.state ≠ .run → s.part.psc.state ≠ .quiet →
     Gives (.takeTimerExpiry f) s s.part ∧ Gives (.holdTimerExpiry f) s s.part ∧ Gives (.reserveAnswer p a) s s.part ∧
       Gives (.windowLeft c p f) s s.part)

/-- R49, R48: FEED OPEN opens a CLOSED feed with its settings from store, and is refused WRONG-STATE for a feed in another
state and BAD-VALUE for a number outside 1 to 4. R76, R72, R62: FEED CLOSE: BAD-VALUE, WRONG-STATE and IN-PROGRESS; else every
queued entry is removed with REFUSE FEED-CLOSED and released, every claim in reservation for the feed void (of one void
already the first mark stands: log entry 12); a grant lapses with LAPSE and its TAKE note, a HELD lease is withdrawn, and an
idle one ends, and the reply is DONE; a lease with a dose in flight, or draining, goes on to CLOSED, and the reply waits. No
other frame is sent. The REFUSE names the kind CLAIM: log entry 39. -/
def Obligations.FeedsOpenAndClose : Prop :=
  ((∀ (tag n : Byte) (s : State), s.part.serves .feedOpen →
     (¬ (1 ≤ n.toNat ∧ n.toNat ≤ 4) → Gives (.feedOpen tag [n]) s (s.part.answered .feedOpen tag [n] .badValue [])) ∧
     ∀ f : Feed, n.toNat = f.val + 1 →
       (s.part.fco.feeds[f].state = .closed →
         Gives (.feedOpen tag [n]) s (modFeed f (fun r => { r with state := .free, cfg := s.part.nvs.feeds[f] })
           (s.part.answered .feedOpen tag [n] .done []))) ∧
       (s.part.fco.feeds[f].state ≠ .closed →
         Gives (.feedOpen tag [n]) s (s.part.answered .feedOpen tag [n] .wrongState []))) ∧
   ∀ tag n : Byte, OnlyInRun (.feedOpen tag [n]) .feedOpen tag) ∧
  ((∀ (tag n : Byte) (s : State), s.part.serves .feedClose →
     (¬ (1 ≤ n.toNat ∧ n.toNat ≤ 4) → Gives (.feedClose tag [n]) s (s.part.answered .feedClose tag [n] .badValue [])) ∧
     ∀ f : Feed, n.toNat = f.val + 1 →
       let r := s.part.fco.feeds[f]
       let h := s.part.hlc.nextHandle
       (r.state = .closed → Gives (.feedClose tag [n]) s (s.part.answered .feedClose tag [n] .wrongState [])) ∧
       (r.state ≠ .closed → r.closing.isSome = true →
         Gives (.feedClose tag [n]) s (s.part.answered .feedClose tag [n] .inProgress [])) ∧
       (r.state ≠ .closed → r.closing = none →
         ∃ t, Gives (.feedClose tag [n]) s t ∧ t.fco.feeds[f].queue = [] ∧
           (∀ p : Port, t.fco.claims[p] = s.part.fco.claims[p].map fun k =>
             if k.feed = f then { k with void := k.void <|> some .feedClosed } else k) ∧
           (∀ g : Feed, g ≠ f → t.fco.feeds[g] = s.part.fco.feeds[g]) ∧
           (t.fco.toTrk = s.part.fco.toTrk ++
             (r.queue.map fun e =>
               if e.remnant then .fillEnd e.container e.port f .incomplete else .clear e.container e.port) ++
             (match r.state with
               | .granted l => [if l.remnant then .fillEnd l.container l.port f .incomplete else .clear l.container l.port]
               | .held l => if l.inFlight then [] else [.fillEnd l.container l.port f .incomplete]
               | _ => [])) ∧
           (let drains := (∃ l, r.state = .held l ∧ l.inFlight = true) ∨ ∃ l, r.state = .draining l
            (¬ drains → t.fco.feeds[f].state = .closed ∧ t.fco.feeds[f].closing = none ∧
               t.hlc = s.part.hlc.answered .feedClose tag [n] .done []) ∧
            (drains → t.fco.feeds[f].closing = some h ∧ t.hlc = s.part.hlc.entered .feedClose tag [n] .dispatched ∧
               ∀ l, r.state = .held l ∨ r.state = .draining l →
                 t.fco.feeds[f].state = .draining { l with target := .closed })) ∧
           (∀ p : Port,
             let x := s.part.ports[p]
             (t.ports[p] = { x with sent := if x.link then
                 x.sent ++ (r.queue.filter fun e => e.port == p).map (fun _ => (StationOut.refuse .feedClosed 0x05).bytes) ++
                   (match r.state with
                     | .granted l => if l.port = p then [(StationOut.lapse f).bytes] else []
                     | .held l => if l.port = p then [(StationOut.withdrawFeed f).bytes] else []
                     | _ => [])
               else x.sent }) ∧
             t.fco.notes[p] = match r.state with
               | .granted l => if l.port = p then some (.take f) else s.part.fco.notes[p]
               | _ => s.part.fco.notes[p]) ∧
           (t.sva = match r.state with
             | .held l =>
               if l.inFlight then { s.part.sva with draining := s.part.sva.draining.set l.port true } else s.part.sva
             | _ => s.part.sva) ∧
           t.fco.toFco = s.part.fco.toFco ∧ t.psc = s.part.psc ∧ t.trk = s.part.trk ∧ t.mtu = s.part.mtu ∧
           t.prv = s.part.prv ∧ t.nvs = s.part.nvs)) ∧
   ∀ tag n : Byte, OnlyInRun (.feedClose tag [n]) .feedClose tag)

/-- R51, R136, R39: in RUN and QUIET PERMIT is asserted exactly while the feed is HELD or DRAINING, the run enable output
exactly while the holder set is empty or a drain is under way; in START-UP and SAVE, and without supply, no output is
asserted. R92, R121, R199, 11.3, 11.4: a frame handed over for a port goes out while its link is up, and is dropped otherwise;
one for the reader goes out in RUN and QUIET. Each frame is SYNC, LENGTH, KIND, PAYLOAD and the CRC over LENGTH through
PAYLOAD, least significant byte first, with the KIND and the PAYLOAD of the tables: CHALLENGE, WELCOME, REFUSE with its
reason, GRANT, LAPSE, WITHDRAW, PARK, ISOLATE and RELAY to a station; CHALLENGE, WELCOME and REFUSE to the reader. -/
def Obligations.OutputsFollowTheState : Prop :=
  (∀ s : Part,
     let on := s.psc.state = .run ∨ s.psc.state = .quiet
     (∀ f : Feed, s.permitOutput f = true ↔ on ∧
       ∃ l, s.fco.feeds[f].state = .held l ∨ s.fco.feeds[f].state = .draining l) ∧
     (∀ p : Port, s.runEnable p = true ↔ on ∧ (s.sva.holders[p] = [] ∨ s.sva.draining[p] = true)) ∧
     (s.gateOutput = true ↔ on ∧ s.trk.gate = true)) ∧
  ((∀ (p : Port) (f : StationOut) (s : Part), (s.psc.state = .run ∨ s.psc.state = .quiet) ∧ s.ports[p].link = true →
     sendStation p f s = { s with ports := s.ports.set p { s.ports[p] with sent := s.ports[p].sent ++ [f.bytes] } }) ∧
   (∀ (p : Port) (f : StationOut) (s : Part), (s.psc.state ≠ .run ∧ s.psc.state ≠ .quiet) ∨ s.ports[p].link = false →
     sendStation p f s = s) ∧
   (∀ (f : ReaderOut) (s : Part), sendReader f s =
     if s.psc.state = .run ∨ s.psc.state = .quiet then
       { s with sva := { s.sva with readerSent := s.sva.readerSent ++ [f.bytes] } }
     else s) ∧
   (∀ (p : Port) (why : Reason) (kind : Byte) (s : Part), refuse p why kind s = sendStation p (.refuse why kind) s) ∧
   (∀ n : Block, (blockBytes n).length = 16 ∧
     ∀ i : Nat, i < 16 → (blockBytes n)[i]? = some ((n >>> (8 * (15 - i))).setWidth 8)) ∧
   (∀ (n : Block) (hall : Stamp) (why : Reason) (whyReader : ReaderReason) (kind session : Byte) (f : Feed) (c : Half)
       (doses : Nat) (role : BadgeRole) (d : List Byte),
     let frame : Byte → List Byte → List Byte := fun kind payload =>
       let checked := [BitVec.ofNat 8 payload.length, kind] ++ payload
       [(0xC3 : Byte)] ++ checked ++ [(crc16 checked).setWidth 8, (crc16 checked >>> 8).setWidth 8]
     let num : Byte := BitVec.ofNat 8 (f.val + 1)
     (StationOut.challenge n).bytes = frame 0x41 (blockBytes n) ∧
     (StationOut.welcome n hall).bytes =
       frame 0x42 (blockBytes n ++ le 6 hall.time.toNat ++ [if hall.unset then 1 else 0]) ∧
     (StationOut.refuse why kind).bytes = frame 0x43 [why.byte, kind] ∧
     (StationOut.grant f c doses).bytes = frame 0x44 ([num] ++ le 2 c.toNat ++ [BitVec.ofNat 8 doses]) ∧
     (StationOut.lapse f).bytes = frame 0x45 [num] ∧
     (StationOut.withdrawFeed f).bytes = frame 0x46 [num, 0, 0] ∧
     (StationOut.withdrawClaim c).bytes = frame 0x46 ([0] ++ le 2 c.toNat) ∧
     StationOut.park.bytes = frame 0x47 [] ∧ StationOut.isolate.bytes = frame 0x48 [] ∧
     (StationOut.relay d).bytes = frame 0x4B d ∧
     (ReaderOut.challenge n).bytes = frame 0x41 (blockBytes n) ∧
     (ReaderOut.welcome n session role).bytes = frame 0x42 (blockBytes n ++ [session, role.byte]) ∧
     (ReaderOut.refuse whyReader).bytes = frame 0x43 [whyReader.byte]) ∧
   ([Reason.isolated, .unbound, .notAdmitted, .wrongRole, .feedClosed, .claimOpen, .taken, .noContainer, .outOfWindow,
     .serviceDue, .notReady, .late, .early, .duplicate, .unknown, .sequence].map Reason.byte =
     [1, 2, 3, 4, 5, 6, 7, 8, 9, 10, 11, 12, 13, 14, 15, 16]) ∧
   ([ReaderReason.full, .isOpen, .denied, .barred].map ReaderReason.byte = [1, 2, 3, 4]) ∧
   ([BadgeRole.operator, .technician, .supervisor].map BadgeRole.byte = [1, 2, 3]) ∧
   crc16 [0x31, 0x32, 0x33, 0x34, 0x35, 0x36, 0x37, 0x38, 0x39] = 0x29B1)

/-! ### The station ports -/

/-- R82, R105, R198: an idle marker in RUN or QUIET restarts the link timer and ends the wait after a discarded frame; it
brings up the link of a DARK port, which goes to PARKED or LISTENING by its parked mark, and wakes the part from QUIET where
the port's wake enable is yes; a BARRED port's link comes up and the port stays BARRED. A good frame on a DARK port does the
same and is then taken in the port's new state. R81, R199, R105, R194: in START-UP and SAVE no station is heard; a frame is
discarded when its CRC is not the one computed over LENGTH, KIND and PAYLOAD, or its size is not its kind's (RELAY: at most 64
bytes; a kind of no table has none), and after a discarded frame no frame of the port is taken until an idle marker. That
STATION_FRAME_DISCARDED with a good frame is no event is log entry 20. R82, R87: the link timer expires: the link is down and
the status absent; a BARRED port stays BARRED, every other goes to DARK, from CHALLENGED with its context discarded and no
failure counted, from ADMITTED with the effects of R88. Its expiry is compared modulo 2^48: log entry 37. -/
def Obligations.LinksComeUpAndGoDown : Prop :=
  ((∀ (p : Port) (s : State), s.part.psc.state = .run ∨ s.part.psc.state = .quiet →
     let r := s.part.ports[p]
     let timer : Timer := some (s.part.mtu.uptime + 50)
     let heard : PortRec :=
       if r.admission = .dark then
         { r with
           hunting := false, linkTimer := timer, link := true, admission := if r.parked then .parked else .listening }
       else if r.admission = .barred then { r with hunting := false, linkTimer := timer, link := true }
       else { r with hunting := false, linkTimer := timer }
     let q : Part := { s.part with ports := s.part.ports.set p heard }
     Gives (.idleMarker p) s
       (if r.admission = .dark ∧ r.cfg.wake = true ∧ s.part.psc.state = .quiet then
         { q with
           psc := { s.part.psc with state := .run }
           hlc := s.part.hlc.enqueue ⟨.woken (.port p), s.part.mtu.hall, s.part.trk.pitch⟩ }
       else q)) ∧
   (∀ (c : Instr) (p : Port) (kind : Byte) (s t : State), stationFrameOf c = some (p, kind) →
     s.part.psc.state = .run ∨ s.part.psc.state = .quiet → s.part.ports[p].hunting = false → s.part.ports[p].admission = .dark →
     exec (.idleMarker p) s = .next t → exec c s = exec c t)) ∧
  ((∀ (c : Instr) (p : Port) (kind : Byte) (s : State), stationFrameOf c = some (p, kind) →
     (s.part.psc.state ≠ .run ∧ s.part.psc.state ≠ .quiet) ∨ s.part.ports[p].hunting = true → Gives c s s.part) ∧
   (∀ (p : Port) (kind : Byte) (d : List Byte) (crc : Half) (s : State), s.part.psc.state ≠ .run → s.part.psc.state ≠ .quiet →
     Gives (.idleMarker p) s s.part ∧ Gives (.stationFrameDiscarded p kind d crc) s s.part) ∧
   (∀ (p : Port) (d : List Byte) (s : State), s.part.psc.state = .run ∨ s.part.psc.state = .quiet → 64 < d.length →
     Gives (.stationRelay p d) s
       { s.part with ports := s.part.ports.set p { s.part.ports[p] with hunting := true } }) ∧
   ∀ (p : Port) (kind : Byte) (d : List Byte) (crc : Half) (s : State), s.part.psc.state = .run ∨ s.part.psc.state = .quiet →
     let fits := (kind = 0x01 → d.length = 9) ∧ (kind = 0x02 → d.length = 32) ∧ (kind = 0x03 ∨ kind = 0x06 → d.length = 0) ∧
       (kind = 0x04 ∨ kind = 0x07 → d.length = 1) ∧ (kind = 0x05 ∨ kind = 0x09 ∨ kind = 0x0A → d.length = 4) ∧
       (kind = 0x08 → d.length = 3) ∧ (kind = 0x0B → d.length ≤ 64)
     let good := crc = crc16 ([BitVec.ofNat 8 d.length, kind] ++ d) ∧ fits
     (¬ good → Gives (.stationFrameDiscarded p kind d crc) s
       { s.part with ports := s.part.ports.set p { s.part.ports[p] with hunting := true } }) ∧
     (good → Gives (.stationFrameDiscarded p kind d crc) s s.part)) ∧
  ((∀ (p : Port) (e : Time) (s : State), s.part.psc.state = .run ∨ s.part.psc.state = .quiet →
     s.part.ports[p].linkTimer = some e → (s.part.mtu.uptime - e).toNat < 2 ^ 47 →
     let q := modPort p (fun r => { r with link := false, linkTimer := none, status := none }) s.part
     let gives := Gives (.linkTimerExpiry p) s
     (s.part.ports[p].admission = .barred → gives q) ∧
     (s.part.ports[p].admission = .admitted → gives (leaveAdmitted p .dark .linkDown q)) ∧
     (s.part.ports[p].admission ≠ .barred → s.part.ports[p].admission ≠ .admitted →
       gives (modPort p (fun r => { r with admission := .dark })
         { q with prv := { s.part.prv with contexts := s.part.prv.contexts.set p none } }))) ∧
   ∀ (p : Port) (s : State), (s.part.psc.state ≠ .run ∧ s.part.psc.state ≠ .quiet) ∨
     s.part.due s.part.ports[p].linkTimer = false → Gives (.linkTimerExpiry p) s s.part)

/-- R85, R86, R110: HELLO in LISTENING: NOT-READY in QUIET (with a hold on the port too: log entry 48), ISOLATED with a hold on
the port; else the binding is loaded from store, and the HELLO refused UNBOUND or WRONG-ROLE with no failure counted, or PRV
draws a nonce (a free value, log entry 8), copies the key and starts the proof timer, CHALLENGE is sent, and the port is
CHALLENGED. R87, R109, R110: PROOF in CHALLENGED is good when it is the proof value of the part's nonce and the station's, and
the two differ: the context ends, WELCOME carries the part's own proof and the hall time, the port is ADMITTED, its count 0,
PORT STATE raised. A bad proof, and the expiry of the proof timer, end the context, return the port to its waiting state and
count one failure. A PROOF at a CHALLENGED port whose context PRV has ended already is an unexpected frame and counts no
failure: log entry 17. -/
def Obligations.StationsAreAdmittedByProof : Prop :=
  (∀ (p : Port) (identity : Identity) (role : Byte) (s : State), s.part.hears p → s.part.ports[p].admission = .listening →
     let q := s.part.heardAt p
     let c := s.part.nvs.ports[p]
     let bound := modPort p (fun r => { r with cfg := c }) q
     let gives := Gives (.hello p identity role) s
     (s.part.psc.state = .quiet → gives (refuse p .notReady 0x01 q)) ∧
     (s.part.psc.state = .run → s.part.sva.holders[p] ≠ [] → gives (refuse p .isolated 0x01 q)) ∧
     (s.part.psc.state = .run → s.part.sva.holders[p] = [] →
       (c.role = .unused ∨ identity ≠ c.identity → gives (refuse p .unbound 0x01 bound)) ∧
       (c.role ≠ .unused → identity = c.identity → role ≠ c.role.byte → gives (refuse p .wrongRole 0x01 bound)) ∧
       (c.role ≠ .unused → identity = c.identity → role = c.role.byte →
         let nonce := Config.freeNonce s.part.prv.draws
         gives (modPort p (fun r => { r with
             admission := .challenged
             sent := if r.link then r.sent ++ [(StationOut.challenge nonce).bytes] else r.sent })
           { bound with prv := { s.part.prv with
             contexts := s.part.prv.contexts.set p
               (some ⟨nonce, s.part.prv.keys[c.slot], some (s.part.mtu.uptime + 500)⟩)
             draws := s.part.prv.draws + 1 } })))) ∧
  ((∀ key x y : Block, proofValue key x y = aes key (aes key x ^^^ y)) ∧
   (∀ (p : Port) (nb proof : Block) (k : Context) (s : State), s.part.hears p → s.part.ports[p].admission = .challenged →
     s.part.prv.contexts[p] = some k →
     let good := proof = proofValue k.key k.nonce nb ∧ nb ≠ k.nonce
     let ended : Part := { s.part.heardAt p with
       prv := { s.part.prv with contexts := s.part.prv.contexts.set p none } }
     (good → Gives (.proof p nb proof) s (raise (.portState p .admitted .entry) (setCount (.port p) 0
       (modPort p (fun r => { r with
         admission := .admitted
         sent := if r.link then r.sent ++ [(StationOut.welcome (proofValue k.key nb k.nonce) s.part.mtu.hall).bytes]
           else r.sent }) ended)))) ∧
     (¬ good → Gives (.proof p nb proof) s (countFailure (.port p)
       (modPort p (fun r => { r with admission := if r.parked then .parked else .listening }) ended)))) ∧
   (∀ (p : Port) (k : Context) (s : State), s.part.psc.state = .run ∨ s.part.psc.state = .quiet →
     s.part.prv.contexts[p] = some k → s.part.due k.timer = true →
     Gives (.proofTimerExpiry p) s (countFailure (.port p)
       (modPort p (fun r => { r with admission := if r.parked then .parked else .listening })
         { s.part with prv := { s.part.prv with contexts := s.part.prv.contexts.set p none } }))) ∧
   (∀ (p : Port) (nb proof : Block) (s : State), s.part.hears p → s.part.ports[p].admission = .challenged →
     s.part.prv.contexts[p] = none →
     let waiting : Part := modPort p (fun r => { r with admission := if r.parked then .parked else .listening })
       (s.part.heardAt p)
     Gives (.proof p nb proof) s
       (if s.part.ports[p].parked then waiting else refuse p .notAdmitted 0x02 waiting)) ∧
   ∀ (p : Port) (s : State), (∀ k, s.part.prv.contexts[p] = some k → s.part.due k.timer = false) →
     Gives (.proofTimerExpiry p) s s.part)

/-- R114, R115, R116, R117, R118, R89, R178: a count that changes goes to the store, into the FAILCOUNT job of the subject
that waits, or a new one, or the subject's deferred mark; behind a lifting job of the subject in flight, which notes the
change, as a lifting one, whatever else is in flight (that a deferred mark keeps the lifting mark is log entry 36). One
failure counted: the count rises by one; at 255 it stays, no job is queued, and the job of the subject that waits takes 255.
The count that reaches a nonzero limit bars the port: its context ends, it leaves ADMITTED with R88's effects
(`leaveAdmitted`) if it was in it, its state is BARRED and PORT BARRED is raised. The reader is barred with its bar timer and
READER BARRED. -/
def Obligations.FailuresAreCountedAndBar : Prop :=
  (∀ (who : Subject) (n : Nat) (s : Part),
    let q : Part := match who with
      | .port p => { s with prv := { s.prv with counts := s.prv.counts.set p n } }
      | .reader => { s with prv := { s.prv with readerCount := n } }
    (n = s.prv.count who → setCount who n s = s) ∧
    ∀ (l : Bool) (flies : Option Job), n ≠ s.prv.count who →
      (l = true ∧ (∃ v st o, s.nvs.inFlight = some ⟨.failcount who v true st, o⟩ ∧
          flies = some ⟨.failcount who v true true, o⟩) ∨
        l = false ∧ flies = s.nvs.inFlight ∧ ∀ v st o, s.nvs.inFlight ≠ some ⟨.failcount who v true st, o⟩) →
      ((∀ j ∈ s.nvs.queue, j.countsFor who = false) →
        (s.nvs.queue.length < 8 → setCount who n s = { q with nvs := { s.nvs with
          inFlight := flies, queue := s.nvs.queue ++ [⟨.failcount who n l false, []⟩] } }) ∧
        (8 ≤ s.nvs.queue.length → (∀ m, Deferred.failcount who m ∉ s.nvs.deferred) → setCount who n s = { q with
          nvs := { s.nvs with inFlight := flies, deferred := s.nvs.deferred ++ [.failcount who l] } }) ∧
        ∀ (before after : List Deferred) (m : Bool), 8 ≤ s.nvs.queue.length →
          s.nvs.deferred = before ++ .failcount who m :: after →
          (∀ x, Deferred.failcount who x ∉ before ++ after) → setCount who n s = { q with
            nvs := { s.nvs with inFlight := flies, deferred := before ++ .failcount who (m || l) :: after } }) ∧
      ∀ (before after : List Job) (v : Nat) (lifting stale : Bool) (o : List Nat),
        s.nvs.queue = before ++ ⟨.failcount who v lifting stale, o⟩ :: after →
        (∀ j ∈ before ++ after, j.countsFor who = false) →
        setCount who n s = { q with nvs := { s.nvs with
          inFlight := flies, queue := before ++ ⟨.failcount who n (lifting || l) stale, o⟩ :: after } }) ∧
  (∀ (who : Subject) (s : Part), s.prv.count who ≤ 255 →
    let n := if s.prv.count who < 255 then s.prv.count who + 1 else s.prv.count who
    (countFailure who s).prv.count who = n ∧
      (n ≠ s.prv.count who → (countFailure who s).nvs = (setCount who n s).nvs) ∧
      (n = s.prv.count who →
        ((∀ j ∈ s.nvs.queue, j.countsFor who = false) → (countFailure who s).nvs = s.nvs) ∧
        ∀ (before after : List Job) (v : Nat) (lifting stale : Bool) (o : List Nat),
          s.nvs.queue = before ++ ⟨.failcount who v lifting stale, o⟩ :: after →
          (∀ j ∈ before ++ after, j.countsFor who = false) →
          (countFailure who s).nvs =
            { s.nvs with queue := before ++ ⟨.failcount who 255 lifting stale, o⟩ :: after })) ∧
  (∀ (p : Port) (s : Part), s.psc.state = .run ∨ s.psc.state = .quiet → s.ports[p].admission ≠ .barred →
    let t := countFailure (.port p) s
    let n := if s.prv.counts[p] < 255 then s.prv.counts[p] + 1 else s.prv.counts[p]
    let counted : Part := { setCount (.port p) n s with nvs := t.nvs }
    s.prv.counts[p] ≤ 255 →
    (s.prv.stationLimit ≠ 0 ∧ s.prv.stationLimit ≤ n →
      let ended : Part := { counted with prv := { counted.prv with contexts := s.prv.contexts.set p none } }
      (s.ports[p].admission = .admitted → t = (leaveAdmitted p .barred .barred ended).noticed (.portBarred p n)) ∧
      (s.ports[p].admission ≠ .admitted →
        t = Part.noticed { ended with ports := s.ports.set p { s.ports[p] with admission := .barred } } (.portBarred p n)) ∧
      t.ports[p].admission = .barred ∧ t.ports[p].link = s.ports[p].link ∧ t.ports[p].parked = s.ports[p].parked ∧
      t.prv.contexts[p] = none ∧ (s.ports[p].admission = .admitted → t.ports[p].relay = []) ∧
      (s.ports[p].admission ≠ .admitted →
        t.hlc = s.hlc.enqueue ⟨.portBarred p n, s.mtu.hall, s.trk.pitch⟩ ∧ t.fco = s.fco)) ∧
    (¬ (s.prv.stationLimit ≠ 0 ∧ s.prv.stationLimit ≤ n) → t = counted ∧ t.ports = s.ports ∧ t.hlc = s.hlc ∧ t.fco = s.fco)) ∧
  ∀ s : Part, s.psc.state = .run ∨ s.psc.state = .quiet → s.sva.reader = .ready → s.prv.readerCount ≤ 255 →
    let t := countFailure .reader s
    let n := if s.prv.readerCount < 255 then s.prv.readerCount + 1 else s.prv.readerCount
    (s.prv.badgeLimit ≠ 0 ∧ s.prv.badgeLimit ≤ n →
      t.sva = { s.sva with reader := .barred } ∧
      t.prv.barTimer = some (s.mtu.uptime + BitVec.ofNat 48 (s.prv.barPeriod * 60000)) ∧
      t.hlc = s.hlc.enqueue ⟨.readerBarred n s.prv.barPeriod, s.mtu.hall, s.trk.pitch⟩) ∧
    (¬ (s.prv.badgeLimit ≠ 0 ∧ s.prv.badgeLimit ≤ n) → t.sva = s.sva ∧ t.prv.barTimer = s.prv.barTimer ∧ t.hlc = s.hlc)

/-- R81, R90, R87: a good frame of a kind the port's state does not accept: in PARKED and BARRED it is discarded; in LISTENING
it is answered REFUSE NOT-ADMITTED; a CHALLENGED port loses its context, counts a failure and falls back; an ADMITTED port
falls back with R88's effects; one that is then in LISTENING is answered REFUSE NOT-ADMITTED. A frame of an undefined kind is
accepted in no state. A CHALLENGED port whose context PRV has ended already counts no failure: log entry 17. R88, R57: a port
leaves ADMITTED: its relay queue is discarded, with RELAY DROPPED if it held messages, and PORT STATE is raised; at FCO its
claim in reservation is void, its queued entry released, its grant ended without LAPSE or note, the arbiter then acting on the
feed, and a lease goes on (`portLeft`, told before the relay queue is emptied). Of a claim void already the first mark stands:
log entry 12. -/
def Obligations.UnexpectedFramesFallBack : Prop :=
  ((∀ (s : Part) (p : Port) (kind : Byte), ¬ (1 ≤ kind.toNat ∧ kind.toNat ≤ 0x0B) →
     stationFrameOf (.undefinedKind p kind) = some (p, kind) ∧ ¬ s.acceptsKind p kind) ∧
   ∀ (c : Instr) (p : Port) (kind : Byte) (s : State), stationFrameOf c = some (p, kind) → s.part.hears p →
     ¬ s.part.acceptsKind p kind →
     let q := s.part.heardAt p
     let r := s.part.ports[p]
     let waiting : Admission := if r.parked then .parked else .listening
     let refused : Part → Part := fun t => if t.ports[p].admission = .listening then refuse p .notAdmitted kind t else t
     (r.admission = .parked ∨ r.admission = .barred → Gives c s q) ∧
     (r.admission = .listening → Gives c s (refuse p .notAdmitted kind q)) ∧
     (r.admission = .challenged → s.part.prv.contexts[p].isSome = true →
       Gives c s (refused (countFailure (.port p) (modPort p (fun r => { r with admission := waiting })
         { q with prv := { s.part.prv with contexts := s.part.prv.contexts.set p none } })))) ∧
     (r.admission = .challenged → s.part.prv.contexts[p] = none →
       Gives c s (refused (modPort p (fun r => { r with admission := waiting }) q))) ∧
     (r.admission = .admitted → Gives c s (refused (leaveAdmitted p waiting .unexpected q)))) ∧
  (∀ (p : Port) (dest : Admission) (why : LeaveCause) (s : Part),
     let t := leaveAdmitted p dest why s
     let n := s.ports[p].relay.length
     t.hlc = (if n = 0 then s.hlc else s.hlc.enqueue ⟨.relayDropped p n, s.mtu.hall, s.trk.pitch⟩).enqueue
       ⟨.portState p dest why, s.mtu.hall, s.trk.pitch⟩ ∧
     t.ports[p].admission = dest ∧ t.ports[p].relay = [] ∧ t.ports[p].cfg = s.ports[p].cfg ∧ t.ports[p].link = s.ports[p].link ∧
     (∀ k, s.fco.claims[p] = some k → t.fco.claims[p] = some { k with void := k.void <|> some .silent }) ∧
     (s.fco.feedQueueing p = none → (∀ f l, s.fco.feedServing p = some f → s.fco.feeds[f].state ≠ .granted l) →
       t.fco.feeds = s.fco.feeds ∧ t.fco.toTrk = s.fco.toTrk ∧ t.fco.notes = s.fco.notes) ∧
     (∀ (f : Feed) (before after : List QueueEntry) (e : QueueEntry), s.fco.feedServing p = none →
       s.fco.feeds[f].queue = before ++ e :: after → e.port = p → (∀ x ∈ before ++ after, x.port ≠ p) →
       (∀ g : Feed, g ≠ f → ∀ x ∈ s.fco.feeds[g].queue, x.port ≠ p) →
       t.fco.feeds[f] = { s.fco.feeds[f] with queue := before ++ after } ∧
       t.fco.toTrk = s.fco.toTrk ++ [if e.remnant then .fillEnd e.container p f .incomplete else .clear e.container p]) ∧
     (∀ (f : Feed) (l : Lease), s.fco.feedQueueing p = none → s.fco.feedServing p = some f →
       s.fco.feeds[f].state = .granted l → s.fco.feeds[f].queue = [] →
       t.fco.feeds[f] = { s.fco.feeds[f] with state := l.target.state } ∧ t.fco.notes = s.fco.notes ∧
       t.fco.toTrk = s.fco.toTrk ++
         [if l.remnant then .fillEnd l.container l.port f .incomplete else .clear l.container l.port]) ∧
     t.sva = s.sva ∧ t.prv = s.prv ∧ t.trk = s.trk ∧ t.mtu = s.mtu ∧ t.nvs = s.nvs ∧ t.psc = s.psc ∧
     let told := portLeft p (modPort p (fun r => { r with admission := dest }) s)
     let emptied := if n = 0 then told else (modPort p (fun r => { r with relay := [] }) told).noticed (.relayDropped p n)
     t = emptied.noticed (.portState p dest why)) ∧
  ∀ (p : Port) (s : Part),
    let q : Part := { s with fco := { s.fco with
      claims := s.fco.claims.set p (s.fco.claims[p].map fun k => { k with void := k.void <|> some .silent }) } }
    (s.fco.feedQueueing p = none → s.fco.feedServing p = none → portLeft p s = q) ∧
    (∀ (f : Feed) (before after : List QueueEntry) (e : QueueEntry), s.fco.feedServing p = none →
      s.fco.feeds[f].queue = before ++ e :: after → e.port = p → (∀ x ∈ before ++ after, x.port ≠ p) →
      (∀ g : Feed, g ≠ f → ∀ x ∈ s.fco.feeds[g].queue, x.port ≠ p) →
      portLeft p s = askTrk (if e.remnant then .fillEnd e.container p f .incomplete else .clear e.container p)
        (setQueue f (before ++ after) q)) ∧
    ∀ (f : Feed) (l : Lease), s.fco.feedQueueing p = none → s.fco.feedServing p = some f →
      (s.fco.feeds[f].state = .granted l → portLeft p s = arbitrate f
        (askTrk (if l.remnant then .fillEnd l.container l.port f .incomplete else .clear l.container l.port)
          (setFeed f l.target.state q))) ∧
      (s.fco.feeds[f].state = .held l ∨ s.fco.feeds[f].state = .draining l → portLeft p s = q)

/-- R88, R93, R99, R56, R100: DISOWN, REPORT and RELAY of a station: DISOWN takes an ADMITTED port to LISTENING with no
failure counted; REPORT sets the status in every state but DARK, a value outside the four being FAULTED, tells FCO of a robot
that is newly HOMING or FAULTED, whose queued entry, a split remnant too, is removed and its reservation released, and whose
grant lapses, and in ADMITTED releases the oldest relay message; RELAY raises its notice. Of a claim void already the first
mark stands: log entry 12. -/
def Obligations.StationsReportAndRelay : Prop :=
  (∀ (p : Port) (s : State), s.part.hears p → s.part.ports[p].admission = .admitted →
    Gives (.disown p) s (leaveAdmitted p .listening .disown (s.part.heardAt p))) ∧
  (∀ (p : Port) (d : List Byte) (s : State), s.part.hears p → s.part.ports[p].admission = .admitted → d.length ≤ 64 →
    Gives (.stationRelay p d) s (raise (.relay p d) (s.part.heardAt p))) ∧
  ∀ (p : Port) (b : Byte) (s : State), s.part.hears p → s.part.ports[p].admission ≠ .known →
    let r := s.part.ports[p]
    let new : Status := if b = 1 then .ready else if b = 2 then .busy else if b = 3 then .homing else .faulted
    let q := modPort p (fun r => { r with status := some new }) (s.part.heardAt p)
    let told := r.cfg.role = .robot ∧ r.status ≠ some new ∧ (new = .homing ∨ new = .faulted)
    let relayed : Part → Part := fun t => match t.ports[p].admission, t.ports[p].relay with
      | .admitted, m :: rest => modPort p (fun r => { r with
          relay := rest
          sent := if r.link ∧ t.psc.state ≠ .off ∧ t.psc.state ≠ .startUp ∧ t.psc.state ≠ .save then
            r.sent ++ [(StationOut.relay m).bytes] else r.sent }) t
      | _, _ => t
    (¬ told → Gives (.report p b) s (relayed q)) ∧
    (told → Gives (.report p b) s (relayed (robotUnready p q))) ∧
    (∀ k, told → s.part.fco.claims[p] = some k → s.part.fco.feedQueueing p = none → s.part.fco.feedServing p = none →
      Gives (.report p b) s (relayed { q with fco := { s.part.fco with
        claims := s.part.fco.claims.set p (some { k with void := k.void <|> some .notReady }) } })) ∧
    (∀ (f : Feed) (before after : List QueueEntry) (e : QueueEntry), told → s.part.fco.claims[p] = none →
      s.part.fco.feedServing p = none → s.part.fco.feeds[f].queue = before ++ e :: after → e.port = p →
      (∀ x ∈ before ++ after, x.port ≠ p) → (∀ g : Feed, g ≠ f → ∀ x ∈ s.part.fco.feeds[g].queue, x.port ≠ p) →
      Gives (.report p b) s (relayed (askTrk
        (if e.remnant then .fillEnd e.container p f .incomplete else .clear e.container p)
        (setQueue f (before ++ after) q)))) ∧
    ∀ (f : Feed) (l : Lease), told → s.part.fco.claims[p] = none → s.part.fco.feedQueueing p = none →
      s.part.fco.feedServing p = some f →
      (s.part.fco.feeds[f].state = .granted l → Gives (.report p b) s (relayed (arbitrate f (setNote l.port (some (.take f))
        (askTrk (if l.remnant then .fillEnd l.container l.port f .incomplete else .clear l.container l.port)
          (setFeed f l.target.state (sendStation l.port (.lapse f) q))))))) ∧
      (s.part.fco.feeds[f].state = .held l ∨ s.part.fco.feeds[f].state = .draining l →
        Gives (.report p b) s (relayed q))

/-- R94, R95, R98: PORT PARK parks an ADMITTED port whose robot holds nothing at FCO, and is refused WRONG-STATE or BUSY; PORT
WAKE clears the parked mark, and a PARKED port goes to LISTENING; RELAY joins the relay queue of an ADMITTED port with fewer
than four messages; a port number outside 1 to 12 is refused BAD-VALUE. That a port is BUSY by what it holds at FCO, whatever
its role, is log entry 41. -/
def Obligations.HostParksWakesAndRelays : Prop :=
  (∀ (tag n : Byte) (d : List Byte) (s : State), ¬ (1 ≤ n.toNat ∧ n.toNat ≤ 12) → d.length ≤ 64 →
    (s.part.serves .portPark → Gives (.portPark tag [n]) s (s.part.answered .portPark tag [n] .badValue [])) ∧
    (s.part.serves .portWake → Gives (.portWake tag [n]) s (s.part.answered .portWake tag [n] .badValue [])) ∧
    (s.part.serves .relay → Gives (.relay tag (n :: d)) s (s.part.answered .relay tag (n :: d) .badValue []))) ∧
  (∀ (tag n : Byte) (p : Port) (s : State), s.part.serves .portPark → n.toNat = p.val + 1 →
    let gives := Gives (.portPark tag [n]) s
    (s.part.ports[p].admission ≠ .admitted → gives (s.part.answered .portPark tag [n] .wrongState [])) ∧
    (s.part.ports[p].admission = .admitted → s.part.fco.busy p = true → gives (s.part.answered .portPark tag [n] .busy [])) ∧
    (s.part.ports[p].admission = .admitted → s.part.fco.busy p = false →
      let r := s.part.ports[p]
      let h := s.part.hlc.answered .portPark tag [n] .done []
      gives { s.part with
        ports := s.part.ports.set p { r with
          admission := .parked
          parked := true
          relay := []
          sent := if r.link then r.sent ++ [StationOut.park.bytes] else r.sent }
        hlc := (if r.relay = [] then h
            else h.enqueue ⟨.relayDropped p r.relay.length, s.part.mtu.hall, s.part.trk.pitch⟩).enqueue
          ⟨.portState p .parked .portPark, s.part.mtu.hall, s.part.trk.pitch⟩ })) ∧
  (∀ (tag n : Byte) (p : Port) (s : State), s.part.serves .portWake → n.toNat = p.val + 1 →
    Gives (.portWake tag [n]) s (modPort p (fun r => { r with
      parked := false, admission := if r.admission = .parked then .listening else r.admission })
      (s.part.answered .portWake tag [n] .done []))) ∧
  (∀ (tag n : Byte) (d : List Byte) (p : Port) (s : State), s.part.serves .relay → n.toNat = p.val + 1 → d.length ≤ 64 →
    let answer : Code → Part := fun c => s.part.answered .relay tag (n :: d) c []
    (s.part.ports[p].admission ≠ .admitted → Gives (.relay tag (n :: d)) s (answer .wrongState)) ∧
    (s.part.ports[p].admission = .admitted → 4 ≤ s.part.ports[p].relay.length →
      Gives (.relay tag (n :: d)) s (answer .full)) ∧
    (s.part.ports[p].admission = .admitted → s.part.ports[p].relay.length < 4 →
      Gives (.relay tag (n :: d)) s (modPort p (fun r => { r with relay := r.relay ++ [d] }) (answer .done)))) ∧
  ∀ (tag n : Byte) (d : List Byte), d.length ≤ 64 → OnlyInRun (.portPark tag [n]) .portPark tag ∧
    OnlyInRun (.portWake tag [n]) .portWake tag ∧ OnlyInRun (.relay tag (n :: d)) .relay tag

/-! ### The reader, the sessions and the holds -/

/-- R123, R125, R198: a PRESENT: by the reader's state and the checks in order, the REFUSE, with a failure counted or not, or
the CHALLENGE with a fresh nonce (a free value, log entry 8), the badge and role noted, and the proof timer of 500 ms. In
QUIET the part first returns to RUN; in START-UP and SAVE nothing is taken. -/
def Obligations.PresentIsChecked : Prop :=
  (∀ (b : Word) (s : State), s.part.psc.state = .run →
    let v := s.part.sva
    let gives := Gives (.present b) s
    let denied := countFailure .reader (Part.toldReader { s.part with
      sva := { v with reader := .ready }, prv := { s.part.prv with readerContext := none } } (.refuse .denied))
    let found : BadgeRec → Prop := fun r => b ≠ 0 ∧ v.badges.toList.find? (·.badge == b) = some r ∧ r.enabled = true
    (v.reader = .barred → gives (s.part.toldReader (.refuse .barred))) ∧
    (∀ b' r', v.reader = .challenging b' r' → gives denied) ∧
    (v.reader = .ready → 3 ≤ v.sessions.length → gives (s.part.toldReader (.refuse .full))) ∧
    (v.reader = .ready → v.sessions.length < 3 → (∃ x ∈ v.sessions, x.badge = b) →
      gives (s.part.toldReader (.refuse .isOpen))) ∧
    (v.reader = .ready → v.sessions.length < 3 → (∀ x ∈ v.sessions, x.badge ≠ b) → (∀ r, ¬ found r) → gives denied) ∧
    ∀ r, v.reader = .ready → v.sessions.length < 3 → (∀ x ∈ v.sessions, x.badge ≠ b) → found r →
      let nonce := Config.freeNonce s.part.prv.draws
      gives (Part.toldReader { s.part with
        sva := { v with reader := .challenging b r.role }
        prv := { s.part.prv with
          readerContext := some ⟨nonce, s.part.prv.keys[r.slot], b, some (s.part.mtu.uptime + 500)⟩
          draws := s.part.prv.draws + 1 } } (.challenge nonce))) ∧
  (∀ (b : Word) (s : State), s.part.psc.state = .quiet →
    exec (.present b) s = exec (.present b) { s with part :=
      { s.part.noticed (.woken .reader) with psc := { s.part.psc with state := .run } } }) ∧
  ∀ (b : Word) (s : State), s.part.psc.state ≠ .run → s.part.psc.state ≠ .quiet → Gives (.present b) s s.part

/-- R124, R125, R127, R126, R109, R111, R198: a PROOF of the reader: with an exchange under way a good one opens the session,
with the first free number above the last one issued, the badge and role noted and the idle timer, sends WELCOME with the
part's proof, frees the reader, resets the count and raises SESSION OPENED; a bad one, and the expiry of the proof timer, end
the exchange with REFUSE DENIED and one failure. With none under way it is DENIED and nothing counted. A PROOF of an exchange
returns the part from QUIET to RUN. One whose context PRV has ended already is DENIED, the reader READY, and counts no
failure: log entry 17. R118, R114: when the bar timer expires the reader's count is 0, with its FAILCOUNT job, the reader
READY, the timer stopped, and no notice raised; that the expiry is taken in START-UP too is log entry 25. A count that is 0
already stays so with no job. (`setCount`: FailuresAreCountedAndBar.) -/
def Obligations.ReaderProofOpensASession : Prop :=
  ((∀ (b : Word) (role : BadgeRole) (k : ReaderContext) (nb proof : Block) (s : State), s.part.psc.state = .run →
     s.part.sva.reader = .challenging b role → s.part.prv.readerContext = some k →
     let v := s.part.sva
     let good := proof = proofValue k.key k.nonce nb ∧ nb ≠ k.nonce
     let after : Byte → Byte := fun n => if n = 255 then 1 else n + 1
     let open? : Byte → Prop := fun n => ∃ x ∈ v.sessions, x.num = n
     let a := after v.lastSession
     (good → v.sessions.length ≤ 3 → ∃ n : Byte,
       (¬ open? a → n = a) ∧ (open? a → ¬ open? (after a) → n = after a) ∧
       (open? a → open? (after a) → ¬ open? (after (after a)) → n = after (after a)) ∧
       (open? a → open? (after a) → open? (after (after a)) → n = after (after (after a))) ∧
       Gives (.readerProof nb proof) s (Part.noticed (setCount .reader 0 (Part.toldReader { s.part with
         sva := { v with
           sessions := v.sessions ++
             [⟨n, b, role, s.part.mtu.hall, some (s.part.mtu.uptime + BitVec.ofNat 48 (v.timeout * 60000))⟩]
           lastSession := n
           reader := .ready }
         prv := { s.part.prv with readerContext := none } } (.welcome (proofValue k.key nb k.nonce) n role)))
         (.sessionOpened n b role))) ∧
     (¬ good → Gives (.readerProof nb proof) s (countFailure .reader (Part.toldReader { s.part with
       sva := { v with reader := .ready }, prv := { s.part.prv with readerContext := none } } (.refuse .denied))))) ∧
   (∀ (nb proof : Block) (s : State), s.part.psc.state = .run ∨ s.part.psc.state = .quiet →
     (∀ b role, s.part.sva.reader ≠ .challenging b role) →
     Gives (.readerProof nb proof) s (s.part.toldReader (.refuse .denied))) ∧
   (∀ (b : Word) (role : BadgeRole) (nb proof : Block) (s : State), s.part.psc.state = .run →
     s.part.sva.reader = .challenging b role → s.part.prv.readerContext = none →
     Gives (.readerProof nb proof) s (Part.toldReader { s.part with sva := { s.part.sva with reader := .ready } }
       (.refuse .denied))) ∧
   (∀ (b : Word) (role : BadgeRole) (nb proof : Block) (s : State), s.part.psc.state = .quiet →
     s.part.sva.reader = .challenging b role → exec (.readerProof nb proof) s = exec (.readerProof nb proof) { s with part :=
       { s.part.noticed (.woken .reader) with psc := { s.part.psc with state := .run } } }) ∧
   (∀ (k : ReaderContext) (s : State), s.part.psc.state = .run ∨ s.part.psc.state = .quiet →
     s.part.prv.readerContext = some k → s.part.due k.timer = true →
     Gives .readerProofTimerExpiry s (countFailure .reader (Part.toldReader { s.part with
       sva := { s.part.sva with reader := .ready }, prv := { s.part.prv with readerContext := none } } (.refuse .denied)))) ∧
   ∀ s : State, (∀ k, s.part.prv.readerContext = some k → s.part.due k.timer = false) →
     Gives .readerProofTimerExpiry s s.part) ∧
  ((∀ s : State, s.part.psc.state ≠ .save → s.part.psc.state ≠ .off → s.part.due s.part.prv.barTimer = true →
     ∃ t, Gives .barTimerExpiry s t ∧ t = { s.part with
         prv := { s.part.prv with readerCount := 0, barTimer := none }
         sva := { s.part.sva with reader := .ready }
         nvs := t.nvs } ∧
       (s.part.prv.readerCount = 0 → t.nvs = s.part.nvs) ∧ t.nvs = (setCount .reader 0 s.part).nvs) ∧
   ∀ s : State, s.part.psc.state = .save ∨ s.part.psc.state = .off ∨ s.part.due s.part.prv.barTimer = false →
     Gives .barTimerExpiry s s.part)

/-- R128: a request that needs a session is first refused NO-SESSION when the number names no open session, then NOT-PERMITTED
when the session's role may not make it; neither restarts an idle timer. R129, R130, R201: SESSION CLOSE and the expiry of the
idle timer remove the session and raise SESSION CLOSED with the cause, and no hold goes with it; an expiry before its time
(R149) is no event: log entry 3; SESSION READ shows reader and sessions and changes nothing. -/
def Obligations.SessionsAreCheckedShownAndEnded : Prop :=
  ((∀ (c : Instr) (k : ReqKind) (tag num : Byte) (d : List Byte) (s : State), requestOf c = some (k, tag, num :: d) →
     lengthFits k (num :: d) = true → k.needsSession = true → s.part.serves k →
     (num = 0 ∨ (∀ x ∈ s.part.sva.sessions, x.num ≠ num) →
       Gives c s (s.part.answered k tag (num :: d) .noSession [])) ∧
     ∀ x, s.part.inSession num x → k.permits x.role = false →
       Gives c s (s.part.answered k tag (num :: d) .notPermitted [])) ∧
   (∀ (k : ReqKind), k ∈ [.lockout, .release, .sessionClose] → ∀ r, k.permits r = true) ∧
   (∀ (k : ReqKind), k ∈ [.signOff, .meterAdd] → ∀ r, k.permits r = true ↔ r = .technician ∨ r = .supervisor) ∧
   ∀ (k : ReqKind), k ∈ [.removeHold, .unbar, .sectionLock, .locksFreeze, .boundarySet] →
     ∀ r, k.permits r = true ↔ r = .supervisor) ∧
  ((∀ (tag num : Byte) (x : Session) (s : State), s.part.accepts .sessionClose num x →
     Gives (.sessionClose tag [num]) s (Part.noticed { s.part.answered .sessionClose tag [num] .done [] with
       sva := { s.part.sva with sessions := s.part.sva.sessions.filter (·.num != num) } }
       (.sessionClosed num x.badge false))) ∧
   (∀ (num : Byte) (x : Session) (s : State), s.part.psc.state = .run ∨ s.part.psc.state = .quiet →
     s.part.sva.sessions.find? (·.num == num) = some x → s.part.due x.idle = true →
     Gives (.idleTimerExpiry num) s (Part.noticed { s.part with
       sva := { s.part.sva with sessions := s.part.sva.sessions.filter (·.num != num) } }
       (.sessionClosed num x.badge true))) ∧
   (∀ (num : Byte) (s : State), (∀ x ∈ s.part.sva.sessions, x.num = num → s.part.due x.idle = false) →
     Gives (.idleTimerExpiry num) s s.part) ∧
   ∀ (tag : Byte) (s : State), s.part.serves .sessionRead →
     Gives (.sessionRead tag []) s (s.part.answered .sessionRead tag [] .done
       ([s.part.sva.reader.byte] ++
         le 4 (match s.part.sva.reader with
           | .challenging b _ => b.toNat
           | _ => 0) ++
         [BitVec.ofNat 8 s.part.sva.sessions.length] ++
         s.part.sva.sessions.flatMap fun x =>
           [x.num] ++ le 4 x.badge.toNat ++ [x.role.byte] ++ le 6 x.opened.time.toNat ++ [markByte x.opened.unset] ++
             le 4 (s.part.timeLeft x.idle))))

/-- R134, R131: LOCKOUT, after R128: BAD-VALUE, FULL, ALREADY-HELD and FULL in order; else the hold, unrecorded, joins the
tail of the holder set, a first hold isolates the port at SPX and then the robot at FCO (`IsolationReachesPortAndRobot`), a
further one reaches neither, the HOLD-ADD job is queued and the request waits. -/
def Obligations.LockoutPlacesAHold : Prop :=
  ∀ (tag num n : Byte) (x : Session) (s : State), s.part.accepts .lockout num x →
    let q := s.part.withIdle num
    let refused : Code → Prop := fun code =>
      Gives (.lockout tag [num, n]) s (q.answered .lockout tag [num, n] code [])
    (¬ (1 ≤ n.toNat ∧ n.toNat ≤ 12) → refused .badValue) ∧
    ∀ p : Port, n.toNat = p.val + 1 →
      let held := s.part.sva.holders[p]
      (3 ≤ held.length → refused .full) ∧
      (held.length < 3 → (∃ y ∈ held, y.badge = x.badge) → refused .alreadyHeld) ∧
      (held.length < 3 → (∀ y ∈ held, y.badge ≠ x.badge) → 8 ≤ s.part.nvs.queue.length → refused .full) ∧
      (held.length < 3 → (∀ y ∈ held, y.badge ≠ x.badge) → s.part.nvs.queue.length < 8 →
        let h := s.part.hlc.nextHandle
        let placed : Part := { q.entered .lockout tag [num, n] with sva := { q.sva with
          holders := s.part.sva.holders.set p (held ++ [⟨x.badge, num, s.part.mtu.hall, false, false⟩]) } }
        let waits : Part → Part := fun t => Part.queued
          { t with sva := { t.sva with lockouts := t.sva.lockouts ++ [⟨h, p, x.badge⟩] } }
          (.holdAdd ⟨p, x.badge, num, s.part.mtu.hall⟩) [h]
        (held ≠ [] → Gives (.lockout tag [num, n]) s (waits placed)) ∧
        (held = [] → Gives (.lockout tag [num, n]) s (waits (isolateRobot p (isolatePort p placed)))))

/-- R96, R74, R72: isolation of a port: the parked mark is cleared, ISOLATE goes out if the link is up, and the port leaves
its state for LISTENING, from CHALLENGED with its context discarded and no failure counted, from ADMITTED with the effects of
R88; DARK and BARRED stay. Of the robot: its claim in reservation is void, its queued entry released, its grant ended without
LAPSE, its lease ended with FILL END INCOMPLETE or, with a dose in flight, drained; no message goes to it. Of a claim void
already the first mark stands: log entry 12; the robot's part goes by the port and asks no role: log entry 41. -/
def Obligations.IsolationReachesPortAndRobot : Prop :=
  (∀ (p : Port) (s : Part), s.psc.state = .run →
    let r := s.ports[p]
    let q := modPort p (fun r => { r with
      parked := false, sent := if r.link then r.sent ++ [StationOut.isolate.bytes] else r.sent }) s
    let listening : Part → Part := modPort p fun r => { r with admission := .listening }
    (r.admission = .dark ∨ r.admission = .barred ∨ r.admission = .listening → isolatePort p s = q) ∧
    (r.admission = .challenged → isolatePort p s =
      listening { q with prv := { s.prv with contexts := s.prv.contexts.set p none } }) ∧
    (r.admission = .parked → isolatePort p s = listening q) ∧
    (r.admission = .admitted → isolatePort p s = leaveAdmitted p .listening .isolation q)) ∧
  ∀ (p : Port) (s : Part),
    (s.fco.feedQueueing p = none → s.fco.feedServing p = none → isolateRobot p s = { s with fco := { s.fco with
      claims := s.fco.claims.set p (s.fco.claims[p].map fun k => { k with void := k.void <|> some .silent }) } }) ∧
    (∀ (f : Feed) (before after : List QueueEntry) (e : QueueEntry), s.fco.feedServing p = none → s.fco.claims[p] = none →
      s.fco.feeds[f].queue = before ++ e :: after → e.port = p → (∀ x ∈ before ++ after, x.port ≠ p) →
      (∀ g : Feed, g ≠ f → ∀ x ∈ s.fco.feeds[g].queue, x.port ≠ p) →
      isolateRobot p s = askTrk (if e.remnant then .fillEnd e.container p f .incomplete else .clear e.container p)
        (setQueue f (before ++ after) s)) ∧
    ∀ (f : Feed) (l : Lease), s.fco.claims[p] = none → s.fco.feedQueueing p = none → s.fco.feedServing p = some f →
      (∀ (g : Feed) (k : Lease), s.fco.feeds[g].state.lease? = some k → k.port = p → g = f) →
      (s.fco.feeds[f].state = .granted l → isolateRobot p s = arbitrate f
        (askTrk (if l.remnant then .fillEnd l.container l.port f .incomplete else .clear l.container l.port)
          (setFeed f l.target.state s))) ∧
      (s.fco.feeds[f].state = .held l → l.inFlight = false → isolateRobot p s =
        arbitrate f (finishLease f l false (askTrk (.fillEnd l.container l.port f .incomplete) s))) ∧
      (s.fco.feeds[f].state = .held l → l.inFlight = true → isolateRobot p s =
        { setFeed f (.draining l) s with sva := { s.sva with draining := s.sva.draining.set p true } }) ∧
      (s.fco.feeds[f].state = .draining l → isolateRobot p s = s)

/-- R138, R139: RELEASE of the session's own hold and REMOVE HOLD of a named badge's, after R128: BAD-VALUE, NOT-FOUND,
IN-PROGRESS for a hold in release or one whose HOLD-ADD is queued or in flight, FULL; else the releasing mark is set, the
HOLD-REMOVE job queued, and the request waits. -/
def Obligations.ReleasesQueueTheRemoval : Prop :=
  let rules : Instr → ReqKind → Byte → List Byte → Byte → Byte → Word → State → Prop := fun c k tag d num n badge s =>
    let q := s.part.withIdle num
    let refused : Code → Prop := fun code => Gives c s (q.answered k tag d code [])
    (¬ (1 ≤ n.toNat ∧ n.toNat ≤ 12) → refused .badValue) ∧
    ∀ p : Port, n.toNat = p.val + 1 →
      ((∀ y ∈ s.part.sva.holders[p], y.badge ≠ badge) → refused .notFound) ∧
      ∀ y, s.part.sva.holders[p].find? (·.badge == badge) = some y →
        let adding := ∃ j a, (j ∈ s.part.nvs.queue ∨ s.part.nvs.inFlight = some j) ∧ j.body = .holdAdd a ∧ a.port = p ∧
          a.badge = badge
        (y.releasing = true ∨ adding → refused .inProgress) ∧
        (y.releasing = false → ¬ adding → 8 ≤ s.part.nvs.queue.length → refused .full) ∧
        (y.releasing = false → ¬ adding → s.part.nvs.queue.length < 8 →
          Gives c s (Part.queued { q.entered k tag d with sva := { q.sva with
            holders := s.part.sva.holders.set p (s.part.sva.holders[p].map fun z =>
              if z.badge = badge then { z with releasing := true } else z) } }
            (.holdRemove p badge) [s.part.hlc.nextHandle]))
  (∀ (tag num n : Byte) (x : Session) (s : State), s.part.accepts .release num x →
    rules (.release tag [num, n]) .release tag [num, n] num n x.badge s) ∧
  ∀ (tag num n b0 b1 b2 b3 : Byte) (x : Session) (s : State), s.part.accepts .removeHold num x →
    rules (.removeHold tag [num, n, b0, b1, b2, b3]) .removeHold tag [num, n, b0, b1, b2, b3] num n (b3 ++ b2 ++ b1 ++ b0) s

/-- R142, R161, R144, R116, R118: SIGN OFF, after R128: BAD-VALUE, WRONG-STATE with no hold on the port, NOT-FOUND with none
of the session's badge, FULL; else a THRESHOLD job with meter A plus the interval, or 0, is queued. UNBAR: BAD-VALUE, FULL;
else the waiting FAILCOUNT of the target becomes 0 and lifting, or a lifting one is queued. Either request waits for its job.
An UNBAR that shares the job of earlier ones is behind them in it: log entry 43. -/
def Obligations.SignOffAndUnbarQueueTheirJobs : Prop :=
  (∀ (tag num n : Byte) (x : Session) (s : State), s.part.accepts .signOff num x →
    let q := s.part.withIdle num
    let refused : Code → Prop := fun code => Gives (.signOff tag [num, n]) s (q.answered .signOff tag [num, n] code [])
    (¬ (1 ≤ n.toNat ∧ n.toNat ≤ 12) → refused .badValue) ∧
    ∀ p : Port, n.toNat = p.val + 1 →
      let held := s.part.sva.holders[p]
      let a := s.part.mtu.meters[meterA p].value
      let i := s.part.mtu.cfg[p].interval
      (held = [] → refused .wrongState) ∧
      (held ≠ [] → (∀ y ∈ held, y.badge ≠ x.badge) → refused .notFound) ∧
      ((∃ y ∈ held, y.badge = x.badge) → 8 ≤ s.part.nvs.queue.length → refused .full) ∧
      ((∃ y ∈ held, y.badge = x.badge) → s.part.nvs.queue.length < 8 →
        ∃ v : Word, (i = 0 → v = 0) ∧ (i ≠ 0 → v.toNat = min (a.toNat + i.toNat) 4294967295) ∧
          Gives (.signOff tag [num, n]) s
            ((q.entered .signOff tag [num, n]).queued (.threshold p v) [s.part.hlc.nextHandle]))) ∧
  ∀ (tag num n : Byte) (x : Session) (s : State), s.part.accepts .unbar num x →
    let q := s.part.withIdle num
    let d := [num, n]
    let h := s.part.hlc.nextHandle
    (12 < n.toNat → Gives (.unbar tag d) s (q.answered .unbar tag d .badValue [])) ∧
    ∀ who : Subject, (n = 0 ∧ who = .reader ∨ ∃ p : Port, n.toNat = p.val + 1 ∧ who = .port p) →
      ((∀ j ∈ s.part.nvs.queue, j.countsFor who = false) →
        (8 ≤ s.part.nvs.queue.length → Gives (.unbar tag d) s (q.answered .unbar tag d .full [])) ∧
        (s.part.nvs.queue.length < 8 →
          Gives (.unbar tag d) s ((q.entered .unbar tag d).queued (.failcount who 0 true false) [h]))) ∧
      ∀ (before after : List Job) (v : Nat) (lifting stale : Bool) (o : List Nat),
        s.part.nvs.queue = before ++ ⟨.failcount who v lifting stale, o⟩ :: after →
        (∀ j ∈ before ++ after, j.countsFor who = false) →
        Gives (.unbar tag d) s { q.entered .unbar tag d with nvs := { s.part.nvs with
          queue := before ++ ⟨.failcount who 0 true stale, o ++ [h]⟩ :: after } }

/-- R133, R201: HOLD LIST shows one port with its holds in full, or for 0 every port with the badge numbers, and changes
nothing; a number above 12 is refused BAD-VALUE. R156, R201: METER READ shows the meters asked for, meter A of a port with its
threshold, grace, interval and status, the last completed checkpoint, and whether a checkpoint job is queued, in flight or
deferred, and changes nothing; a range outside 0 to 27, or a count outside 1 to 16, is refused BAD-VALUE. -/
def Obligations.HoldsAndMetersAreShown : Prop :=
  (∀ (tag n : Byte) (s : State), s.part.serves .holdList →
     let item : (Hold → List Byte) → Port → List Byte := fun w p =>
       [BitVec.ofNat 8 (p.val + 1), markByte (s.part.runEnable p), markByte s.part.sva.draining[p],
         BitVec.ofNat 8 s.part.sva.holders[p].length] ++ s.part.sva.holders[p].flatMap w
     (12 < n.toNat → Gives (.holdList tag [n]) s (s.part.answered .holdList tag [n] .badValue [])) ∧
     (n = 0 → Gives (.holdList tag [n]) s (s.part.answered .holdList tag [n] .done
       ((List.finRange 12).flatMap (item fun x => le 4 x.badge.toNat)))) ∧
     ∀ p : Port, n.toNat = p.val + 1 → Gives (.holdList tag [n]) s (s.part.answered .holdList tag [n] .done
       (item (fun x => le 4 x.badge.toNat ++ [x.session] ++ le 6 x.placed.time.toNat ++
         [markByte x.placed.unset, markByte x.recorded, markByte x.releasing]) p))) ∧
  (∀ (tag first count : Byte) (s : State), s.part.serves .meterRead →
     let ok := first.toNat ≤ 27 ∧ 1 ≤ count.toNat ∧ count.toNat ≤ 16 ∧ first.toNat + count.toNat ≤ 28
     let checkpoint : Job → Bool := fun j => match j.body with
       | .checkpoint _ _ => true
       | _ => false
     let n := s.part.nvs
     let flags : Nat := (if n.queue.any checkpoint then 1 else 0) + (if n.inFlight.any checkpoint then 2 else 0) +
       if Deferred.checkpoint ∈ n.deferred then 4 else 0
     let meter : Meter → List Byte := fun m =>
       le 4 s.part.mtu.meters[m].value.toNat ++ [markByte s.part.mtu.meters[m].full] ++
         ((List.finRange 12).filter fun p => meterA p == m).flatMap fun p =>
           let c := s.part.mtu.cfg[p]
           le 4 c.threshold.toNat ++ le 4 c.grace.toNat ++ le 4 c.interval.toNat ++ [s.part.mtu.service[p].byte]
     (¬ ok → Gives (.meterRead tag [first, count]) s (s.part.answered .meterRead tag [first, count] .badValue [])) ∧
     (ok → Gives (.meterRead tag [first, count]) s (s.part.answered .meterRead tag [first, count] .done
       (((List.finRange 28).filter fun m => decide (first.toNat ≤ m.val ∧ m.val < first.toNat + count.toNat)).flatMap meter ++
         (match s.part.mtu.lastCheckpoint with
           | none => List.replicate 14 0
           | some k => [1] ++ le 6 k.uptime.toNat ++ le 6 k.hall.time.toNat ++ [markByte k.hall.unset]) ++
         [BitVec.ofNat 8 flags]))))

/-! ### Clocks and meters -/

/-- R148, R150, R151, R152, R201: a millisecond advances uptime and hall time by one, each wrapping, and a nonzero multiple of
1000 is a second boundary (owed, and taken as a command of its own: the model's choice, log entry 9); TIME SET sets hall time
and clears the unset mark; TIME READ shows both clocks. R148, R102: in RUN and QUIET a second boundary counts one on meter B
of every ADMITTED port and on no other meter; in START-UP and SAVE it is taken and not handed on. -/
def Obligations.ClocksRunAndSecondsAreCounted : Prop :=
  ((∀ s : State, s.part.psc.state ≠ .off →
     let u := s.part.mtu.uptime + 1
     Gives .uptimeMillisecond s { s.part with mtu := { s.part.mtu with
       uptime := u
       hall := ⟨s.part.mtu.hall.time + 1, s.part.mtu.hall.unset⟩
       secondsDue := if u.toNat ≠ 0 ∧ 1000 ∣ u.toNat then s.part.mtu.secondsDue + 1 else s.part.mtu.secondsDue } }) ∧
   (∀ s : State, s.part.psc.state = .off → Gives .uptimeMillisecond s s.part) ∧
   (∀ (tag b0 b1 b2 b3 b4 b5 : Byte) (s : State), s.part.serves .timeSet →
     let d := [b0, b1, b2, b3, b4, b5]
     Gives (.timeSet tag d) s { s.part.answered .timeSet tag d .done [] with
       mtu := { s.part.mtu with hall := ⟨b5 ++ b4 ++ b3 ++ b2 ++ b1 ++ b0, false⟩ } }) ∧
   ∀ (tag : Byte) (s : State), s.part.serves .timeRead →
     Gives (.timeRead tag []) s (s.part.answered .timeRead tag [] .done
       (le 6 s.part.mtu.uptime.toNat ++ le 6 s.part.mtu.hall.time.toNat ++ [markByte s.part.mtu.hall.unset]))) ∧
  ((∀ s : State, s.part.psc.state = .run ∨ s.part.psc.state = .quiet → 0 < s.part.mtu.secondsDue →
     ∃ t, Gives .secondBoundary s t ∧
       t = { s.part with
         hlc := { s.part.hlc with notices := t.hlc.notices, gap := t.hlc.gap }
         mtu := { s.part.mtu with secondsDue := s.part.mtu.secondsDue - 1, meters := t.mtu.meters } } ∧
       (∀ p : Port,
         let m := s.part.mtu.meters[meterB p]
         (s.part.ports[p].admission = .admitted → s.part.mtu.closed = false → m.full = false →
           (m.value.toNat < 4294967295 → t.mtu.meters[meterB p] = ⟨m.value + 1, false⟩) ∧
           (m.value.toNat = 4294967295 → t.mtu.meters[meterB p] = ⟨m.value, true⟩)) ∧
         (s.part.ports[p].admission ≠ .admitted ∨ s.part.mtu.closed = true ∨ m.full = true →
           t.mtu.meters[meterB p] = m)) ∧
       ∀ i : Meter, (∀ p, i ≠ meterB p) → t.mtu.meters[i] = s.part.mtu.meters[i]) ∧
   (∀ s : State, s.part.psc.state ≠ .run → s.part.psc.state ≠ .quiet → 0 < s.part.mtu.secondsDue →
     Gives .secondBoundary s { s.part with mtu := { s.part.mtu with secondsDue := s.part.mtu.secondsDue - 1 } }) ∧
   ∀ s : State, s.part.mtu.secondsDue = 0 → Gives .secondBoundary s s.part)

/-- R154, R158, R159: an increment: the value rises by one; at 4,294,967,295 it is not applied, the FULL mark is set and METER
FULL raised; a FULL meter, and every meter once a save's checkpoint has started (R164), is left. After a rise of meter A the
port's service status is NONE, DUE or LIMIT by its threshold and grace, and a change to DUE or LIMIT raises its notice. R155,
R158: METER ADD, after R128: BAD-VALUE above meter 27; an amount of 0 is DONE; a FULL meter is OVERFLOW; a sum above
4,294,967,295 sets the FULL mark, raises METER FULL and is OVERFLOW; else the value rises, the port of a meter A is evaluated,
and the request is DONE. -/
def Obligations.IncrementsAreApplied : Prop :=
  ((∀ (m : Meter) (s : Part),
     let r := s.mtu.meters[m]
     let rises : Part := { s with mtu := { s.mtu with meters := s.mtu.meters.set m ⟨r.value + 1, r.full⟩ } }
     (s.mtu.closed = true ∨ r.full = true → meterInc m s = s) ∧
     (s.mtu.closed = false → r.full = false → r.value.toNat = 4294967295 → meterInc m s =
       Part.noticed { s with mtu := { s.mtu with meters := s.mtu.meters.set m ⟨r.value, true⟩ } } (.meterFull m r.value 1)) ∧
     (s.mtu.closed = false → r.full = false → r.value.toNat < 4294967295 →
       (∀ p : Port, m = meterA p → meterInc m s = evalService p rises) ∧
       ((∀ p : Port, m ≠ meterA p) → meterInc m s = rises))) ∧
   ∀ (p : Port) (s : Part),
     let c := s.mtu.cfg[p]
     let a := s.mtu.meters[meterA p].value
     let none? := c.threshold = 0 ∨ a.toNat < c.threshold.toNat
     let limit? := c.threshold ≠ 0 ∧ c.threshold.toNat + c.grace.toNat ≤ a.toNat
     ∃ new : Service, (new = .none ↔ none?) ∧ (new = .limit ↔ limit?) ∧ serviceOf c a = new ∧
       (new = s.mtu.service[p] → evalService p s = s) ∧
       (new ≠ s.mtu.service[p] →
         let set : Part := { s with mtu := { s.mtu with service := s.mtu.service.set p new } }
         (new = .none → evalService p s = set) ∧
         (new = .due → evalService p s =
           set.noticed (.serviceDue p s.ports[p].cfg.role a c.threshold c.grace)) ∧
         (new = .limit → evalService p s =
           set.noticed (.hardLimit p s.ports[p].cfg.role a c.threshold c.grace)))) ∧
  (∀ (tag num n b0 b1 b2 b3 : Byte) (x : Session) (s : State), s.part.accepts .meterAdd num x →
     let d := [num, n, b0, b1, b2, b3]
     let q := s.part.withIdle num
     let amount : Word := b3 ++ b2 ++ b1 ++ b0
     let gives := Gives (.meterAdd tag d) s
     (27 < n.toNat → gives (q.answered .meterAdd tag d .badValue [])) ∧
     ∀ m : Meter, n.toNat = m.val →
       let r := s.part.mtu.meters[m]
       (amount = 0 → gives (q.answered .meterAdd tag d .done [])) ∧
       (amount ≠ 0 → r.full = true → gives (q.answered .meterAdd tag d .overflow [])) ∧
       (amount ≠ 0 → r.full = false → 4294967295 < r.value.toNat + amount.toNat →
         gives { q with
           hlc := (s.part.hlc.answered .meterAdd tag d .overflow []).enqueue
             ⟨.meterFull m r.value amount, s.part.mtu.hall, s.part.trk.pitch⟩
           mtu := { s.part.mtu with meters := s.part.mtu.meters.set m ⟨r.value, true⟩ } }) ∧
       (amount ≠ 0 → r.full = false → r.value.toNat + amount.toNat ≤ 4294967295 →
         let rises : Part := { q.answered .meterAdd tag d .done [] with
           mtu := { s.part.mtu with meters := s.part.mtu.meters.set m ⟨r.value + amount, false⟩ } }
         (∀ p : Port, m = meterA p → gives (evalService p rises)) ∧
         ((∀ p : Port, m ≠ meterA p) → gives rises)))

/-! ### The settings store -/

/-- R171, R106, R201: SETTING READ shows the unit named with its lock bits, a key as zeros, or the protection, and changes
nothing; other selectors, sections and indexes are refused BAD-VALUE. R169, R107: the checks of SETTING WRITE in order:
NO-SESSION for a number that names no open session; BAD-VALUE for the section or index; at or above the active boundary
NO-SESSION without a session and NOT-PERMITTED for another role than SUPERVISOR; BAD-VALUE for the content; LOCKED; FULL; else
the SETTING job is queued and the request waits. A session named and open has its idle timer restarted under R128, whatever
follows; NOT-PERMITTED restarts no timer (R128; log entry 46). (`unitOf`, `settingOf` and `sectionRules` read the unit, its
content and the rules of PORTS and BADGES.) -/
def Obligations.SettingsAreReadAndWritten : Prop :=
  (∀ (tag a i : Byte) (s : State), s.part.serves .settingRead →
     let n := s.part.nvs
     let c : Byte → Instr := fun sel => .settingReadSection tag [sel, a, i]
     let shows : List Byte → Fin 7 → Bool → Prop := fun unit area slot =>
       Gives (c 0) s (s.part.answered .settingRead tag [0, a, i] .done
         (unit ++ [markByte n.sectionLocks[area], markByte slot]))
     let refused : Byte → Prop := fun sel => Gives (c sel) s (s.part.answered .settingRead tag [sel, a, i] .badValue [])
     (a = 0 → i = 0 → shows n.line.bytes 0 false) ∧
     (∀ f : Feed, a = 1 → i.toNat = f.val + 1 → shows n.feeds[f].bytes 1 false) ∧
     (∀ p : Port, a = 2 → i.toNat = p.val + 1 → shows n.ports[p].bytes 2 false) ∧
     (∀ p : Port, a = 3 → i.toNat = p.val + 1 → shows n.meters[p].bytes 3 false) ∧
     (∀ k : Fin 16, a = 4 → i.toNat = k.val → shows n.badges[k].bytes 4 false) ∧
     (∀ k : Slot, a = 5 → i.toNat = k.val → shows (List.replicate 16 0) 5 n.slotLocks[k]) ∧
     (a = 6 → i = 0 → shows n.limits.bytes 6 false) ∧
     (6 < a.toNat ∨ ((a = 0 ∨ a = 6) ∧ i ≠ 0) ∨ (a = 1 ∧ ¬ (1 ≤ i.toNat ∧ i.toNat ≤ 4)) ∨
       ((a = 2 ∨ a = 3) ∧ ¬ (1 ≤ i.toNat ∧ i.toNat ≤ 12)) ∨ (a = 4 ∧ 15 < i.toNat) ∨ (a = 5 ∧ 7 < i.toNat) → refused 0) ∧
     (∀ sel : Byte, 1 < sel.toNat → refused sel) ∧
     let bits : List Bool → Nat := fun l => l.foldr (fun b v => (if b then 1 else 0) + 2 * v) 0
     ∀ v : Byte, ((∀ j ∈ n.jobs, Job.boundary? j = none) → v = 0xFF) →
       (∀ j w, n.jobs.find? (fun j => (Job.boundary? j).isSome) = some j → Job.boundary? j = some w → v = BitVec.ofNat 8 w) →
       Gives (.settingReadProtection tag [1, a, i]) s (s.part.answered .settingRead tag [1, a, i] .done
         [BitVec.ofNat 8 (bits n.sectionLocks.toList), BitVec.ofNat 8 (bits n.slotLocks.toList), markByte n.frozen,
          BitVec.ofNat 8 n.boundary, BitVec.ofNat 8 n.activeBoundary, v])) ∧
  ((∀ (tag num a i : Byte) (u : List Byte) (s : State),
     let d := num :: a :: i :: u
     d.length ≤ 248 → lengthFits .settingWrite d = true → s.part.serves .settingWrite →
     num ≠ 0 → (∀ x ∈ s.part.sva.sessions, x.num ≠ num) →
     Gives (.settingWrite tag d) s (s.part.answered .settingWrite tag d .noSession [])) ∧
   (∀ (tag num a i : Byte) (u : List Byte) (session : Option Session) (s : State),
     let d := num :: a :: i :: u
     let n := s.part.nvs
     d.length ≤ 248 → lengthFits .settingWrite d = true → s.part.serves .settingWrite →
     (num = 0 ∧ session = none ∨ ∃ x, session = some x ∧ s.part.inSession num x) →
     let q := if num = 0 then s.part else s.part.withIdle num
     let refused : Code → Prop := fun code => Gives (.settingWrite tag d) s (q.answered .settingWrite tag d code [])
     (unitOf a.toNat i.toNat = none → refused .badValue) ∧
     ∀ r : UnitRef, unitOf a.toNat i.toNat = some r →
       let guardedArea := n.activeBoundary ≤ a.toNat
       let permitted := ¬ guardedArea ∨ ∃ x, session = some x ∧ x.role = .supervisor
       let locked := n.sectionLocks[r.area] = true ∨ ∃ k : Slot, r = .key k ∧ n.slotLocks[k] = true
       (guardedArea → session = none → refused .noSession) ∧
       (∀ x, guardedArea → session = some x → x.role ≠ .supervisor → Gives (.settingWrite tag d) s
         (s.part.answered .settingWrite tag d .notPermitted [])) ∧
       (permitted → settingOf r u = none → refused .badValue) ∧
       ∀ c : Setting, permitted → settingOf r u = some c →
         (sectionRules n c = false → refused .badValue) ∧
         (sectionRules n c = true → locked → refused .locked) ∧
         (sectionRules n c = true → ¬ locked → 8 ≤ n.queue.length → refused .full) ∧
         (sectionRules n c = true → ¬ locked → n.queue.length < 8 → Gives (.settingWrite tag d) s
           ((q.entered .settingWrite tag d).queued (.setting c) [s.part.hlc.nextHandle]))) ∧
   ∀ (n : Nvs) (p : Port) (i : Fin 16) (c : PortCfg) (b : BadgeRec),
     (sectionRules n (.port p c) = true ↔ (n.ports.set p c).toList.countP (·.role == .robot) ≤ 8 ∧
       (n.ports.set p c).toList.countP (·.role == .camera) ≤ 6) ∧
     (sectionRules n (.badge i b) = true ↔
       ∀ j k : Fin 16, j ≠ k → (n.badges.set i b)[j].badge = (n.badges.set i b)[k].badge → (n.badges.set i b)[j].badge = 0))

/-- R1, R48, R84, R106, R113, R120, R127, R157, R162, R168: the ranges of the sections: what the bytes of a unit spell, or
nothing where a value is out of range (a mark byte other than 0 and 1, and an undefined flag bit, count as out of range: log
entry 16). -/
def Obligations.SettingsAreInRange : Prop :=
  (∀ (f : Feed) (m a b c d : Byte),
    let take := a.toNat + 256 * b.toNat
    let hold := c.toNat + 256 * d.toNat
    settingOf (.feed f) [m, a, b, c, d] =
      if m.toNat ≤ 1 ∧ 20 ≤ take ∧ take ≤ 1000 ∧ 200 ≤ hold ∧ hold ≤ 10000 then some (.feed f ⟨decide (m = 1), take, hold⟩)
      else none) ∧
  (∀ (p : Port) (r k w i0 i1 i2 i3 i4 i5 i6 i7 : Byte) (v : Setting),
    settingOf (.port p) [r, i0, i1, i2, i3, i4, i5, i6, i7, k, w] = some v ↔ r.toNat ≤ 2 ∧ w.toNat ≤ 1 ∧
      ∃ slot : Slot, slot.val = k.toNat ∧ v = .port p
        ⟨if r = 0 then .unused else if r = 1 then .robot else .camera, i0 ++ i1 ++ i2 ++ i3 ++ i4 ++ i5 ++ i6 ++ i7, slot,
         decide (w = 1)⟩) ∧
  (∀ (p : Port) (t0 t1 t2 t3 g0 g1 g2 g3 i0 i1 i2 i3 : Byte),
    settingOf (.meter p) [t0, t1, t2, t3, g0, g1, g2, g3, i0, i1, i2, i3] =
      some (.meter p ⟨t3 ++ t2 ++ t1 ++ t0, g3 ++ g2 ++ g1 ++ g0, i3 ++ i2 ++ i1 ++ i0⟩)) ∧
  (∀ (n : Fin 16) (b0 b1 b2 b3 r k e : Byte) (v : Setting),
    settingOf (.badge n) [b0, b1, b2, b3, r, k, e] = some v ↔ 1 ≤ r.toNat ∧ r.toNat ≤ 3 ∧ e.toNat ≤ 1 ∧
      ∃ slot : Slot, slot.val = k.toNat ∧ v = .badge n
        ⟨b3 ++ b2 ++ b1 ++ b0, if r = 1 then .operator else if r = 2 then .technician else .supervisor, slot,
         decide (e = 1)⟩) ∧
  (∀ (k : Slot) (u : List Byte), u.length = 16 → settingOf (.key k) u = some (.key k (blockOf u))) ∧
  (∀ a b c d e f g : Byte,
    let period := e.toNat + 256 * f.toNat
    settingOf .limits [a, b, c, d, e, f, g] =
      if a.toNat ≤ 15 ∧ b.toNat ≤ 31 ∧ 1 ≤ c.toNat ∧ c.toNat ≤ 60 ∧ 1 ≤ d.toNat ∧ d.toNat ≤ 120 ∧ 10 ≤ period ∧
          period ≤ 600 ∧ (g = 1 ∨ g = 2 ∨ g = 4 ∨ g = 8) then
        some (.limits ⟨a.toNat, b.toNat, c.toNat, d.toNat, period, g.toNat⟩)
      else none) ∧
  ∀ (u : List Byte) (g : Geometry), u.length = 50 → (settingOf .line u = some (.line g) ↔
    g.bytes = u ∧ 4 ≤ g.gate ∧ g.gate ≤ 90 ∧ 1 ≤ g.divider ∧ g.divider ≤ 64 ∧
    ∀ p : Port, (g.windows[p] = ⟨0, 0⟩ ∨
        1 ≤ g.windows[p].first ∧ g.windows[p].first ≤ g.windows[p].last ∧ g.windows[p].last < g.gate) ∧
      (g.cameras[p].offset = 0 ∨ 1 ≤ g.cameras[p].offset ∧ g.cameras[p].offset < g.gate))

/-- R172, R108, R173, R174: SECTION LOCK of a section or key slot, LOCKS FREEZE and BOUNDARY SET, after R128: the checks of
each in order, a lock or freeze that stands being DONE at once; else the job is queued and the request waits. -/
def Obligations.LocksFreezeAndBoundaryAreChecked : Prop :=
  (∀ (c : Instr) (tag num cls n : Byte) (x : Session) (s : State),
    let d := [num, cls, n]
    c = .sectionLockSection tag d ∨ c = .sectionLockKeySlot tag d → s.part.accepts .sectionLock num x →
    let q := s.part.withIdle num
    let replied : Code → Prop := fun code => Gives c s (q.answered .sectionLock tag d code [])
    (1 < cls.toNat ∨ (cls = 0 ∧ 6 < n.toNat) ∨ (cls = 1 ∧ 7 < n.toNat) → replied .badValue) ∧
    ∀ t : LockTarget, (cls = 0 ∧ (∃ a : Fin 7, a.val = n.toNat ∧ t = .area a) ∨
        cls = 1 ∧ ∃ k : Slot, k.val = n.toNat ∧ t = .slot k) →
      let locked := (∃ a, t = .area a ∧ s.part.nvs.sectionLocks[a] = true) ∨ ∃ k, t = .slot k ∧ s.part.nvs.slotLocks[k] = true
      (locked → replied .done) ∧
      (¬ locked → s.part.nvs.frozen = true → replied .frozen) ∧
      (¬ locked → s.part.nvs.frozen = false → 8 ≤ s.part.nvs.queue.length → replied .full) ∧
      (¬ locked → s.part.nvs.frozen = false → s.part.nvs.queue.length < 8 →
        Gives c s ((q.entered .sectionLock tag d).queued (.lock t) [s.part.hlc.nextHandle]))) ∧
  (∀ (tag num : Byte) (x : Session) (s : State), s.part.accepts .locksFreeze num x →
    let q := s.part.withIdle num
    let n := s.part.nvs
    let replied : Code → Prop := fun code => Gives (.locksFreeze tag [num]) s (q.answered .locksFreeze tag [num] code [])
    let waiting := ∃ j, (j ∈ n.queue ∨ n.inFlight = some j) ∧ j.body = .freeze
    (n.frozen = true → replied .done) ∧
    (n.frozen = false → waiting → replied .inProgress) ∧
    (n.frozen = false → ¬ waiting → 8 ≤ n.queue.length → replied .full) ∧
    (n.frozen = false → ¬ waiting → n.queue.length < 8 →
      Gives (.locksFreeze tag [num]) s ((q.entered .locksFreeze tag [num]).queued .freeze [s.part.hlc.nextHandle]))) ∧
  ∀ (tag num v : Byte) (x : Session) (s : State), s.part.accepts .boundarySet num x →
    let q := s.part.withIdle num
    let n := s.part.nvs
    let replied : Code → Prop := fun code => Gives (.boundarySet tag [num, v]) s (q.answered .boundarySet tag [num, v] code [])
    let waiting := ∃ j w, (j ∈ n.queue ∨ n.inFlight = some j) ∧ j.body = .boundary w
    (waiting → replied .inProgress) ∧
    (¬ waiting → n.boundary ≤ v.toNat → replied .badValue) ∧
    (¬ waiting → v.toNat < n.boundary → 8 ≤ n.queue.length → replied .full) ∧
    (¬ waiting → v.toNat < n.boundary → n.queue.length < 8 → Gives (.boundarySet tag [num, v]) s
      ((q.entered .boundarySet tag [num, v]).queued (.boundary v.toNat) [s.part.hlc.nextHandle]))

/-- R162, R178: when the checkpoint timer expires it starts again with the active period, and a CHECKPOINT job is asked for: a
waiting one serves, else it is queued, else the deferred mark is set, which a second expiry leaves. R176, R177, R178, R163,
R170, R172, R180, R164: with no job in flight and no restart on its way the store starts the oldest hold job, else the oldest
job; its place frees, and the oldest deferred mark becomes a job at the tail (one that lifts keeps that: log entry 36). A
SETTING or LOCK job is checked again and, if turned away, writes nothing and its request is answered; a CHECKPOINT takes the
meters. In SAVE only the save's checkpoint starts, and from there no increment is applied. A job turned away ends in the step
of its start (log entry 33), and no job starts while a block restart is owed (log entry 14). -/
def Obligations.StoreJobsAreAskedForAndStart : Prop :=
  ((∀ s : State, s.part.psc.state = .run ∨ s.part.psc.state = .quiet → s.part.due s.part.mtu.checkpointTimer = true →
     let q : Part := { s.part with mtu := { s.part.mtu with
       checkpointTimer := some (s.part.mtu.uptime + BitVec.ofNat 48 (s.part.mtu.checkpointPeriod * 1000)) } }
     let n := s.part.nvs
     let waiting := ∃ j ∈ n.queue, ∃ c save, j.body = .checkpoint c save
     let gives := Gives .checkpointTimerExpiry s
     (waiting → gives q) ∧
     (¬ waiting → n.queue.length < 8 → gives (q.queued (.checkpoint none false) [])) ∧
     (¬ waiting → 8 ≤ n.queue.length → Deferred.checkpoint ∈ n.deferred → gives q) ∧
     (¬ waiting → 8 ≤ n.queue.length → Deferred.checkpoint ∉ n.deferred →
       gives { q with nvs := { n with deferred := n.deferred ++ [.checkpoint] } })) ∧
   ∀ s : State, (s.part.psc.state ≠ .run ∧ s.part.psc.state ≠ .quiet) ∨ s.part.due s.part.mtu.checkpointTimer = false →
     Gives .checkpointTimerExpiry s s.part) ∧
  ((∀ (before after : List Job) (j : Job) (s : State), s.part.psc.state = .run ∨ s.part.psc.state = .quiet →
     s.part.psc.restart = none → s.part.psc.owed = ⟨false, false, false, false, false, false, false⟩ →
     s.part.nvs.inFlight = none → s.part.nvs.queue = before ++ j :: after → s.part.nvs.queue.length ≤ 8 →
     let hold : Job → Prop := fun j => (∃ h, j.body = .holdAdd h) ∨ ∃ p b, j.body = .holdRemove p b
     (hold j ∧ (∀ k ∈ before, ¬ hold k)) ∨ (before = [] ∧ ∀ k ∈ s.part.nvs.queue, ¬ hold k) →
     let n := s.part.nvs
     let base : Part := match n.deferred with
       | [] => { s.part with nvs := { n with queue := before ++ after } }
       | d :: rest => { s.part with nvs := { n with
           deferred := rest
           queue := before ++ after ++ [match d with
             | .checkpoint => ⟨.checkpoint none false, []⟩
             | .failcount who lifting => ⟨.failcount who (s.part.prv.count who) lifting false, []⟩] } }
     let starts : Job → Part := fun j => { base with nvs := { base.nvs with inFlight := some j } }
     let gives := Gives .storeJobStart s
     (∀ c, j.body = .setting c →
       let locked := n.sectionLocks[c.unit.area] = true ∨ ∃ k v, c = .key k v ∧ n.slotLocks[k] = true
       (locked → gives (base.repliedTo j.origin .locked)) ∧
       (¬ locked → sectionRules n c = false → gives (base.repliedTo j.origin .badValue)) ∧
       (¬ locked → sectionRules n c = true → gives (starts j))) ∧
     (∀ t, j.body = .lock t →
       (n.frozen = true → gives (base.repliedTo j.origin .frozen)) ∧ (n.frozen = false → gives (starts j))) ∧
     (∀ m save, j.body = .checkpoint m save → gives (starts ⟨.checkpoint (some s.part.mtu.meters) save, j.origin⟩)) ∧
     (hold j ∨ j.body = .freeze ∨ (∃ v, j.body = .boundary v) ∨ (∃ p v, j.body = .threshold p v) ∨
       (∃ w v l st, j.body = .failcount w v l st) → gives (starts j))) ∧
   (∀ s : State, s.part.psc.state = .save → s.part.nvs.saveDue = true → s.part.nvs.inFlight = none →
     Gives .storeJobStart s { s.part with
       nvs := { s.part.nvs with saveDue := false, inFlight := some ⟨.checkpoint (some s.part.mtu.meters) true, []⟩ }
       mtu := { s.part.mtu with closed := true } }) ∧
   (∀ s : State, s.part.psc.state ≠ .run → s.part.psc.state ≠ .quiet → s.part.psc.state ≠ .save ∨ s.part.nvs.saveDue = false →
     Gives .storeJobStart s s.part) ∧
   ∀ s : State, s.part.nvs.inFlight.isSome = true ∨ ((s.part.psc.state = .run ∨ s.part.psc.state = .quiet) ∧
     (s.part.nvs.queue = [] ∨ s.part.psc.restart.isSome = true ∨ s.part.psc.owed.any = true)) → Gives .storeJobStart s s.part)

/-- R176, R170, R2, R157, R120, R106, R113, R119, R172, R108, R173, R174: the end of a SETTING, LOCK, FREEZE or BOUNDARY job.
Completed: the store holds the new content, the user of the unit is told, and the request is DONE; failed: the store is as it
was, STORE FAULT is raised, the request is STORE-FAULT and no user is told. A LIMITS write: PRV, SVA and MTU have its values,
and PRV evaluates every port and the reader (`Part.evaluated`; the order: log entry 42): a port whose count has reached the
limit is barred with the effects of R88 and R89, a released one goes to DARK, PARKED or LISTENING, the reader is barred for a
full period with READER BARRED or released; in SAVE barring is not acted on, so a LIMITS write that ends there evaluates
nothing (R119, over R113 and R115: log entry 25). -/
def Obligations.WritesEnd : Prop :=
  (∀ (body : JobBody) (o : List Nat) (c : Bool → Instr) (s : State), s.part.hostReceives = true →
    s.part.nvs.inFlight = some ⟨body, o⟩ →
    (∃ v, body = .setting v) ∧ c = .settingJobEnd ∨ (∃ t, body = .lock t) ∧ c = .lockJobEnd ∨
      body = .freeze ∧ c = .freezeJobEnd ∨ (∃ v, body = .boundary v) ∧ c = .boundaryJobEnd ∨
      (∃ p v, body = .threshold p v) ∧ c = .thresholdJobEnd →
    Gives (c false) s ((s.part.jobEnded.noticed (.storeFault body)).repliedTo o .storeFault)) ∧
  (∀ (v : Setting) (o : List Nat) (s : State), s.part.hostReceives = true →
    s.part.nvs.inFlight = some ⟨.setting v, o⟩ →
    let q := s.part.jobEnded
    let n := q.nvs
    let gives : Part → Prop := fun t => Gives (.settingJobEnd true) s (t.repliedTo o .done)
    (∀ g, v = .line g →
      gives { q with nvs := { n with line := g }, trk := { s.part.trk with geometryPending := true } }) ∧
    (∀ f c, v = .feed f c → gives { q with nvs := { n with feeds := n.feeds.set f c } }) ∧
    (∀ p c, v = .port p c → gives { q with nvs := { n with ports := n.ports.set p c } }) ∧
    (∀ p c, v = .meter p c → gives (evalService p { q with
      nvs := { n with meters := n.meters.set p c }, mtu := { s.part.mtu with cfg := s.part.mtu.cfg.set p c } })) ∧
    (∀ i b, v = .badge i b → gives { q with
      nvs := { n with badges := n.badges.set i b }, sva := { s.part.sva with badges := n.badges.set i b } }) ∧
    (∀ k x, v = .key k x → gives { q with
      nvs := { n with keys := n.keys.set k x }, prv := { s.part.prv with keys := s.part.prv.keys.set k x } }) ∧
    ∀ l, v = .limits l →
      let loaded : Part := { q with
        nvs := { n with limits := l }
        sva := { s.part.sva with timeout := l.sessionTimeout }
        mtu := { s.part.mtu with checkpointPeriod := l.checkpointPeriod }
        prv := { s.part.prv with stationLimit := l.stationLimit, badgeLimit := l.badgeLimit, barPeriod := l.barPeriod } }
      let t := loaded.evaluated
      (s.part.psc.state = .save → gives loaded) ∧
      (s.part.psc.state = .run ∨ s.part.psc.state = .quiet → gives t ∧ t.nvs = { n with limits := l } ∧ t.sva.timeout = l.sessionTimeout ∧
        t.mtu = { s.part.mtu with checkpointPeriod := l.checkpointPeriod } ∧ t.prv.stationLimit = l.stationLimit ∧
        t.prv.badgeLimit = l.badgeLimit ∧ t.prv.barPeriod = l.barPeriod ∧ t.prv.counts = s.part.prv.counts ∧
        t.prv.readerCount = s.part.prv.readerCount ∧ t.psc = s.part.psc ∧
        (∀ p : Port, t.ports[p].admission = .barred ↔ limitReached l.stationLimit s.part.prv.counts[p] = true) ∧
        (t.sva.reader = .barred ↔ limitReached l.badgeLimit s.part.prv.readerCount = true) ∧
        (s.part.sva.reader = .barred → t.sva.reader = .barred → t.prv.barTimer = s.part.prv.barTimer) ∧
        (s.part.sva.reader = .barred → t.sva.reader ≠ .barred → t.prv.barTimer = none) ∧
        (s.part.sva.reader ≠ .barred → t.sva.reader = .barred →
          t.prv.barTimer = some (s.part.mtu.uptime + BitVec.ofNat 48 (l.barPeriod * 60000))) ∧
        (∀ b r, s.part.sva.reader = .challenging b r → t.sva.reader = .barred → t.prv.readerContext = none) ∧
        ∀ p : Port, s.part.ports[p].admission = .barred → limitReached l.stationLimit s.part.prv.counts[p] = false →
          t.ports[p].admission = s.part.ports[p].released)) ∧
  ∀ (o : List Nat) (s : State), s.part.hostReceives = true →
    let q := s.part.jobEnded
    let n := q.nvs
    let flies : JobBody → Prop := fun b => s.part.nvs.inFlight = some ⟨b, o⟩
    let gives : Instr → Part → Prop := fun c t => Gives c s (t.repliedTo o .done)
    (∀ a : Fin 7, flies (.lock (.area a)) →
      gives (.lockJobEnd true) { q with nvs := { n with sectionLocks := n.sectionLocks.set a true } }) ∧
    (∀ k : Slot, flies (.lock (.slot k)) →
      gives (.lockJobEnd true) { q with nvs := { n with slotLocks := n.slotLocks.set k true } }) ∧
    (flies .freeze → gives (.freezeJobEnd true) { q with nvs := { n with frozen := true } }) ∧
    (∀ v, flies (.boundary v) → gives (.boundaryJobEnd true) { q with nvs := { n with boundary := v } }) ∧
    ∀ (p : Port) (v : Word), flies (.threshold p v) → gives (.thresholdJobEnd true) (evalService p { q with
      nvs := { n with meters := n.meters.set p { n.meters[p] with threshold := v } }
      mtu := { s.part.mtu with cfg := s.part.mtu.cfg.set p { s.part.mtu.cfg[p] with threshold := v } } })

/-- R132, R135, R140, R146, R147: the end of a hold job. HOLD-ADD completed: the hold is in the stored list and marked
recorded, and the LOCKOUT is DONE if the run enable output is down, or a RESTART waits, and goes on waiting else. HOLD-REMOVE
completed: the hold leaves list and set, the release is DONE, a LOCKOUT still pending on it ABORTED, but in SAVE not replied
(log entry 44). Failed: STORE FAULT, the request STORE-FAULT, the list as it was; a failed HOLD-REMOVE clears the releasing
mark. The reply to a LOCKOUT while a RESTART waits comes at the end of its job: log entry 29. R114, R116, R118, R89, R163,
R195: the end of a FAILCOUNT job writes the store image; a lifting one sets the count, unless it changed meanwhile, and
releases a subject now below its limit, a port to PARKED, LISTENING or DARK by mark and link, the reader with its timer
stopped, and its UNBARs are DONE, in the order asked (log entry 43); a subject whose value is still at its limit stays barred,
or is barred. The end of a CHECKPOINT writes the meters it took and is the last completed one; in a save the links go down,
completed or failed. Failed: STORE FAULT, and the store as it was. A job end of another kind than the job in flight, or with
none in flight, is no event (log entry 3). The wait of ten milliseconds begins with stage 5 (log entry 18); a lifting job that
ends in SAVE sets the count and evaluates nothing (log entry 25). -/
def Obligations.HoldsCountsAndCheckpointsEnd : Prop :=
  ((∀ (h : StoredHold) (o : List Nat) (s : State), s.part.hostReceives = true →
     s.part.nvs.inFlight = some ⟨.holdAdd h, o⟩ →
     let v := s.part.sva
     let rest := v.lockouts.filter fun k => !o.contains k.request
     let q := s.part.jobEnded
     let recorded : List Lockout → Part := fun left => { q with
       nvs := { q.nvs with holds := q.nvs.holds ++ [h] }
       sva := { v with
         lockouts := left
         holders := v.holders.set h.port (v.holders[h.port].map fun x =>
           if x.badge = h.badge then { x with recorded := true } else x) } }
     let answered := s.part.psc.restart.isSome = true ∨ s.part.runEnable h.port = false
     (answered → Gives (.holdAddJobEnd true) s ((recorded rest).repliedTo o .done)) ∧
     (¬ answered → Gives (.holdAddJobEnd true) s (recorded v.lockouts)) ∧
     Gives (.holdAddJobEnd false) s
       (Part.repliedTo { q.noticed (.storeFault (.holdAdd h)) with sva := { v with lockouts := rest } } o .storeFault)) ∧
   ∀ (p : Port) (b : Word) (o : List Nat) (s : State), s.part.hostReceives = true →
     s.part.nvs.inFlight = some ⟨.holdRemove p b, o⟩ →
     let v := s.part.sva
     let mine : Lockout → Bool := fun k => k.port == p && k.badge == b
     let q := s.part.jobEnded
     Gives (.holdRemoveJobEnd true) s ((Part.repliedTo { q with
       nvs := { q.nvs with holds := q.nvs.holds.filter fun h => !(h.port == p && h.badge == b) }
       sva := { v with
         holders := v.holders.set p (v.holders[p].filter fun x => x.badge != b)
         lockouts := v.lockouts.filter fun k => !mine k } } o .done).repliedTo
       (if s.part.psc.state = .save then [] else (v.lockouts.filter mine).map (·.request)) .aborted) ∧
     Gives (.holdRemoveJobEnd false) s (Part.repliedTo { q.noticed (.storeFault (.holdRemove p b)) with
       sva := { v with holders := v.holders.set p (v.holders[p].map fun x =>
         if x.badge = b then { x with releasing := false } else x) } } o .storeFault)) ∧
  ((∀ (who : Subject) (v : Nat) (lifting stale : Bool) (o : List Nat) (s : State), s.part.hostReceives = true →
     s.part.nvs.inFlight = some ⟨.failcount who v lifting stale, o⟩ →
     let q := s.part.jobEnded
     let written : Part := match who with
       | .port p => { q with nvs := { q.nvs with failcounts := q.nvs.failcounts.set p v } }
       | .reader => { q with nvs := { q.nvs with readerFailed := v } }
     let gives := Gives (.failcountJobEnd true) s
     (lifting = false → gives written) ∧
     (∀ p : Port, who = .port p → lifting = true → stale = false → ¬ (s.part.prv.stationLimit ≠ 0 ∧ s.part.prv.stationLimit ≤ v) →
       s.part.psc.state ≠ .save →
       gives (Part.repliedTo { written with
         prv := { s.part.prv with counts := s.part.prv.counts.set p v }
         ports := s.part.ports.set p { s.part.ports[p] with admission :=
           let r := s.part.ports[p]
           if r.admission ≠ .barred then r.admission
           else if r.link = false then .dark
           else if r.parked then .parked
           else .listening } } o .done)) ∧
     (∀ p : Port, who = .port p → lifting = true → stale = false → s.part.prv.stationLimit ≠ 0 → s.part.prv.stationLimit ≤ v →
       s.part.psc.state ≠ .save →
       let t := Part.portEvaluated { written with
         prv := { s.part.prv with counts := s.part.prv.counts.set p v } } p
       gives (t.repliedTo o .done) ∧ t.ports[p].admission = .barred ∧ t.prv.counts[p] = v) ∧
     (who = .reader → lifting = true → stale = false → ¬ (s.part.prv.badgeLimit ≠ 0 ∧ s.part.prv.badgeLimit ≤ v) →
       s.part.psc.state ≠ .save →
       gives (Part.repliedTo { written with
         prv := { s.part.prv with
           readerCount := v, barTimer := if s.part.sva.reader = .barred then none else s.part.prv.barTimer }
         sva := { s.part.sva with
           reader := if s.part.sva.reader = .barred then .ready else s.part.sva.reader } } o .done)) ∧
     (who = .reader → lifting = true → stale = false → s.part.prv.badgeLimit ≠ 0 → s.part.prv.badgeLimit ≤ v →
       s.part.psc.state ≠ .save →
       let t := Part.readerEvaluated { written with prv := { s.part.prv with readerCount := v } }
       gives (t.repliedTo o .done) ∧ t.sva.reader = .barred ∧ t.prv.readerCount = v ∧
         (s.part.sva.reader = .barred → t.prv.barTimer = s.part.prv.barTimer)) ∧
     (lifting = true → stale = true → s.part.barringSound → gives (written.repliedTo o .done)) ∧
     (lifting = true → stale = false → s.part.psc.state = .save → gives (Part.repliedTo { written with
       prv := match who with
         | .port p => { s.part.prv with counts := s.part.prv.counts.set p v }
         | .reader => { s.part.prv with readerCount := v } } o .done)) ∧
     Gives (.failcountJobEnd false) s
       ((q.noticed (.storeFault (.failcount who v lifting stale))).repliedTo o .storeFault)) ∧
   (∀ (m : Vector MeterRec 28) (save : Bool) (o : List Nat) (s : State), s.part.hostReceives = true →
     s.part.nvs.inFlight = some ⟨.checkpoint (some m) save, o⟩ →
     let q := s.part.jobEnded
     let down : Part → Part := fun t => if save then { t with
         psc := { s.part.psc with
           linksDropped := true
           saveHold := if s.part.psc.supwarn then s.part.psc.saveHold else some (s.part.mtu.uptime + 10) }
         hlc := { t.hlc with sending := none } } else t
     Gives (.checkpointJobEnd true) s (down { q with
       nvs := { q.nvs with checkpoint := some m }
       mtu := { s.part.mtu with lastCheckpoint := some ⟨s.part.mtu.uptime, s.part.mtu.hall⟩ } }) ∧
     Gives (.checkpointJobEnd false) s (down (q.noticed (.storeFault (.checkpoint (some m) save))))) ∧
   ∀ (written : Bool) (s : State),
     let other : (JobBody → Prop) → Prop := fun kind => ∀ j, s.part.nvs.inFlight = some j → ¬ kind j.body
     let nothing : Instr → Prop := fun c => Gives c s s.part
     (other (fun b => ∃ v, b = .setting v) → nothing (.settingJobEnd written)) ∧
     (other (fun b => ∃ v, b = .lock v) → nothing (.lockJobEnd written)) ∧
     (other (fun b => b = .freeze) → nothing (.freezeJobEnd written)) ∧
     (other (fun b => ∃ v, b = .boundary v) → nothing (.boundaryJobEnd written)) ∧
     (other (fun b => ∃ v, b = .holdAdd v) → nothing (.holdAddJobEnd written)) ∧
     (other (fun b => ∃ p v, b = .holdRemove p v) → nothing (.holdRemoveJobEnd written)) ∧
     (other (fun b => ∃ p v, b = .threshold p v) → nothing (.thresholdJobEnd written)) ∧
     (other (fun b => ∃ w v l st, b = .failcount w v l st) → nothing (.failcountJobEnd written)) ∧
     (other (fun b => ∃ c save, b = .checkpoint c save) → nothing (.checkpointJobEnd written)))

end
end

