-- ==== Sys2Proof/Laws/State.lean ====
section
/-! SUPPORT. What each plain update of the part leaves and sets, field by field; every lemma holds by rfl. -/

namespace Sys2Proof.Machine

/-! ### modPort -/

@[simp] theorem modPort_ports (p : Port) (f : PortRec → PortRec) (s : Part) : (modPort p f s).ports = upd s.ports p f := rfl
@[simp] theorem modPort_psc (p : Port) (f : PortRec → PortRec) (s : Part) : (modPort p f s).psc = s.psc := rfl
@[simp] theorem modPort_hlc (p : Port) (f : PortRec → PortRec) (s : Part) : (modPort p f s).hlc = s.hlc := rfl
@[simp] theorem modPort_prv (p : Port) (f : PortRec → PortRec) (s : Part) : (modPort p f s).prv = s.prv := rfl
@[simp] theorem modPort_trk (p : Port) (f : PortRec → PortRec) (s : Part) : (modPort p f s).trk = s.trk := rfl
@[simp] theorem modPort_fco (p : Port) (f : PortRec → PortRec) (s : Part) : (modPort p f s).fco = s.fco := rfl
@[simp] theorem modPort_sva (p : Port) (f : PortRec → PortRec) (s : Part) : (modPort p f s).sva = s.sva := rfl
@[simp] theorem modPort_mtu (p : Port) (f : PortRec → PortRec) (s : Part) : (modPort p f s).mtu = s.mtu := rfl
@[simp] theorem modPort_nvs (p : Port) (f : PortRec → PortRec) (s : Part) : (modPort p f s).nvs = s.nvs := rfl

/-! ### modFeed -/

@[simp] theorem modFeed_fco (f : Feed) (g : FeedRec → FeedRec) (s : Part) : (modFeed f g s).fco = { s.fco with feeds := upd s.fco.feeds f g } := rfl
@[simp] theorem modFeed_psc (f : Feed) (g : FeedRec → FeedRec) (s : Part) : (modFeed f g s).psc = s.psc := rfl
@[simp] theorem modFeed_hlc (f : Feed) (g : FeedRec → FeedRec) (s : Part) : (modFeed f g s).hlc = s.hlc := rfl
@[simp] theorem modFeed_ports (f : Feed) (g : FeedRec → FeedRec) (s : Part) : (modFeed f g s).ports = s.ports := rfl
@[simp] theorem modFeed_prv (f : Feed) (g : FeedRec → FeedRec) (s : Part) : (modFeed f g s).prv = s.prv := rfl
@[simp] theorem modFeed_trk (f : Feed) (g : FeedRec → FeedRec) (s : Part) : (modFeed f g s).trk = s.trk := rfl
@[simp] theorem modFeed_sva (f : Feed) (g : FeedRec → FeedRec) (s : Part) : (modFeed f g s).sva = s.sva := rfl
@[simp] theorem modFeed_mtu (f : Feed) (g : FeedRec → FeedRec) (s : Part) : (modFeed f g s).mtu = s.mtu := rfl
@[simp] theorem modFeed_nvs (f : Feed) (g : FeedRec → FeedRec) (s : Part) : (modFeed f g s).nvs = s.nvs := rfl

/-! ### raise -/

@[simp] theorem raise_hlc (b : NoticeBody) (s : Part) : (raise b s).hlc = s.hlc.enqueue ⟨b, s.mtu.hall, s.trk.pitch⟩ := rfl
@[simp] theorem raise_psc (b : NoticeBody) (s : Part) : (raise b s).psc = s.psc := rfl
@[simp] theorem raise_ports (b : NoticeBody) (s : Part) : (raise b s).ports = s.ports := rfl
@[simp] theorem raise_prv (b : NoticeBody) (s : Part) : (raise b s).prv = s.prv := rfl
@[simp] theorem raise_trk (b : NoticeBody) (s : Part) : (raise b s).trk = s.trk := rfl
@[simp] theorem raise_fco (b : NoticeBody) (s : Part) : (raise b s).fco = s.fco := rfl
@[simp] theorem raise_sva (b : NoticeBody) (s : Part) : (raise b s).sva = s.sva := rfl
@[simp] theorem raise_mtu (b : NoticeBody) (s : Part) : (raise b s).mtu = s.mtu := rfl
@[simp] theorem raise_nvs (b : NoticeBody) (s : Part) : (raise b s).nvs = s.nvs := rfl

/-! ### reply -/

@[simp] theorem reply_hlc (h : Nat) (c : Code) (s : Part) : (reply h c s).hlc = s.hlc.reply h c [] := rfl
@[simp] theorem reply_psc (h : Nat) (c : Code) (s : Part) : (reply h c s).psc = s.psc := rfl
@[simp] theorem reply_ports (h : Nat) (c : Code) (s : Part) : (reply h c s).ports = s.ports := rfl
@[simp] theorem reply_prv (h : Nat) (c : Code) (s : Part) : (reply h c s).prv = s.prv := rfl
@[simp] theorem reply_trk (h : Nat) (c : Code) (s : Part) : (reply h c s).trk = s.trk := rfl
@[simp] theorem reply_fco (h : Nat) (c : Code) (s : Part) : (reply h c s).fco = s.fco := rfl
@[simp] theorem reply_sva (h : Nat) (c : Code) (s : Part) : (reply h c s).sva = s.sva := rfl
@[simp] theorem reply_mtu (h : Nat) (c : Code) (s : Part) : (reply h c s).mtu = s.mtu := rfl
@[simp] theorem reply_nvs (h : Nat) (c : Code) (s : Part) : (reply h c s).nvs = s.nvs := rfl

/-! ### replyWith -/

@[simp] theorem replyWith_hlc (h : Nat) (l : List Byte) (s : Part) : (replyWith h l s).hlc = s.hlc.reply h .done l := rfl
@[simp] theorem replyWith_psc (h : Nat) (l : List Byte) (s : Part) : (replyWith h l s).psc = s.psc := rfl
@[simp] theorem replyWith_ports (h : Nat) (l : List Byte) (s : Part) : (replyWith h l s).ports = s.ports := rfl
@[simp] theorem replyWith_prv (h : Nat) (l : List Byte) (s : Part) : (replyWith h l s).prv = s.prv := rfl
@[simp] theorem replyWith_trk (h : Nat) (l : List Byte) (s : Part) : (replyWith h l s).trk = s.trk := rfl
@[simp] theorem replyWith_fco (h : Nat) (l : List Byte) (s : Part) : (replyWith h l s).fco = s.fco := rfl
@[simp] theorem replyWith_sva (h : Nat) (l : List Byte) (s : Part) : (replyWith h l s).sva = s.sva := rfl
@[simp] theorem replyWith_mtu (h : Nat) (l : List Byte) (s : Part) : (replyWith h l s).mtu = s.mtu := rfl
@[simp] theorem replyWith_nvs (h : Nat) (l : List Byte) (s : Part) : (replyWith h l s).nvs = s.nvs := rfl

/-! ### enterRequest -/

@[simp] theorem enterRequest_psc (k : ReqKind) (t : Byte) (d : List Byte) (s : Part) : (enterRequest k t d s).psc = s.psc := rfl
@[simp] theorem enterRequest_ports (k : ReqKind) (t : Byte) (d : List Byte) (s : Part) : (enterRequest k t d s).ports = s.ports := rfl
@[simp] theorem enterRequest_prv (k : ReqKind) (t : Byte) (d : List Byte) (s : Part) : (enterRequest k t d s).prv = s.prv := rfl
@[simp] theorem enterRequest_trk (k : ReqKind) (t : Byte) (d : List Byte) (s : Part) : (enterRequest k t d s).trk = s.trk := rfl
@[simp] theorem enterRequest_fco (k : ReqKind) (t : Byte) (d : List Byte) (s : Part) : (enterRequest k t d s).fco = s.fco := rfl
@[simp] theorem enterRequest_sva (k : ReqKind) (t : Byte) (d : List Byte) (s : Part) : (enterRequest k t d s).sva = s.sva := rfl
@[simp] theorem enterRequest_mtu (k : ReqKind) (t : Byte) (d : List Byte) (s : Part) : (enterRequest k t d s).mtu = s.mtu := rfl
@[simp] theorem enterRequest_nvs (k : ReqKind) (t : Byte) (d : List Byte) (s : Part) : (enterRequest k t d s).nvs = s.nvs := rfl

/-! ### emptyNotices -/

@[simp] theorem emptyNotices_psc (s : Part) : (emptyNotices s).psc = s.psc := rfl
@[simp] theorem emptyNotices_ports (s : Part) : (emptyNotices s).ports = s.ports := rfl
@[simp] theorem emptyNotices_prv (s : Part) : (emptyNotices s).prv = s.prv := rfl
@[simp] theorem emptyNotices_trk (s : Part) : (emptyNotices s).trk = s.trk := rfl
@[simp] theorem emptyNotices_fco (s : Part) : (emptyNotices s).fco = s.fco := rfl
@[simp] theorem emptyNotices_sva (s : Part) : (emptyNotices s).sva = s.sva := rfl
@[simp] theorem emptyNotices_mtu (s : Part) : (emptyNotices s).mtu = s.mtu := rfl
@[simp] theorem emptyNotices_nvs (s : Part) : (emptyNotices s).nvs = s.nvs := rfl

/-! ### askTrk -/

@[simp] theorem askTrk_fco (m : FillRequest) (s : Part) : (askTrk m s).fco = { s.fco with toTrk := s.fco.toTrk ++ [m] } := rfl
@[simp] theorem askTrk_psc (m : FillRequest) (s : Part) : (askTrk m s).psc = s.psc := rfl
@[simp] theorem askTrk_hlc (m : FillRequest) (s : Part) : (askTrk m s).hlc = s.hlc := rfl
@[simp] theorem askTrk_ports (m : FillRequest) (s : Part) : (askTrk m s).ports = s.ports := rfl
@[simp] theorem askTrk_prv (m : FillRequest) (s : Part) : (askTrk m s).prv = s.prv := rfl
@[simp] theorem askTrk_trk (m : FillRequest) (s : Part) : (askTrk m s).trk = s.trk := rfl
@[simp] theorem askTrk_sva (m : FillRequest) (s : Part) : (askTrk m s).sva = s.sva := rfl
@[simp] theorem askTrk_mtu (m : FillRequest) (s : Part) : (askTrk m s).mtu = s.mtu := rfl
@[simp] theorem askTrk_nvs (m : FillRequest) (s : Part) : (askTrk m s).nvs = s.nvs := rfl

/-! ### tellFco -/

@[simp] theorem tellFco_fco (m : TrkMessage) (s : Part) : (tellFco m s).fco = { s.fco with toFco := s.fco.toFco ++ [m] } := rfl
@[simp] theorem tellFco_psc (m : TrkMessage) (s : Part) : (tellFco m s).psc = s.psc := rfl
@[simp] theorem tellFco_hlc (m : TrkMessage) (s : Part) : (tellFco m s).hlc = s.hlc := rfl
@[simp] theorem tellFco_ports (m : TrkMessage) (s : Part) : (tellFco m s).ports = s.ports := rfl
@[simp] theorem tellFco_prv (m : TrkMessage) (s : Part) : (tellFco m s).prv = s.prv := rfl
@[simp] theorem tellFco_trk (m : TrkMessage) (s : Part) : (tellFco m s).trk = s.trk := rfl
@[simp] theorem tellFco_sva (m : TrkMessage) (s : Part) : (tellFco m s).sva = s.sva := rfl
@[simp] theorem tellFco_mtu (m : TrkMessage) (s : Part) : (tellFco m s).mtu = s.mtu := rfl
@[simp] theorem tellFco_nvs (m : TrkMessage) (s : Part) : (tellFco m s).nvs = s.nvs := rfl

/-! ### setFeed -/

@[simp] theorem setFeed_psc (f : Feed) (st : FeedState) (s : Part) : (setFeed f st s).psc = s.psc := rfl
@[simp] theorem setFeed_hlc (f : Feed) (st : FeedState) (s : Part) : (setFeed f st s).hlc = s.hlc := rfl
@[simp] theorem setFeed_ports (f : Feed) (st : FeedState) (s : Part) : (setFeed f st s).ports = s.ports := rfl
@[simp] theorem setFeed_prv (f : Feed) (st : FeedState) (s : Part) : (setFeed f st s).prv = s.prv := rfl
@[simp] theorem setFeed_trk (f : Feed) (st : FeedState) (s : Part) : (setFeed f st s).trk = s.trk := rfl
@[simp] theorem setFeed_sva (f : Feed) (st : FeedState) (s : Part) : (setFeed f st s).sva = s.sva := rfl
@[simp] theorem setFeed_mtu (f : Feed) (st : FeedState) (s : Part) : (setFeed f st s).mtu = s.mtu := rfl
@[simp] theorem setFeed_nvs (f : Feed) (st : FeedState) (s : Part) : (setFeed f st s).nvs = s.nvs := rfl

/-! ### setQueue -/

@[simp] theorem setQueue_psc (f : Feed) (q : List QueueEntry) (s : Part) : (setQueue f q s).psc = s.psc := rfl
@[simp] theorem setQueue_hlc (f : Feed) (q : List QueueEntry) (s : Part) : (setQueue f q s).hlc = s.hlc := rfl
@[simp] theorem setQueue_ports (f : Feed) (q : List QueueEntry) (s : Part) : (setQueue f q s).ports = s.ports := rfl
@[simp] theorem setQueue_prv (f : Feed) (q : List QueueEntry) (s : Part) : (setQueue f q s).prv = s.prv := rfl
@[simp] theorem setQueue_trk (f : Feed) (q : List QueueEntry) (s : Part) : (setQueue f q s).trk = s.trk := rfl
@[simp] theorem setQueue_sva (f : Feed) (q : List QueueEntry) (s : Part) : (setQueue f q s).sva = s.sva := rfl
@[simp] theorem setQueue_mtu (f : Feed) (q : List QueueEntry) (s : Part) : (setQueue f q s).mtu = s.mtu := rfl
@[simp] theorem setQueue_nvs (f : Feed) (q : List QueueEntry) (s : Part) : (setQueue f q s).nvs = s.nvs := rfl

/-! ### setNote -/

@[simp] theorem setNote_fco (p : Port) (n : Option LateNote) (s : Part) : (setNote p n s).fco = { s.fco with notes := s.fco.notes.set p n } := rfl
@[simp] theorem setNote_psc (p : Port) (n : Option LateNote) (s : Part) : (setNote p n s).psc = s.psc := rfl
@[simp] theorem setNote_hlc (p : Port) (n : Option LateNote) (s : Part) : (setNote p n s).hlc = s.hlc := rfl
@[simp] theorem setNote_ports (p : Port) (n : Option LateNote) (s : Part) : (setNote p n s).ports = s.ports := rfl
@[simp] theorem setNote_prv (p : Port) (n : Option LateNote) (s : Part) : (setNote p n s).prv = s.prv := rfl
@[simp] theorem setNote_trk (p : Port) (n : Option LateNote) (s : Part) : (setNote p n s).trk = s.trk := rfl
@[simp] theorem setNote_sva (p : Port) (n : Option LateNote) (s : Part) : (setNote p n s).sva = s.sva := rfl
@[simp] theorem setNote_mtu (p : Port) (n : Option LateNote) (s : Part) : (setNote p n s).mtu = s.mtu := rfl
@[simp] theorem setNote_nvs (p : Port) (n : Option LateNote) (s : Part) : (setNote p n s).nvs = s.nvs := rfl

/-! ### voidClaim -/

@[simp] theorem voidClaim_psc (p : Port) (v : Void) (s : Part) : (voidClaim p v s).psc = s.psc := rfl
@[simp] theorem voidClaim_hlc (p : Port) (v : Void) (s : Part) : (voidClaim p v s).hlc = s.hlc := rfl
@[simp] theorem voidClaim_ports (p : Port) (v : Void) (s : Part) : (voidClaim p v s).ports = s.ports := rfl
@[simp] theorem voidClaim_prv (p : Port) (v : Void) (s : Part) : (voidClaim p v s).prv = s.prv := rfl
@[simp] theorem voidClaim_trk (p : Port) (v : Void) (s : Part) : (voidClaim p v s).trk = s.trk := rfl
@[simp] theorem voidClaim_sva (p : Port) (v : Void) (s : Part) : (voidClaim p v s).sva = s.sva := rfl
@[simp] theorem voidClaim_mtu (p : Port) (v : Void) (s : Part) : (voidClaim p v s).mtu = s.mtu := rfl
@[simp] theorem voidClaim_nvs (p : Port) (v : Void) (s : Part) : (voidClaim p v s).nvs = s.nvs := rfl

/-! ### voidFeedClaims -/

@[simp] theorem voidFeedClaims_psc (f : Feed) (s : Part) : (voidFeedClaims f s).psc = s.psc := rfl
@[simp] theorem voidFeedClaims_hlc (f : Feed) (s : Part) : (voidFeedClaims f s).hlc = s.hlc := rfl
@[simp] theorem voidFeedClaims_ports (f : Feed) (s : Part) : (voidFeedClaims f s).ports = s.ports := rfl
@[simp] theorem voidFeedClaims_prv (f : Feed) (s : Part) : (voidFeedClaims f s).prv = s.prv := rfl
@[simp] theorem voidFeedClaims_trk (f : Feed) (s : Part) : (voidFeedClaims f s).trk = s.trk := rfl
@[simp] theorem voidFeedClaims_sva (f : Feed) (s : Part) : (voidFeedClaims f s).sva = s.sva := rfl
@[simp] theorem voidFeedClaims_mtu (f : Feed) (s : Part) : (voidFeedClaims f s).mtu = s.mtu := rfl
@[simp] theorem voidFeedClaims_nvs (f : Feed) (s : Part) : (voidFeedClaims f s).nvs = s.nvs := rfl

/-! ### saveFco -/

@[simp] theorem saveFco_psc (s : Part) : (saveFco s).psc = s.psc := rfl
@[simp] theorem saveFco_hlc (s : Part) : (saveFco s).hlc = s.hlc := rfl
@[simp] theorem saveFco_ports (s : Part) : (saveFco s).ports = s.ports := rfl
@[simp] theorem saveFco_prv (s : Part) : (saveFco s).prv = s.prv := rfl
@[simp] theorem saveFco_trk (s : Part) : (saveFco s).trk = s.trk := rfl
@[simp] theorem saveFco_sva (s : Part) : (saveFco s).sva = s.sva := rfl
@[simp] theorem saveFco_mtu (s : Part) : (saveFco s).mtu = s.mtu := rfl
@[simp] theorem saveFco_nvs (s : Part) : (saveFco s).nvs = s.nvs := rfl

/-! ### drainBegins -/

@[simp] theorem drainBegins_sva (p : Port) (s : Part) : (drainBegins p s).sva = { s.sva with draining := s.sva.draining.set p true } := rfl
@[simp] theorem drainBegins_psc (p : Port) (s : Part) : (drainBegins p s).psc = s.psc := rfl
@[simp] theorem drainBegins_hlc (p : Port) (s : Part) : (drainBegins p s).hlc = s.hlc := rfl
@[simp] theorem drainBegins_ports (p : Port) (s : Part) : (drainBegins p s).ports = s.ports := rfl
@[simp] theorem drainBegins_prv (p : Port) (s : Part) : (drainBegins p s).prv = s.prv := rfl
@[simp] theorem drainBegins_trk (p : Port) (s : Part) : (drainBegins p s).trk = s.trk := rfl
@[simp] theorem drainBegins_fco (p : Port) (s : Part) : (drainBegins p s).fco = s.fco := rfl
@[simp] theorem drainBegins_mtu (p : Port) (s : Part) : (drainBegins p s).mtu = s.mtu := rfl
@[simp] theorem drainBegins_nvs (p : Port) (s : Part) : (drainBegins p s).nvs = s.nvs := rfl

/-! ### restartIdle -/

@[simp] theorem restartIdle_psc (n : Byte) (s : Part) : (restartIdle n s).psc = s.psc := rfl
@[simp] theorem restartIdle_hlc (n : Byte) (s : Part) : (restartIdle n s).hlc = s.hlc := rfl
@[simp] theorem restartIdle_ports (n : Byte) (s : Part) : (restartIdle n s).ports = s.ports := rfl
@[simp] theorem restartIdle_prv (n : Byte) (s : Part) : (restartIdle n s).prv = s.prv := rfl
@[simp] theorem restartIdle_trk (n : Byte) (s : Part) : (restartIdle n s).trk = s.trk := rfl
@[simp] theorem restartIdle_fco (n : Byte) (s : Part) : (restartIdle n s).fco = s.fco := rfl
@[simp] theorem restartIdle_mtu (n : Byte) (s : Part) : (restartIdle n s).mtu = s.mtu := rfl
@[simp] theorem restartIdle_nvs (n : Byte) (s : Part) : (restartIdle n s).nvs = s.nvs := rfl

/-! ### addHold -/

@[simp] theorem addHold_sva (p : Port) (x : Hold) (s : Part) : (addHold p x s).sva = { s.sva with holders := upd s.sva.holders p (· ++ [x]) } := rfl
@[simp] theorem addHold_psc (p : Port) (x : Hold) (s : Part) : (addHold p x s).psc = s.psc := rfl
@[simp] theorem addHold_hlc (p : Port) (x : Hold) (s : Part) : (addHold p x s).hlc = s.hlc := rfl
@[simp] theorem addHold_ports (p : Port) (x : Hold) (s : Part) : (addHold p x s).ports = s.ports := rfl
@[simp] theorem addHold_prv (p : Port) (x : Hold) (s : Part) : (addHold p x s).prv = s.prv := rfl
@[simp] theorem addHold_trk (p : Port) (x : Hold) (s : Part) : (addHold p x s).trk = s.trk := rfl
@[simp] theorem addHold_fco (p : Port) (x : Hold) (s : Part) : (addHold p x s).fco = s.fco := rfl
@[simp] theorem addHold_mtu (p : Port) (x : Hold) (s : Part) : (addHold p x s).mtu = s.mtu := rfl
@[simp] theorem addHold_nvs (p : Port) (x : Hold) (s : Part) : (addHold p x s).nvs = s.nvs := rfl

/-! ### modHold -/

@[simp] theorem modHold_psc (p : Port) (b : Word) (f : Hold → Hold) (s : Part) : (modHold p b f s).psc = s.psc := rfl
@[simp] theorem modHold_hlc (p : Port) (b : Word) (f : Hold → Hold) (s : Part) : (modHold p b f s).hlc = s.hlc := rfl
@[simp] theorem modHold_ports (p : Port) (b : Word) (f : Hold → Hold) (s : Part) : (modHold p b f s).ports = s.ports := rfl
@[simp] theorem modHold_prv (p : Port) (b : Word) (f : Hold → Hold) (s : Part) : (modHold p b f s).prv = s.prv := rfl
@[simp] theorem modHold_trk (p : Port) (b : Word) (f : Hold → Hold) (s : Part) : (modHold p b f s).trk = s.trk := rfl
@[simp] theorem modHold_fco (p : Port) (b : Word) (f : Hold → Hold) (s : Part) : (modHold p b f s).fco = s.fco := rfl
@[simp] theorem modHold_mtu (p : Port) (b : Word) (f : Hold → Hold) (s : Part) : (modHold p b f s).mtu = s.mtu := rfl
@[simp] theorem modHold_nvs (p : Port) (b : Word) (f : Hold → Hold) (s : Part) : (modHold p b f s).nvs = s.nvs := rfl

/-! ### dropLockouts -/

@[simp] theorem dropLockouts_psc (o : List Nat) (s : Part) : (dropLockouts o s).psc = s.psc := rfl
@[simp] theorem dropLockouts_hlc (o : List Nat) (s : Part) : (dropLockouts o s).hlc = s.hlc := rfl
@[simp] theorem dropLockouts_ports (o : List Nat) (s : Part) : (dropLockouts o s).ports = s.ports := rfl
@[simp] theorem dropLockouts_prv (o : List Nat) (s : Part) : (dropLockouts o s).prv = s.prv := rfl
@[simp] theorem dropLockouts_trk (o : List Nat) (s : Part) : (dropLockouts o s).trk = s.trk := rfl
@[simp] theorem dropLockouts_fco (o : List Nat) (s : Part) : (dropLockouts o s).fco = s.fco := rfl
@[simp] theorem dropLockouts_mtu (o : List Nat) (s : Part) : (dropLockouts o s).mtu = s.mtu := rfl
@[simp] theorem dropLockouts_nvs (o : List Nat) (s : Part) : (dropLockouts o s).nvs = s.nvs := rfl

/-! ### saveSva -/

@[simp] theorem saveSva_psc (s : Part) : (saveSva s).psc = s.psc := rfl
@[simp] theorem saveSva_hlc (s : Part) : (saveSva s).hlc = s.hlc := rfl
@[simp] theorem saveSva_ports (s : Part) : (saveSva s).ports = s.ports := rfl
@[simp] theorem saveSva_prv (s : Part) : (saveSva s).prv = s.prv := rfl
@[simp] theorem saveSva_trk (s : Part) : (saveSva s).trk = s.trk := rfl
@[simp] theorem saveSva_fco (s : Part) : (saveSva s).fco = s.fco := rfl
@[simp] theorem saveSva_mtu (s : Part) : (saveSva s).mtu = s.mtu := rfl
@[simp] theorem saveSva_nvs (s : Part) : (saveSva s).nvs = s.nvs := rfl

/-! ### queueJob -/

@[simp] theorem queueJob_nvs (b : JobBody) (o : List Nat) (s : Part) : (queueJob b o s).nvs = { s.nvs with queue := s.nvs.queue ++ [⟨b, o⟩] } := rfl
@[simp] theorem queueJob_psc (b : JobBody) (o : List Nat) (s : Part) : (queueJob b o s).psc = s.psc := rfl
@[simp] theorem queueJob_hlc (b : JobBody) (o : List Nat) (s : Part) : (queueJob b o s).hlc = s.hlc := rfl
@[simp] theorem queueJob_ports (b : JobBody) (o : List Nat) (s : Part) : (queueJob b o s).ports = s.ports := rfl
@[simp] theorem queueJob_prv (b : JobBody) (o : List Nat) (s : Part) : (queueJob b o s).prv = s.prv := rfl
@[simp] theorem queueJob_trk (b : JobBody) (o : List Nat) (s : Part) : (queueJob b o s).trk = s.trk := rfl
@[simp] theorem queueJob_fco (b : JobBody) (o : List Nat) (s : Part) : (queueJob b o s).fco = s.fco := rfl
@[simp] theorem queueJob_sva (b : JobBody) (o : List Nat) (s : Part) : (queueJob b o s).sva = s.sva := rfl
@[simp] theorem queueJob_mtu (b : JobBody) (o : List Nat) (s : Part) : (queueJob b o s).mtu = s.mtu := rfl

/-! ### setInFlight -/

@[simp] theorem setInFlight_nvs (j : Job) (s : Part) : (setInFlight j s).nvs = { s.nvs with inFlight := some j } := rfl
@[simp] theorem setInFlight_psc (j : Job) (s : Part) : (setInFlight j s).psc = s.psc := rfl
@[simp] theorem setInFlight_hlc (j : Job) (s : Part) : (setInFlight j s).hlc = s.hlc := rfl
@[simp] theorem setInFlight_ports (j : Job) (s : Part) : (setInFlight j s).ports = s.ports := rfl
@[simp] theorem setInFlight_prv (j : Job) (s : Part) : (setInFlight j s).prv = s.prv := rfl
@[simp] theorem setInFlight_trk (j : Job) (s : Part) : (setInFlight j s).trk = s.trk := rfl
@[simp] theorem setInFlight_fco (j : Job) (s : Part) : (setInFlight j s).fco = s.fco := rfl
@[simp] theorem setInFlight_sva (j : Job) (s : Part) : (setInFlight j s).sva = s.sva := rfl
@[simp] theorem setInFlight_mtu (j : Job) (s : Part) : (setInFlight j s).mtu = s.mtu := rfl

/-! ### saveNvs -/

@[simp] theorem saveNvs_nvs (s : Part) : (saveNvs s).nvs = { s.nvs with queue := [], deferred := [], saveDue := true } := rfl
@[simp] theorem saveNvs_psc (s : Part) : (saveNvs s).psc = s.psc := rfl
@[simp] theorem saveNvs_hlc (s : Part) : (saveNvs s).hlc = s.hlc := rfl
@[simp] theorem saveNvs_ports (s : Part) : (saveNvs s).ports = s.ports := rfl
@[simp] theorem saveNvs_prv (s : Part) : (saveNvs s).prv = s.prv := rfl
@[simp] theorem saveNvs_trk (s : Part) : (saveNvs s).trk = s.trk := rfl
@[simp] theorem saveNvs_fco (s : Part) : (saveNvs s).fco = s.fco := rfl
@[simp] theorem saveNvs_sva (s : Part) : (saveNvs s).sva = s.sva := rfl
@[simp] theorem saveNvs_mtu (s : Part) : (saveNvs s).mtu = s.mtu := rfl

/-! ### setAdmission -/

@[simp] theorem setAdmission_psc (p : Port) (a : Admission) (s : Part) : (setAdmission p a s).psc = s.psc := rfl
@[simp] theorem setAdmission_hlc (p : Port) (a : Admission) (s : Part) : (setAdmission p a s).hlc = s.hlc := rfl
@[simp] theorem setAdmission_prv (p : Port) (a : Admission) (s : Part) : (setAdmission p a s).prv = s.prv := rfl
@[simp] theorem setAdmission_trk (p : Port) (a : Admission) (s : Part) : (setAdmission p a s).trk = s.trk := rfl
@[simp] theorem setAdmission_fco (p : Port) (a : Admission) (s : Part) : (setAdmission p a s).fco = s.fco := rfl
@[simp] theorem setAdmission_sva (p : Port) (a : Admission) (s : Part) : (setAdmission p a s).sva = s.sva := rfl
@[simp] theorem setAdmission_mtu (p : Port) (a : Admission) (s : Part) : (setAdmission p a s).mtu = s.mtu := rfl
@[simp] theorem setAdmission_nvs (p : Port) (a : Admission) (s : Part) : (setAdmission p a s).nvs = s.nvs := rfl

/-! ### loadBinding -/

@[simp] theorem loadBinding_psc (p : Port) (s : Part) : (loadBinding p s).psc = s.psc := rfl
@[simp] theorem loadBinding_hlc (p : Port) (s : Part) : (loadBinding p s).hlc = s.hlc := rfl
@[simp] theorem loadBinding_prv (p : Port) (s : Part) : (loadBinding p s).prv = s.prv := rfl
@[simp] theorem loadBinding_trk (p : Port) (s : Part) : (loadBinding p s).trk = s.trk := rfl
@[simp] theorem loadBinding_fco (p : Port) (s : Part) : (loadBinding p s).fco = s.fco := rfl
@[simp] theorem loadBinding_sva (p : Port) (s : Part) : (loadBinding p s).sva = s.sva := rfl
@[simp] theorem loadBinding_mtu (p : Port) (s : Part) : (loadBinding p s).mtu = s.mtu := rfl
@[simp] theorem loadBinding_nvs (p : Port) (s : Part) : (loadBinding p s).nvs = s.nvs := rfl

/-! ### saveSpx -/

@[simp] theorem saveSpx_psc (s : Part) : (saveSpx s).psc = s.psc := rfl
@[simp] theorem saveSpx_hlc (s : Part) : (saveSpx s).hlc = s.hlc := rfl
@[simp] theorem saveSpx_prv (s : Part) : (saveSpx s).prv = s.prv := rfl
@[simp] theorem saveSpx_trk (s : Part) : (saveSpx s).trk = s.trk := rfl
@[simp] theorem saveSpx_fco (s : Part) : (saveSpx s).fco = s.fco := rfl
@[simp] theorem saveSpx_sva (s : Part) : (saveSpx s).sva = s.sva := rfl
@[simp] theorem saveSpx_mtu (s : Part) : (saveSpx s).mtu = s.mtu := rfl
@[simp] theorem saveSpx_nvs (s : Part) : (saveSpx s).nvs = s.nvs := rfl

/-! ### endContext -/

@[simp] theorem endContext_prv (p : Port) (s : Part) : (endContext p s).prv = { s.prv with contexts := s.prv.contexts.set p none } := rfl
@[simp] theorem endContext_psc (p : Port) (s : Part) : (endContext p s).psc = s.psc := rfl
@[simp] theorem endContext_hlc (p : Port) (s : Part) : (endContext p s).hlc = s.hlc := rfl
@[simp] theorem endContext_ports (p : Port) (s : Part) : (endContext p s).ports = s.ports := rfl
@[simp] theorem endContext_trk (p : Port) (s : Part) : (endContext p s).trk = s.trk := rfl
@[simp] theorem endContext_fco (p : Port) (s : Part) : (endContext p s).fco = s.fco := rfl
@[simp] theorem endContext_sva (p : Port) (s : Part) : (endContext p s).sva = s.sva := rfl
@[simp] theorem endContext_mtu (p : Port) (s : Part) : (endContext p s).mtu = s.mtu := rfl
@[simp] theorem endContext_nvs (p : Port) (s : Part) : (endContext p s).nvs = s.nvs := rfl

/-! ### endContexts -/

@[simp] theorem endContexts_prv (s : Part) : (endContexts s).prv = { s.prv with contexts := Vector.replicate 12 none, readerContext := none } := rfl
@[simp] theorem endContexts_psc (s : Part) : (endContexts s).psc = s.psc := rfl
@[simp] theorem endContexts_hlc (s : Part) : (endContexts s).hlc = s.hlc := rfl
@[simp] theorem endContexts_ports (s : Part) : (endContexts s).ports = s.ports := rfl
@[simp] theorem endContexts_trk (s : Part) : (endContexts s).trk = s.trk := rfl
@[simp] theorem endContexts_fco (s : Part) : (endContexts s).fco = s.fco := rfl
@[simp] theorem endContexts_sva (s : Part) : (endContexts s).sva = s.sva := rfl
@[simp] theorem endContexts_mtu (s : Part) : (endContexts s).mtu = s.mtu := rfl
@[simp] theorem endContexts_nvs (s : Part) : (endContexts s).nvs = s.nvs := rfl

/-! ### loadAttemptLimits -/

@[simp] theorem loadAttemptLimits_psc (s : Part) : (loadAttemptLimits s).psc = s.psc := rfl
@[simp] theorem loadAttemptLimits_hlc (s : Part) : (loadAttemptLimits s).hlc = s.hlc := rfl
@[simp] theorem loadAttemptLimits_ports (s : Part) : (loadAttemptLimits s).ports = s.ports := rfl
@[simp] theorem loadAttemptLimits_trk (s : Part) : (loadAttemptLimits s).trk = s.trk := rfl
@[simp] theorem loadAttemptLimits_fco (s : Part) : (loadAttemptLimits s).fco = s.fco := rfl
@[simp] theorem loadAttemptLimits_sva (s : Part) : (loadAttemptLimits s).sva = s.sva := rfl
@[simp] theorem loadAttemptLimits_mtu (s : Part) : (loadAttemptLimits s).mtu = s.mtu := rfl
@[simp] theorem loadAttemptLimits_nvs (s : Part) : (loadAttemptLimits s).nvs = s.nvs := rfl

/-! ### savePrv -/

@[simp] theorem savePrv_psc (s : Part) : (savePrv s).psc = s.psc := rfl
@[simp] theorem savePrv_hlc (s : Part) : (savePrv s).hlc = s.hlc := rfl
@[simp] theorem savePrv_ports (s : Part) : (savePrv s).ports = s.ports := rfl
@[simp] theorem savePrv_trk (s : Part) : (savePrv s).trk = s.trk := rfl
@[simp] theorem savePrv_fco (s : Part) : (savePrv s).fco = s.fco := rfl
@[simp] theorem savePrv_sva (s : Part) : (savePrv s).sva = s.sva := rfl
@[simp] theorem savePrv_mtu (s : Part) : (savePrv s).mtu = s.mtu := rfl
@[simp] theorem savePrv_nvs (s : Part) : (savePrv s).nvs = s.nvs := rfl

/-! ### setHall -/

@[simp] theorem setHall_mtu (d : List Byte) (s : Part) : (setHall d s).mtu = { s.mtu with hall := ⟨BitVec.ofNat 48 (numberAt d 0 6), false⟩ } := rfl
@[simp] theorem setHall_psc (d : List Byte) (s : Part) : (setHall d s).psc = s.psc := rfl
@[simp] theorem setHall_hlc (d : List Byte) (s : Part) : (setHall d s).hlc = s.hlc := rfl
@[simp] theorem setHall_ports (d : List Byte) (s : Part) : (setHall d s).ports = s.ports := rfl
@[simp] theorem setHall_prv (d : List Byte) (s : Part) : (setHall d s).prv = s.prv := rfl
@[simp] theorem setHall_trk (d : List Byte) (s : Part) : (setHall d s).trk = s.trk := rfl
@[simp] theorem setHall_fco (d : List Byte) (s : Part) : (setHall d s).fco = s.fco := rfl
@[simp] theorem setHall_sva (d : List Byte) (s : Part) : (setHall d s).sva = s.sva := rfl
@[simp] theorem setHall_nvs (d : List Byte) (s : Part) : (setHall d s).nvs = s.nvs := rfl

/-! ### startCheckpointTimer -/

@[simp] theorem startCheckpointTimer_mtu (s : Part) : (startCheckpointTimer s).mtu = { s.mtu with checkpointTimer := s.timer (s.mtu.checkpointPeriod * Config.second) } := rfl
@[simp] theorem startCheckpointTimer_psc (s : Part) : (startCheckpointTimer s).psc = s.psc := rfl
@[simp] theorem startCheckpointTimer_hlc (s : Part) : (startCheckpointTimer s).hlc = s.hlc := rfl
@[simp] theorem startCheckpointTimer_ports (s : Part) : (startCheckpointTimer s).ports = s.ports := rfl
@[simp] theorem startCheckpointTimer_prv (s : Part) : (startCheckpointTimer s).prv = s.prv := rfl
@[simp] theorem startCheckpointTimer_trk (s : Part) : (startCheckpointTimer s).trk = s.trk := rfl
@[simp] theorem startCheckpointTimer_fco (s : Part) : (startCheckpointTimer s).fco = s.fco := rfl
@[simp] theorem startCheckpointTimer_sva (s : Part) : (startCheckpointTimer s).sva = s.sva := rfl
@[simp] theorem startCheckpointTimer_nvs (s : Part) : (startCheckpointTimer s).nvs = s.nvs := rfl

/-! ### saveMtu -/

@[simp] theorem saveMtu_mtu (s : Part) : (saveMtu s).mtu = { s.mtu with checkpointTimer := none } := rfl
@[simp] theorem saveMtu_psc (s : Part) : (saveMtu s).psc = s.psc := rfl
@[simp] theorem saveMtu_hlc (s : Part) : (saveMtu s).hlc = s.hlc := rfl
@[simp] theorem saveMtu_ports (s : Part) : (saveMtu s).ports = s.ports := rfl
@[simp] theorem saveMtu_prv (s : Part) : (saveMtu s).prv = s.prv := rfl
@[simp] theorem saveMtu_trk (s : Part) : (saveMtu s).trk = s.trk := rfl
@[simp] theorem saveMtu_fco (s : Part) : (saveMtu s).fco = s.fco := rfl
@[simp] theorem saveMtu_sva (s : Part) : (saveMtu s).sva = s.sva := rfl
@[simp] theorem saveMtu_nvs (s : Part) : (saveMtu s).nvs = s.nvs := rfl

/-! ### startSaveHold -/

@[simp] theorem startSaveHold_psc (s : Part) : (startSaveHold s).psc = { s.psc with saveHold := s.timer Config.saveHoldTime } := rfl
@[simp] theorem startSaveHold_hlc (s : Part) : (startSaveHold s).hlc = s.hlc := rfl
@[simp] theorem startSaveHold_ports (s : Part) : (startSaveHold s).ports = s.ports := rfl
@[simp] theorem startSaveHold_prv (s : Part) : (startSaveHold s).prv = s.prv := rfl
@[simp] theorem startSaveHold_trk (s : Part) : (startSaveHold s).trk = s.trk := rfl
@[simp] theorem startSaveHold_fco (s : Part) : (startSaveHold s).fco = s.fco := rfl
@[simp] theorem startSaveHold_sva (s : Part) : (startSaveHold s).sva = s.sva := rfl
@[simp] theorem startSaveHold_mtu (s : Part) : (startSaveHold s).mtu = s.mtu := rfl
@[simp] theorem startSaveHold_nvs (s : Part) : (startSaveHold s).nvs = s.nvs := rfl

/-! ### modRecord -/

@[simp] theorem modRecord_psc (c : Half) (f : Record → Record) (s : Part) : (modRecord c f s).psc = s.psc := rfl
@[simp] theorem modRecord_hlc (c : Half) (f : Record → Record) (s : Part) : (modRecord c f s).hlc = s.hlc := rfl
@[simp] theorem modRecord_ports (c : Half) (f : Record → Record) (s : Part) : (modRecord c f s).ports = s.ports := rfl
@[simp] theorem modRecord_prv (c : Half) (f : Record → Record) (s : Part) : (modRecord c f s).prv = s.prv := rfl
@[simp] theorem modRecord_fco (c : Half) (f : Record → Record) (s : Part) : (modRecord c f s).fco = s.fco := rfl
@[simp] theorem modRecord_sva (c : Half) (f : Record → Record) (s : Part) : (modRecord c f s).sva = s.sva := rfl
@[simp] theorem modRecord_mtu (c : Half) (f : Record → Record) (s : Part) : (modRecord c f s).mtu = s.mtu := rfl
@[simp] theorem modRecord_nvs (c : Half) (f : Record → Record) (s : Part) : (modRecord c f s).nvs = s.nvs := rfl

/-! ### stopLine -/

@[simp] theorem stopLine_psc (s : Part) : (stopLine s).psc = s.psc := rfl
@[simp] theorem stopLine_hlc (s : Part) : (stopLine s).hlc = s.hlc := rfl
@[simp] theorem stopLine_ports (s : Part) : (stopLine s).ports = s.ports := rfl
@[simp] theorem stopLine_prv (s : Part) : (stopLine s).prv = s.prv := rfl
@[simp] theorem stopLine_fco (s : Part) : (stopLine s).fco = s.fco := rfl
@[simp] theorem stopLine_sva (s : Part) : (stopLine s).sva = s.sva := rfl
@[simp] theorem stopLine_mtu (s : Part) : (stopLine s).mtu = s.mtu := rfl
@[simp] theorem stopLine_nvs (s : Part) : (stopLine s).nvs = s.nvs := rfl

/-! ### startLinks -/

@[simp] theorem startLinks_psc (s : Part) : (startLinks s).psc = s.psc := rfl
@[simp] theorem startLinks_hlc (s : Part) : (startLinks s).hlc = s.hlc := rfl
@[simp] theorem startLinks_prv (s : Part) : (startLinks s).prv = s.prv := rfl
@[simp] theorem startLinks_trk (s : Part) : (startLinks s).trk = s.trk := rfl
@[simp] theorem startLinks_fco (s : Part) : (startLinks s).fco = s.fco := rfl
@[simp] theorem startLinks_sva (s : Part) : (startLinks s).sva = s.sva := rfl
@[simp] theorem startLinks_mtu (s : Part) : (startLinks s).mtu = s.mtu := rfl
@[simp] theorem startLinks_nvs (s : Part) : (startLinks s).nvs = s.nvs := rfl

/-! ### retakeCount -/

@[simp] theorem retakeCount_psc (w : Subject) (v : Nat) (s : Part) : (retakeCount w v s).psc = s.psc := rfl
@[simp] theorem retakeCount_hlc (w : Subject) (v : Nat) (s : Part) : (retakeCount w v s).hlc = s.hlc := rfl
@[simp] theorem retakeCount_ports (w : Subject) (v : Nat) (s : Part) : (retakeCount w v s).ports = s.ports := rfl
@[simp] theorem retakeCount_prv (w : Subject) (v : Nat) (s : Part) : (retakeCount w v s).prv = s.prv := rfl
@[simp] theorem retakeCount_trk (w : Subject) (v : Nat) (s : Part) : (retakeCount w v s).trk = s.trk := rfl
@[simp] theorem retakeCount_fco (w : Subject) (v : Nat) (s : Part) : (retakeCount w v s).fco = s.fco := rfl
@[simp] theorem retakeCount_sva (w : Subject) (v : Nat) (s : Part) : (retakeCount w v s).sva = s.sva := rfl
@[simp] theorem retakeCount_mtu (w : Subject) (v : Nat) (s : Part) : (retakeCount w v s).mtu = s.mtu := rfl

end Sys2Proof.Machine
end

