-- ==== Sys2Proof/Laws/Ops.lean ====
section
/-! SUPPORT. One lemma for each thing a shared operation can do, and the fields it leaves. -/

namespace Sys2Proof.Machine

/-! ### Vectors and lists of operations -/

/-- The changed vector, entry by entry. -/
@[simp] theorem upd_getElem {α : Type} {n : Nat} (v : Vector α n) (i : Fin n) (f : α → α) (j : Nat) (h : j < n) :
    (upd v i f)[j] = if i.val = j then f v[j] else v[j] := by
  unfold upd
  by_cases e : i.val = j
  · subst e; simp
  · rw [Vector.getElem_set_ne _ _ e]; simp [e]

theorem upd_get {α : Type} {n : Nat} (v : Vector α n) (i j : Fin n) (f : α → α) :
    (upd v i f)[j] = if i = j then f v[j] else v[j] := by
  simp [Fin.ext_iff]

theorem upd_self {α : Type} {n : Nat} (v : Vector α n) (i : Fin n) (f : α → α) : (upd v i f)[i] = f v[i] := by
  rw [upd_get, if_pos rfl]

theorem upd_ne {α : Type} {n : Nat} (v : Vector α n) {i j : Fin n} (f : α → α) (h : i ≠ j) : (upd v i f)[j] = v[j] := by
  rw [upd_get, if_neg h]

/-- A vector changed everywhere, entry by entry. -/
@[simp] theorem each_getElem {α : Type} {n : Nat} (v : Vector α n) (f : Fin n → α → α) (j : Nat) (h : j < n) :
    (each v f)[j] = f ⟨j, h⟩ v[j] := by
  simp [each]

theorem each_get {α : Type} {n : Nat} (v : Vector α n) (f : Fin n → α → α) (i : Fin n) : (each v f)[i] = f i v[i] := by
  simp

theorem set_get {α : Type} {n : Nat} (v : Vector α n) (i j : Fin n) (a : α) :
    (v.set i a)[j] = if i = j then a else v[j] := by
  by_cases h : i = j
  · subst h; simp
  · have e : i.val ≠ j.val := fun e => h (Fin.ext e)
    simp [Fin.ext_iff, e]

@[simp] theorem forEach_nil {α : Type} (f : α → Part → Part) (s : Part) : forEach [] f s = s := rfl

@[simp] theorem forEach_cons {α : Type} (a : α) (l : List α) (f : α → Part → Part) (s : Part) :
    forEach (a :: l) f s = forEach l f (f a s) := rfl

theorem forEach_append {α : Type} (l m : List α) (f : α → Part → Part) (s : Part) :
    forEach (l ++ m) f s = forEach m f (forEach l f s) := by
  simp [forEach, List.foldl_append]

/-- What every item's operation leaves, the whole leaves. -/
theorem forEach_leaves {α β : Type} (π : Part → β) (f : α → Part → Part) (h : ∀ a s, π (f a s) = π s) (l : List α) (s : Part) :
    π (forEach l f s) = π s := by
  induction l generalizing s with
  | nil => rfl
  | cons a l ih => simp [ih, h]

/-- What every item's operation keeps, the whole keeps. -/
theorem forEach_keeps {α : Type} (P : Part → Prop) (f : α → Part → Part) (l : List α)
    (h : ∀ a ∈ l, ∀ s, P s → P (f a s)) (s : Part) (hs : P s) : P (forEach l f s) := by
  induction l generalizing s with
  | nil => exact hs
  | cons a l ih =>
    exact ih (fun b hb => h b (List.mem_cons_of_mem a hb)) _ (h a List.mem_cons_self s hs)

/-! ### From the part to the machine -/

@[simp] theorem act_eq (f : Part → Part) (s : State) : act f s = .next { s with part := f s.part } := rfl

/-! ### immediate -/

/-- R183: the immediate reply joins the reply stream, unless eight already wait. -/
theorem immediate_eq (k t : Byte) (c : Code) (s : Part) :
    immediate k t c s =
      { s with hlc.replies :=
          if s.hlc.replies.countP (·.entry.isNone) < Config.immediateSize then s.hlc.replies ++ [⟨none, k, t, c, []⟩]
          else s.hlc.replies } := by
  unfold immediate; split <;> simp_all

@[simp] theorem immediate_psc (k t : Byte) (c : Code) (s : Part) : (immediate k t c s).psc = s.psc := by
  rw [immediate_eq]

@[simp] theorem immediate_ports (k t : Byte) (c : Code) (s : Part) : (immediate k t c s).ports = s.ports := by
  rw [immediate_eq]

@[simp] theorem immediate_prv (k t : Byte) (c : Code) (s : Part) : (immediate k t c s).prv = s.prv := by
  rw [immediate_eq]

@[simp] theorem immediate_trk (k t : Byte) (c : Code) (s : Part) : (immediate k t c s).trk = s.trk := by
  rw [immediate_eq]

@[simp] theorem immediate_fco (k t : Byte) (c : Code) (s : Part) : (immediate k t c s).fco = s.fco := by
  rw [immediate_eq]

@[simp] theorem immediate_sva (k t : Byte) (c : Code) (s : Part) : (immediate k t c s).sva = s.sva := by
  rw [immediate_eq]

@[simp] theorem immediate_mtu (k t : Byte) (c : Code) (s : Part) : (immediate k t c s).mtu = s.mtu := by
  rw [immediate_eq]

@[simp] theorem immediate_nvs (k t : Byte) (c : Code) (s : Part) : (immediate k t c s).nvs = s.nvs := by
  rw [immediate_eq]

/-! ### replyAll -/

@[simp] theorem replyAll_psc (o : List Nat) (c : Code) (s : Part) : (replyAll o c s).psc = s.psc := by
  exact forEach_leaves (fun s => s.psc) (fun a => reply a c) (fun _ _ => rfl) o s

@[simp] theorem replyAll_ports (o : List Nat) (c : Code) (s : Part) : (replyAll o c s).ports = s.ports := by
  exact forEach_leaves (fun s => s.ports) (fun a => reply a c) (fun _ _ => rfl) o s

@[simp] theorem replyAll_prv (o : List Nat) (c : Code) (s : Part) : (replyAll o c s).prv = s.prv := by
  exact forEach_leaves (fun s => s.prv) (fun a => reply a c) (fun _ _ => rfl) o s

@[simp] theorem replyAll_trk (o : List Nat) (c : Code) (s : Part) : (replyAll o c s).trk = s.trk := by
  exact forEach_leaves (fun s => s.trk) (fun a => reply a c) (fun _ _ => rfl) o s

@[simp] theorem replyAll_fco (o : List Nat) (c : Code) (s : Part) : (replyAll o c s).fco = s.fco := by
  exact forEach_leaves (fun s => s.fco) (fun a => reply a c) (fun _ _ => rfl) o s

@[simp] theorem replyAll_sva (o : List Nat) (c : Code) (s : Part) : (replyAll o c s).sva = s.sva := by
  exact forEach_leaves (fun s => s.sva) (fun a => reply a c) (fun _ _ => rfl) o s

@[simp] theorem replyAll_mtu (o : List Nat) (c : Code) (s : Part) : (replyAll o c s).mtu = s.mtu := by
  exact forEach_leaves (fun s => s.mtu) (fun a => reply a c) (fun _ _ => rfl) o s

@[simp] theorem replyAll_nvs (o : List Nat) (c : Code) (s : Part) : (replyAll o c s).nvs = s.nvs := by
  exact forEach_leaves (fun s => s.nvs) (fun a => reply a c) (fun _ _ => rfl) o s

/-! ### sendStation and refuse -/

/-- R92: a frame is added to what the port was sent when its link is up and the part sends; else nothing changes. -/
theorem sendStation_eq (p : Port) (f : StationOut) (s : Part) :
    sendStation p f s =
      if s.active && s.ports[p].link then modPort p (fun r => { r with sent := r.sent ++ [f.bytes] }) s else s := rfl

/-- R92: whatever is sent, every port keeps all but its list of sent frames. -/
theorem sendStation_port (p q : Port) (f : StationOut) (s : Part) :
    (sendStation p f s).ports[q] = { s.ports[q] with sent := (sendStation p f s).ports[q].sent } := by
  unfold sendStation
  split
  · simp only [modPort_ports, upd_get]
    split <;> rfl
  · rfl

@[simp] theorem sendStation_psc (p : Port) (f : StationOut) (s : Part) : (sendStation p f s).psc = s.psc := by
  unfold sendStation; split <;> rfl

@[simp] theorem sendStation_hlc (p : Port) (f : StationOut) (s : Part) : (sendStation p f s).hlc = s.hlc := by
  unfold sendStation; split <;> rfl

@[simp] theorem sendStation_prv (p : Port) (f : StationOut) (s : Part) : (sendStation p f s).prv = s.prv := by
  unfold sendStation; split <;> rfl

@[simp] theorem sendStation_trk (p : Port) (f : StationOut) (s : Part) : (sendStation p f s).trk = s.trk := by
  unfold sendStation; split <;> rfl

@[simp] theorem sendStation_fco (p : Port) (f : StationOut) (s : Part) : (sendStation p f s).fco = s.fco := by
  unfold sendStation; split <;> rfl

@[simp] theorem sendStation_sva (p : Port) (f : StationOut) (s : Part) : (sendStation p f s).sva = s.sva := by
  unfold sendStation; split <;> rfl

@[simp] theorem sendStation_mtu (p : Port) (f : StationOut) (s : Part) : (sendStation p f s).mtu = s.mtu := by
  unfold sendStation; split <;> rfl

@[simp] theorem sendStation_nvs (p : Port) (f : StationOut) (s : Part) : (sendStation p f s).nvs = s.nvs := by
  unfold sendStation; split <;> rfl

@[simp] theorem refuse_psc (p : Port) (w : Reason) (k : Byte) (s : Part) : (refuse p w k s).psc = s.psc := by
  exact sendStation_psc _ _ _

@[simp] theorem refuse_hlc (p : Port) (w : Reason) (k : Byte) (s : Part) : (refuse p w k s).hlc = s.hlc := by
  exact sendStation_hlc _ _ _

@[simp] theorem refuse_prv (p : Port) (w : Reason) (k : Byte) (s : Part) : (refuse p w k s).prv = s.prv := by
  exact sendStation_prv _ _ _

@[simp] theorem refuse_trk (p : Port) (w : Reason) (k : Byte) (s : Part) : (refuse p w k s).trk = s.trk := by
  exact sendStation_trk _ _ _

@[simp] theorem refuse_fco (p : Port) (w : Reason) (k : Byte) (s : Part) : (refuse p w k s).fco = s.fco := by
  exact sendStation_fco _ _ _

@[simp] theorem refuse_sva (p : Port) (w : Reason) (k : Byte) (s : Part) : (refuse p w k s).sva = s.sva := by
  exact sendStation_sva _ _ _

@[simp] theorem refuse_mtu (p : Port) (w : Reason) (k : Byte) (s : Part) : (refuse p w k s).mtu = s.mtu := by
  exact sendStation_mtu _ _ _

@[simp] theorem refuse_nvs (p : Port) (w : Reason) (k : Byte) (s : Part) : (refuse p w k s).nvs = s.nvs := by
  exact sendStation_nvs _ _ _

/-- R92: a refused frame leaves every port's fields but the frames sent. -/
theorem refuse_port (p q : Port) (w : Reason) (k : Byte) (s : Part) :
    (refuse p w k s).ports[q] = { s.ports[q] with sent := (refuse p w k s).ports[q].sent } := sendStation_port _ _ _ _

/-! ### sendReader -/

/-- R121: a frame is added to what the reader was sent, in RUN and QUIET. -/
theorem sendReader_eq (f : ReaderOut) (s : Part) :
    sendReader f s = { s with sva.readerSent := if s.active then s.sva.readerSent ++ [f.bytes] else s.sva.readerSent } := by
  unfold sendReader; split <;> simp_all

@[simp] theorem sendReader_psc (f : ReaderOut) (s : Part) : (sendReader f s).psc = s.psc := by
  rw [sendReader_eq]

@[simp] theorem sendReader_hlc (f : ReaderOut) (s : Part) : (sendReader f s).hlc = s.hlc := by
  rw [sendReader_eq]

@[simp] theorem sendReader_ports (f : ReaderOut) (s : Part) : (sendReader f s).ports = s.ports := by
  rw [sendReader_eq]

@[simp] theorem sendReader_prv (f : ReaderOut) (s : Part) : (sendReader f s).prv = s.prv := by
  rw [sendReader_eq]

@[simp] theorem sendReader_trk (f : ReaderOut) (s : Part) : (sendReader f s).trk = s.trk := by
  rw [sendReader_eq]

@[simp] theorem sendReader_fco (f : ReaderOut) (s : Part) : (sendReader f s).fco = s.fco := by
  rw [sendReader_eq]

@[simp] theorem sendReader_mtu (f : ReaderOut) (s : Part) : (sendReader f s).mtu = s.mtu := by
  rw [sendReader_eq]

@[simp] theorem sendReader_nvs (f : ReaderOut) (s : Part) : (sendReader f s).nvs = s.nvs := by
  rw [sendReader_eq]

/-! ### Service status and meters -/

@[simp] theorem raiseService_psc (p : Port) (n : Service) (s : Part) : (raiseService p n s).psc = s.psc := by
  unfold raiseService; cases n <;> rfl

@[simp] theorem raiseService_ports (p : Port) (n : Service) (s : Part) : (raiseService p n s).ports = s.ports := by
  unfold raiseService; cases n <;> rfl

@[simp] theorem raiseService_prv (p : Port) (n : Service) (s : Part) : (raiseService p n s).prv = s.prv := by
  unfold raiseService; cases n <;> rfl

@[simp] theorem raiseService_trk (p : Port) (n : Service) (s : Part) : (raiseService p n s).trk = s.trk := by
  unfold raiseService; cases n <;> rfl

@[simp] theorem raiseService_fco (p : Port) (n : Service) (s : Part) : (raiseService p n s).fco = s.fco := by
  unfold raiseService; cases n <;> rfl

@[simp] theorem raiseService_sva (p : Port) (n : Service) (s : Part) : (raiseService p n s).sva = s.sva := by
  unfold raiseService; cases n <;> rfl

@[simp] theorem raiseService_mtu (p : Port) (n : Service) (s : Part) : (raiseService p n s).mtu = s.mtu := by
  unfold raiseService; cases n <;> rfl

@[simp] theorem raiseService_nvs (p : Port) (n : Service) (s : Part) : (raiseService p n s).nvs = s.nvs := by
  unfold raiseService; cases n <;> rfl

/-- R158, R159: the evaluation sets the status that meter, threshold and grace give, and changes nothing else of MTU. -/
theorem evalService_mtu (p : Port) (s : Part) :
    (evalService p s).mtu =
      { s.mtu with service := s.mtu.service.set p (serviceOf s.mtu.cfg[p] s.mtu.meters[meterA p].value) } := by
  simp only [evalService]
  split
  · next h => rw [h]; simp
  · rw [raiseService_mtu]

@[simp] theorem evalService_psc (p : Port) (s : Part) : (evalService p s).psc = s.psc := by
  unfold evalService; dsimp only; split
  · rfl
  · simp

@[simp] theorem evalService_ports (p : Port) (s : Part) : (evalService p s).ports = s.ports := by
  unfold evalService; dsimp only; split
  · rfl
  · simp

@[simp] theorem evalService_prv (p : Port) (s : Part) : (evalService p s).prv = s.prv := by
  unfold evalService; dsimp only; split
  · rfl
  · simp

@[simp] theorem evalService_trk (p : Port) (s : Part) : (evalService p s).trk = s.trk := by
  unfold evalService; dsimp only; split
  · rfl
  · simp

@[simp] theorem evalService_fco (p : Port) (s : Part) : (evalService p s).fco = s.fco := by
  unfold evalService; dsimp only; split
  · rfl
  · simp

@[simp] theorem evalService_sva (p : Port) (s : Part) : (evalService p s).sva = s.sva := by
  unfold evalService; dsimp only; split
  · rfl
  · simp

@[simp] theorem evalService_nvs (p : Port) (s : Part) : (evalService p s).nvs = s.nvs := by
  unfold evalService; dsimp only; split
  · rfl
  · simp

@[simp] theorem evalServiceAfresh_psc (s : Part) : (evalServiceAfresh s).psc = s.psc := by
  unfold evalServiceAfresh; rw [forEach_leaves (fun s => s.psc) _ (fun p s => evalService_psc p s)]

@[simp] theorem evalServiceAfresh_ports (s : Part) : (evalServiceAfresh s).ports = s.ports := by
  unfold evalServiceAfresh; rw [forEach_leaves (fun s => s.ports) _ (fun p s => evalService_ports p s)]

@[simp] theorem evalServiceAfresh_prv (s : Part) : (evalServiceAfresh s).prv = s.prv := by
  unfold evalServiceAfresh; rw [forEach_leaves (fun s => s.prv) _ (fun p s => evalService_prv p s)]

@[simp] theorem evalServiceAfresh_trk (s : Part) : (evalServiceAfresh s).trk = s.trk := by
  unfold evalServiceAfresh; rw [forEach_leaves (fun s => s.trk) _ (fun p s => evalService_trk p s)]

@[simp] theorem evalServiceAfresh_fco (s : Part) : (evalServiceAfresh s).fco = s.fco := by
  unfold evalServiceAfresh; rw [forEach_leaves (fun s => s.fco) _ (fun p s => evalService_fco p s)]

@[simp] theorem evalServiceAfresh_sva (s : Part) : (evalServiceAfresh s).sva = s.sva := by
  unfold evalServiceAfresh; rw [forEach_leaves (fun s => s.sva) _ (fun p s => evalService_sva p s)]

@[simp] theorem evalServiceAfresh_nvs (s : Part) : (evalServiceAfresh s).nvs = s.nvs := by
  unfold evalServiceAfresh; rw [forEach_leaves (fun s => s.nvs) _ (fun p s => evalService_nvs p s)]

@[simp] theorem evalMeter_psc (m : Meter) (s : Part) : (evalMeter m s).psc = s.psc := by
  unfold evalMeter; split
  · rfl
  · split
    · simp
    · rfl

@[simp] theorem evalMeter_ports (m : Meter) (s : Part) : (evalMeter m s).ports = s.ports := by
  unfold evalMeter; split
  · rfl
  · split
    · simp
    · rfl

@[simp] theorem evalMeter_prv (m : Meter) (s : Part) : (evalMeter m s).prv = s.prv := by
  unfold evalMeter; split
  · rfl
  · split
    · simp
    · rfl

@[simp] theorem evalMeter_trk (m : Meter) (s : Part) : (evalMeter m s).trk = s.trk := by
  unfold evalMeter; split
  · rfl
  · split
    · simp
    · rfl

@[simp] theorem evalMeter_fco (m : Meter) (s : Part) : (evalMeter m s).fco = s.fco := by
  unfold evalMeter; split
  · rfl
  · split
    · simp
    · rfl

@[simp] theorem evalMeter_sva (m : Meter) (s : Part) : (evalMeter m s).sva = s.sva := by
  unfold evalMeter; split
  · rfl
  · split
    · simp
    · rfl

@[simp] theorem evalMeter_nvs (m : Meter) (s : Part) : (evalMeter m s).nvs = s.nvs := by
  unfold evalMeter; split
  · rfl
  · split
    · simp
    · rfl

@[simp] theorem meterInc_psc (m : Meter) (s : Part) : (meterInc m s).psc = s.psc := by
  unfold meterInc; dsimp only; split
  · rfl
  · split
    · rfl
    · simp

@[simp] theorem meterInc_ports (m : Meter) (s : Part) : (meterInc m s).ports = s.ports := by
  unfold meterInc; dsimp only; split
  · rfl
  · split
    · rfl
    · simp

@[simp] theorem meterInc_prv (m : Meter) (s : Part) : (meterInc m s).prv = s.prv := by
  unfold meterInc; dsimp only; split
  · rfl
  · split
    · rfl
    · simp

@[simp] theorem meterInc_trk (m : Meter) (s : Part) : (meterInc m s).trk = s.trk := by
  unfold meterInc; dsimp only; split
  · rfl
  · split
    · rfl
    · simp

@[simp] theorem meterInc_fco (m : Meter) (s : Part) : (meterInc m s).fco = s.fco := by
  unfold meterInc; dsimp only; split
  · rfl
  · split
    · rfl
    · simp

@[simp] theorem meterInc_sva (m : Meter) (s : Part) : (meterInc m s).sva = s.sva := by
  unfold meterInc; dsimp only; split
  · rfl
  · split
    · rfl
    · simp

@[simp] theorem meterInc_nvs (m : Meter) (s : Part) : (meterInc m s).nvs = s.nvs := by
  unfold meterInc; dsimp only; split
  · rfl
  · split
    · rfl
    · simp

/-! ### Return from QUIET -/

/-- R198: in QUIET the part returns to RUN and raises WOKEN; in every other state nothing happens. -/
theorem wakeUp_eq (c : WokenCause) (s : Part) :
    wakeUp c s = if s.psc.state = .quiet then raise (.woken c) { s with psc.state := .run } else s := rfl

@[simp] theorem wakeUp_ports (c : WokenCause) (s : Part) : (wakeUp c s).ports = s.ports := by
  unfold wakeUp; split <;> rfl

@[simp] theorem wakeUp_prv (c : WokenCause) (s : Part) : (wakeUp c s).prv = s.prv := by
  unfold wakeUp; split <;> rfl

@[simp] theorem wakeUp_trk (c : WokenCause) (s : Part) : (wakeUp c s).trk = s.trk := by
  unfold wakeUp; split <;> rfl

@[simp] theorem wakeUp_fco (c : WokenCause) (s : Part) : (wakeUp c s).fco = s.fco := by
  unfold wakeUp; split <;> rfl

@[simp] theorem wakeUp_sva (c : WokenCause) (s : Part) : (wakeUp c s).sva = s.sva := by
  unfold wakeUp; split <;> rfl

@[simp] theorem wakeUp_mtu (c : WokenCause) (s : Part) : (wakeUp c s).mtu = s.mtu := by
  unfold wakeUp; split <;> rfl

@[simp] theorem wakeUp_nvs (c : WokenCause) (s : Part) : (wakeUp c s).nvs = s.nvs := by
  unfold wakeUp; split <;> rfl

/-! ### Pending LOCKOUTs and drains -/

@[simp] theorem settleLockouts_psc (p : Port) (s : Part) : (settleLockouts p s).psc = s.psc := by
  unfold settleLockouts
  rw [forEach_leaves (fun s => s.psc) (fun k : Lockout => reply k.request .done) (fun _ _ => rfl)]

@[simp] theorem settleLockouts_ports (p : Port) (s : Part) : (settleLockouts p s).ports = s.ports := by
  unfold settleLockouts
  rw [forEach_leaves (fun s => s.ports) (fun k : Lockout => reply k.request .done) (fun _ _ => rfl)]

@[simp] theorem settleLockouts_prv (p : Port) (s : Part) : (settleLockouts p s).prv = s.prv := by
  unfold settleLockouts
  rw [forEach_leaves (fun s => s.prv) (fun k : Lockout => reply k.request .done) (fun _ _ => rfl)]

@[simp] theorem settleLockouts_trk (p : Port) (s : Part) : (settleLockouts p s).trk = s.trk := by
  unfold settleLockouts
  rw [forEach_leaves (fun s => s.trk) (fun k : Lockout => reply k.request .done) (fun _ _ => rfl)]

@[simp] theorem settleLockouts_fco (p : Port) (s : Part) : (settleLockouts p s).fco = s.fco := by
  unfold settleLockouts
  rw [forEach_leaves (fun s => s.fco) (fun k : Lockout => reply k.request .done) (fun _ _ => rfl)]

@[simp] theorem settleLockouts_mtu (p : Port) (s : Part) : (settleLockouts p s).mtu = s.mtu := by
  unfold settleLockouts
  rw [forEach_leaves (fun s => s.mtu) (fun k : Lockout => reply k.request .done) (fun _ _ => rfl)]

@[simp] theorem settleLockouts_nvs (p : Port) (s : Part) : (settleLockouts p s).nvs = s.nvs := by
  unfold settleLockouts
  rw [forEach_leaves (fun s => s.nvs) (fun k : Lockout => reply k.request .done) (fun _ _ => rfl)]

/-- R135: settling LOCKOUTs changes only SVA's list of those that wait. -/
theorem settleLockouts_sva (p : Port) (s : Part) :
    (settleLockouts p s).sva = { s.sva with lockouts := s.sva.lockouts.filter fun k => !s.lockoutReady p k } := by
  unfold settleLockouts
  rw [forEach_leaves (fun s => s.sva) (fun k : Lockout => reply k.request .done) (fun _ _ => rfl)]

@[simp] theorem drainEnds_psc (p : Port) (s : Part) : (drainEnds p s).psc = s.psc := by
  unfold drainEnds; rw [settleLockouts_psc]

@[simp] theorem drainEnds_ports (p : Port) (s : Part) : (drainEnds p s).ports = s.ports := by
  unfold drainEnds; rw [settleLockouts_ports]

@[simp] theorem drainEnds_prv (p : Port) (s : Part) : (drainEnds p s).prv = s.prv := by
  unfold drainEnds; rw [settleLockouts_prv]

@[simp] theorem drainEnds_trk (p : Port) (s : Part) : (drainEnds p s).trk = s.trk := by
  unfold drainEnds; rw [settleLockouts_trk]

@[simp] theorem drainEnds_fco (p : Port) (s : Part) : (drainEnds p s).fco = s.fco := by
  unfold drainEnds; rw [settleLockouts_fco]

@[simp] theorem drainEnds_mtu (p : Port) (s : Part) : (drainEnds p s).mtu = s.mtu := by
  unfold drainEnds; rw [settleLockouts_mtu]

@[simp] theorem drainEnds_nvs (p : Port) (s : Part) : (drainEnds p s).nvs = s.nvs := by
  unfold drainEnds; rw [settleLockouts_nvs]

/-! ### Checks -/

/-- A request goes on exactly when the check holds. -/
@[simp] theorem check_true (h : Nat) (c : Code) (go : Part → Part) (s : Part) : check h true c go s = go s := rfl

/-- A check that fails is answered with its code. -/
@[simp] theorem check_false (h : Nat) (c : Code) (go : Part → Part) (s : Part) : check h false c go s = reply h c s := rfl

@[simp] theorem orBadValue_some {α : Type} (h : Nat) (a : α) (go : α → Part → Part) (s : Part) :
    orBadValue h (some a) go s = go a s := rfl

@[simp] theorem orBadValue_none {α : Type} (h : Nat) (go : α → Part → Part) (s : Part) :
    orBadValue h none go s = reply h .badValue s := rfl

/-- R128: a session that is open and permitted restarts its idle timer and goes on. -/
theorem withSession_ok (h : Nat) (n : Byte) (ok : BadgeRole → Bool) (go : Session → Part → Part) (s : Part) (x : Session)
    (hx : s.sva.session? n = some x) (hr : ok x.role = true) : withSession h n ok go s = go x (restartIdle n s) := by
  simp [withSession, hx, hr]

/-- R128: a number that names no open session is refused NO-SESSION. -/
theorem withSession_none (h : Nat) (n : Byte) (ok : BadgeRole → Bool) (go : Session → Part → Part) (s : Part)
    (hx : s.sva.session? n = none) : withSession h n ok go s = reply h .noSession s := by
  simp [withSession, hx]

/-- R128: a role that is not permitted is refused NOT-PERMITTED. -/
theorem withSession_denied (h : Nat) (n : Byte) (ok : BadgeRole → Bool) (go : Session → Part → Part) (s : Part) (x : Session)
    (hx : s.sva.session? n = some x) (hr : ok x.role = false) : withSession h n ok go s = reply h .notPermitted s := by
  simp [withSession, hx, hr]

/-! ### The store queue -/

/-- R178: with room the job joins the tail. -/
theorem queueOrFull_room (h : Nat) (b : JobBody) (s : Part) (hr : s.nvs.hasRoom = true) :
    queueOrFull h b s = queueJob b [h] s := by simp [queueOrFull, hr]

/-- R178: without room the request is refused FULL. -/
theorem queueOrFull_full (h : Nat) (b : JobBody) (s : Part) (hr : s.nvs.hasRoom = false) :
    queueOrFull h b s = reply h .full s := by simp [queueOrFull, hr]

@[simp] theorem queueOrFull_psc (h : Nat) (b : JobBody) (s : Part) : (queueOrFull h b s).psc = s.psc := by
  unfold queueOrFull check; split <;> rfl

@[simp] theorem queueOrFull_ports (h : Nat) (b : JobBody) (s : Part) : (queueOrFull h b s).ports = s.ports := by
  unfold queueOrFull check; split <;> rfl

@[simp] theorem queueOrFull_prv (h : Nat) (b : JobBody) (s : Part) : (queueOrFull h b s).prv = s.prv := by
  unfold queueOrFull check; split <;> rfl

@[simp] theorem queueOrFull_trk (h : Nat) (b : JobBody) (s : Part) : (queueOrFull h b s).trk = s.trk := by
  unfold queueOrFull check; split <;> rfl

@[simp] theorem queueOrFull_fco (h : Nat) (b : JobBody) (s : Part) : (queueOrFull h b s).fco = s.fco := by
  unfold queueOrFull check; split <;> rfl

@[simp] theorem queueOrFull_sva (h : Nat) (b : JobBody) (s : Part) : (queueOrFull h b s).sva = s.sva := by
  unfold queueOrFull check; split <;> rfl

@[simp] theorem queueOrFull_mtu (h : Nat) (b : JobBody) (s : Part) : (queueOrFull h b s).mtu = s.mtu := by
  unfold queueOrFull check; split <;> rfl

@[simp] theorem askCheckpoint_psc (s : Part) : (askCheckpoint s).psc = s.psc := by
  unfold askCheckpoint; split
  · rfl
  · split
    · rfl
    · split <;> rfl

@[simp] theorem askCheckpoint_hlc (s : Part) : (askCheckpoint s).hlc = s.hlc := by
  unfold askCheckpoint; split
  · rfl
  · split
    · rfl
    · split <;> rfl

@[simp] theorem askCheckpoint_ports (s : Part) : (askCheckpoint s).ports = s.ports := by
  unfold askCheckpoint; split
  · rfl
  · split
    · rfl
    · split <;> rfl

@[simp] theorem askCheckpoint_prv (s : Part) : (askCheckpoint s).prv = s.prv := by
  unfold askCheckpoint; split
  · rfl
  · split
    · rfl
    · split <;> rfl

@[simp] theorem askCheckpoint_trk (s : Part) : (askCheckpoint s).trk = s.trk := by
  unfold askCheckpoint; split
  · rfl
  · split
    · rfl
    · split <;> rfl

@[simp] theorem askCheckpoint_fco (s : Part) : (askCheckpoint s).fco = s.fco := by
  unfold askCheckpoint; split
  · rfl
  · split
    · rfl
    · split <;> rfl

@[simp] theorem askCheckpoint_sva (s : Part) : (askCheckpoint s).sva = s.sva := by
  unfold askCheckpoint; split
  · rfl
  · split
    · rfl
    · split <;> rfl

@[simp] theorem askCheckpoint_mtu (s : Part) : (askCheckpoint s).mtu = s.mtu := by
  unfold askCheckpoint; split
  · rfl
  · split
    · rfl
    · split <;> rfl

/-! ### Counts and their jobs -/

@[simp] theorem queueCount_psc (w : Subject) (v : Nat) (s : Part) : (queueCount w v s).psc = s.psc := by
  simp only [queueCount]; split <;> (try split) <;> (try split) <;> rfl

@[simp] theorem queueCount_hlc (w : Subject) (v : Nat) (s : Part) : (queueCount w v s).hlc = s.hlc := by
  simp only [queueCount]; split <;> (try split) <;> (try split) <;> rfl

@[simp] theorem queueCount_ports (w : Subject) (v : Nat) (s : Part) : (queueCount w v s).ports = s.ports := by
  simp only [queueCount]; split <;> (try split) <;> (try split) <;> rfl

@[simp] theorem queueCount_prv (w : Subject) (v : Nat) (s : Part) : (queueCount w v s).prv = s.prv := by
  simp only [queueCount]; split <;> (try split) <;> (try split) <;> rfl

@[simp] theorem queueCount_trk (w : Subject) (v : Nat) (s : Part) : (queueCount w v s).trk = s.trk := by
  simp only [queueCount]; split <;> (try split) <;> (try split) <;> rfl

@[simp] theorem queueCount_fco (w : Subject) (v : Nat) (s : Part) : (queueCount w v s).fco = s.fco := by
  simp only [queueCount]; split <;> (try split) <;> (try split) <;> rfl

@[simp] theorem queueCount_sva (w : Subject) (v : Nat) (s : Part) : (queueCount w v s).sva = s.sva := by
  simp only [queueCount]; split <;> (try split) <;> (try split) <;> rfl

@[simp] theorem queueCount_mtu (w : Subject) (v : Nat) (s : Part) : (queueCount w v s).mtu = s.mtu := by
  simp only [queueCount]; split <;> (try split) <;> (try split) <;> rfl

@[simp] theorem putCount_psc (w : Subject) (v : Nat) (s : Part) : (putCount w v s).psc = s.psc := by cases w <;> rfl

@[simp] theorem putCount_hlc (w : Subject) (v : Nat) (s : Part) : (putCount w v s).hlc = s.hlc := by cases w <;> rfl

@[simp] theorem putCount_ports (w : Subject) (v : Nat) (s : Part) : (putCount w v s).ports = s.ports := by cases w <;> rfl

@[simp] theorem putCount_trk (w : Subject) (v : Nat) (s : Part) : (putCount w v s).trk = s.trk := by cases w <;> rfl

@[simp] theorem putCount_fco (w : Subject) (v : Nat) (s : Part) : (putCount w v s).fco = s.fco := by cases w <;> rfl

@[simp] theorem putCount_sva (w : Subject) (v : Nat) (s : Part) : (putCount w v s).sva = s.sva := by cases w <;> rfl

@[simp] theorem putCount_mtu (w : Subject) (v : Nat) (s : Part) : (putCount w v s).mtu = s.mtu := by cases w <;> rfl

@[simp] theorem putCount_nvs (w : Subject) (v : Nat) (s : Part) : (putCount w v s).nvs = s.nvs := by cases w <;> rfl

/-- R114: the count PRV then holds is the one set. -/
@[simp] theorem putCount_count (w : Subject) (v : Nat) (s : Part) : (putCount w v s).prv.count w = v := by
  cases w <;> simp [putCount, Prv.count]

@[simp] theorem setCount_psc (w : Subject) (v : Nat) (s : Part) : (setCount w v s).psc = s.psc := by
  unfold setCount; split <;> simp

@[simp] theorem setCount_hlc (w : Subject) (v : Nat) (s : Part) : (setCount w v s).hlc = s.hlc := by
  unfold setCount; split <;> simp

@[simp] theorem setCount_ports (w : Subject) (v : Nat) (s : Part) : (setCount w v s).ports = s.ports := by
  unfold setCount; split <;> simp

@[simp] theorem setCount_trk (w : Subject) (v : Nat) (s : Part) : (setCount w v s).trk = s.trk := by
  unfold setCount; split <;> simp

@[simp] theorem setCount_fco (w : Subject) (v : Nat) (s : Part) : (setCount w v s).fco = s.fco := by
  unfold setCount; split <;> simp

@[simp] theorem setCount_sva (w : Subject) (v : Nat) (s : Part) : (setCount w v s).sva = s.sva := by
  unfold setCount; split <;> simp

@[simp] theorem setCount_mtu (w : Subject) (v : Nat) (s : Part) : (setCount w v s).mtu = s.mtu := by
  unfold setCount; split <;> simp

/-- R114: whether or not a job is queued, the count PRV then holds is the one set. -/
@[simp] theorem setCount_count (w : Subject) (v : Nat) (s : Part) : (setCount w v s).prv.count w = v := by
  unfold setCount
  split
  · next h => exact h.symm
  · simp

end Sys2Proof.Machine
end

