-- ==== Sys2Proof/Laws/Requests.lean ====
section
/-! SUPPORT. What the taking of a host request does, once for every kind: what becomes of a request that is served, and what one
reply to it changes; and what a notice raised does to HLC. -/

namespace Sys2Proof.Machine

/-! ### Received characters -/

@[simp] theorem Receiver.run_nil (r : Receiver) : r.run [] = r := rfl

@[simp] theorem Receiver.run_cons (r : Receiver) (c : Character) (l : List Character) : r.run (c :: l) = (r.next c).run l := rfl

/-- R182: SYNC begins a frame. -/
@[simp] theorem Receiver.next_sync : Receiver.ready.next (some 0xA5) = .insideFrame [] := rfl

/-- R182: a receiver that waits for an idle gap takes nothing. -/
@[simp] theorem Receiver.next_waiting (c : Character) : Receiver.gapWanted.next c = .gapWanted := by cases c <;> rfl

@[simp] theorem Receiver.run_waiting (l : List Character) : Receiver.gapWanted.run l = .gapWanted := by
  induction l with
  | nil => rfl
  | cons c l ih => simp [ih]

/-- R182: a frame of the announced length, taken from any point inside it: it ends good exactly when its CRC is the one computed. -/
theorem Receiver.run_frame (bytes : List Byte) (hn : fromLe (bytes.take 2) ≤ Config.payloadSize)
    (hlen : bytes.length = fromLe (bytes.take 2) + 6) (rest taken : List Byte) (h : taken ++ rest = bytes) (hr : rest ≠ []) :
    (Receiver.insideFrame taken).run (rest.map some) =
      if frameGood (bytes.take (fromLe (bytes.take 2) + 4))
          (BitVec.ofNat 16 (fromLe (bytes.drop (fromLe (bytes.take 2) + 4)))) then .ready
      else .gapWanted := by
  induction rest generalizing taken with
  | nil => exact absurd rfl hr
  | cons b rest ih =>
    have hb : taken ++ [b] ++ rest = bytes := by simpa using h
    have hl : (taken ++ [b]).length + rest.length = fromLe (bytes.take 2) + 6 := by
      have := congrArg List.length hb
      rw [List.length_append] at this
      omega
    simp only [List.map_cons, Receiver.run_cons, Receiver.next]
    by_cases hrest : rest = []
    · subst hrest
      have he : taken ++ [b] = bytes := by simpa using hb
      rw [he]
      have h1 : ¬ bytes.length < 2 := by omega
      have h2 : ¬ Config.payloadSize < fromLe (bytes.take 2) := by omega
      have h3 : ¬ bytes.length < fromLe (bytes.take 2) + 6 := by omega
      simp [Receiver.inFrame, h1, h2, h3]
    · have hpos : 0 < rest.length := List.length_pos_of_ne_nil hrest
      have hin : Receiver.inFrame (taken ++ [b]) = .insideFrame (taken ++ [b]) := by
        by_cases h2 : (taken ++ [b]).length < 2
        · simp only [Receiver.inFrame, if_pos h2]
        · have ht : (taken ++ [b]).take 2 = bytes.take 2 := by
            have := congrArg (List.take 2) hb
            rwa [List.take_append_of_le_length (Nat.not_lt.mp h2)] at this
          have h3 : ¬ Config.payloadSize < fromLe (bytes.take 2) := by omega
          have h4 : (taken ++ [b]).length < fromLe (bytes.take 2) + 6 := by omega
          simp only [Receiver.inFrame, if_neg h2, ht, if_neg h3, if_pos h4]
      rw [hin]
      exact ih _ hb hrest

/-- A number of two bytes reads as it was written. -/
theorem fromLe_le_two {n : Nat} (h : n < 2 ^ 16) : fromLe (le 2 n) = n := by
  simp [fromLe, le, List.range_succ]
  omega

theorem le_length (n v : Nat) : (le n v).length = n := by simp [le]

/-- R182, R199: a frame as the manual lays it out is received good, whatever its kind, tag and payload. -/
theorem Receiver.run_hostFrame (kind tag : Byte) {payload : List Byte} (h : payload.length ≤ Config.payloadSize) :
    Receiver.ready.run ((hostFrame kind tag payload).map some) = .ready := by
  have hs : payload.length < 2 ^ 16 := by simp only [Config.payloadSize] at h; omega
  let checked := le 2 payload.length ++ [kind, tag] ++ payload
  have hlen : checked.length = payload.length + 4 := by simp [checked, le_length]; omega
  let bytes := checked ++ le 2 (crc16 checked).toNat
  have ht : bytes.take 2 = le 2 payload.length := by
    have : bytes = le 2 payload.length ++ ([kind, tag] ++ payload ++ le 2 (crc16 checked).toNat) := by
      simp [bytes, checked]
    rw [this, List.take_left' (le_length _ _)]
  have hn : fromLe (bytes.take 2) = payload.length := by rw [ht, fromLe_le_two hs]
  have e : (hostFrame kind tag payload).map some = (some (0xA5 : Byte)) :: bytes.map some := by
    simp [hostFrame, frame, bytes, checked]
  rw [e, Receiver.run_cons, Receiver.next_sync,
    Receiver.run_frame bytes (by rw [hn]; exact h) (by rw [hn]; simp [bytes, hlen, le_length]) bytes [] rfl (by simp [bytes, checked])]
  have h1 : bytes.take (payload.length + 4) = checked := List.take_left' hlen
  have h2 : bytes.drop (payload.length + 4) = le 2 (crc16 checked).toNat := List.drop_left' hlen
  rw [hn, h1, h2, fromLe_le_two (crc16 checked).isLt]
  simp [frameGood]

/-! ### Taking a request -/

/-- A frame that the receiver takes goes to its checks. -/
theorem takeFrame_good {s : Part} (hr : s.hostReceives = true) (hx : s.hlc.receiver = .ready) (kind tag : Byte)
    {payload : List Byte} (h : payload.length ≤ Config.payloadSize) (good : Part → Part) :
    takeFrame kind tag payload good s = good s := by
  simp [takeFrame, hr, hx, Receiver.run_hostFrame kind tag h]

/-- A frame that is not received changes nothing. -/
theorem takeFrame_deaf {s : Part} (h : s.hostReceives = false ∨ s.hlc.receiver ≠ .ready) (kind tag : Byte)
    (payload : List Byte) (good : Part → Part) : takeFrame kind tag payload good s = s := by
  rcases h with h | h <;> simp [takeFrame, h]

/-- What a served request enters. -/
theorem enterRequest_served (k : ReqKind) (t : Byte) (d : List Byte) (s : Part) (hx : s.hlc.receiver = .ready)
    (hr : s.psc.restart = none) : enterRequest k t d s = s.entered k t d := by
  simp [enterRequest, Part.entered, Hlc.entered, hr, ← hx]

/-- A request that is served goes to its owner with the handle of its entry. -/
theorem takeRequest_serves {s : Part} {k : ReqKind} (hs : s.serves k) {d : List Byte} (hl : lengthFits k d = true)
    (hd : d.length ≤ Config.payloadSize) (t : Byte) (serve : Nat → Part → Part) :
    takeRequest k t d serve s = serve s.hlc.nextHandle (s.entered k t d) := by
  obtain ⟨hst, hrx, htab, hre, -⟩ := hs
  have hsave : s.psc.state ≠ .save := by rcases hst with h | ⟨h, -⟩ <;> simp [h]
  have hq : ¬ (s.psc.state = .quiet ∧ k.servedInQuiet = false) := by
    rcases hst with h | ⟨-, h⟩
    · simp [h]
    · simp [h]
  have hrec : s.hostReceives = true := by
    rcases hst with h | ⟨h, -⟩ <;> simp [Part.hostReceives, Part.active, h]
  have hlen : ¬ Config.tableSize ≤ s.hlc.table.length := by omega
  rw [takeRequest, takeFrame_good hrec hrx k.byte t hd, ← enterRequest_served k t d s hrx hre]
  simp [checkRequest, hl, hsave, hq, hlen, hre]

/-- A request whose frame is not received changes nothing. -/
theorem takeRequest_deaf {s : Part} (h : s.hostReceives = false ∨ s.hlc.receiver ≠ .ready) (k : ReqKind) (t : Byte)
    (d : List Byte) (serve : Nat → Part → Part) : takeRequest k t d serve s = s := takeFrame_deaf h _ _ _ _

/-- While a RESTART waits, a request that passes the checks is entered and goes no further. -/
theorem takeRequest_waits {s : Part} (hst : s.psc.state = .run) (hrx : s.hlc.receiver = .ready)
    (htab : s.hlc.table.length < Config.tableSize) (hre : s.psc.restart.isSome = true) {k : ReqKind} {d : List Byte}
    (hl : lengthFits k d = true) (hd : d.length ≤ Config.payloadSize) (t : Byte) (serve : Nat → Part → Part) :
    takeRequest k t d serve s = { s with hlc := s.hlc.entered k t d .waiting } := by
  have hrec : s.hostReceives = true := by simp [Part.hostReceives, Part.active, hst]
  have hlen : ¬ Config.tableSize ≤ s.hlc.table.length := by omega
  rw [takeRequest, takeFrame_good hrec hrx k.byte t hd]
  simp [checkRequest, hl, hst, hlen, hre, enterRequest, Hlc.entered, ← hrx]

/-! ### Replies -/

theorem find_below {l : List Entry} {n : Nat} (h : ∀ e ∈ l, e.handle < n) (q : Entry → Bool) :
    l.find? (fun e => e.handle == n && q e) = none := by
  rw [List.find?_eq_none]
  intro e he
  have := h e he
  simp
  intro h'
  omega

theorem map_below {l : List Entry} {n : Nat} (h : ∀ e ∈ l, e.handle < n) (g : Entry → Entry) :
    l.map (fun e => if e.handle == n then g e else e) = l := by
  conv_rhs => rw [← List.map_id l]
  apply List.map_congr_left
  intro e he
  have := h e he
  have hne : (e.handle == n) = false := by simp; omega
  simp [hne]

theorem dispatched_open : (Condition.dispatched != Condition.replied) = true := rfl

/-- The one reply to a request that has just been entered. -/
theorem Hlc.reply_entered {h : Hlc} (hb : h.handlesBelow) (k : ReqKind) (t : Byte) (d : List Byte) (c : Code)
    (content : List Byte) :
    (h.entered k t d .dispatched).reply h.nextHandle c content =
      h.answered k t d c (if c = .done then content else []) := by
  have h1 : (h.table ++ [⟨h.nextHandle, k, t, d, k.owner, .dispatched⟩] : List Entry).find?
      (fun e => e.handle == h.nextHandle && e.condition != .replied) =
      some ⟨h.nextHandle, k, t, d, k.owner, .dispatched⟩ := by
    rw [List.find?_append, find_below hb]
    simp [List.find?, dispatched_open]
  have h2 : (h.entered k t d .dispatched).unreplied h.nextHandle =
      some ⟨h.nextHandle, k, t, d, k.owner, .dispatched⟩ := h1
  rw [Hlc.reply, h2]
  simp only [Hlc.entered, Hlc.answered, List.map_append, map_below hb]
  simp

/-- An owner's reply to the request it has just been handed. -/
theorem reply_entered {s : Part} (hb : s.hlc.handlesBelow) (k : ReqKind) (t : Byte) (d : List Byte) (c : Code) :
    reply s.hlc.nextHandle c (s.entered k t d) = s.answered k t d c [] := by
  have := Hlc.reply_entered hb k t d c []
  simp [reply, Part.entered, Part.answered, this]

/-- An owner's reply DONE with content to the request it has just been handed. -/
theorem replyWith_entered {s : Part} (hb : s.hlc.handlesBelow) (k : ReqKind) (t : Byte) (d content : List Byte) :
    replyWith s.hlc.nextHandle content (s.entered k t d) = s.answered k t d .done content := by
  have := Hlc.reply_entered hb k t d .done content
  simp [replyWith, Part.entered, Part.answered, this]

/-! ### Sessions and jobs -/

/-- The session and permission checks, passed: the idle timer restarts and the request goes on. -/
theorem withSession_accepts {s : Part} {num : Byte} {x : Session} (hx : s.inSession num x) {f : BadgeRole → Bool}
    (hf : f x.role = true) (h : Nat) (go : Session → Part → Part) (k : ReqKind) (t : Byte) (d : List Byte) :
    withSession h num f go (s.entered k t d) = go x ((s.withIdle num).entered k t d) := by
  have h1 : (s.entered k t d).sva.session? num = some x := by
    rw [Sva.session?, if_neg hx.1]
    exact hx.2
  have h2 : restartIdle num (s.entered k t d) = (s.withIdle num).entered k t d := by
    simp [restartIdle, Part.withIdle, Part.entered, Part.timer, Config.minute]
  rw [withSession, h1]
  simp only [hf, if_true, h2]

/-- Replies to all the requests of a job change HLC alone, one by one. -/
theorem replyAll_eq (origin : List Nat) (c : Code) (s : Part) : replyAll origin c s = s.repliedTo origin c := by
  induction origin generalizing s with
  | nil => rfl
  | cons a l ih =>
    simp only [replyAll, forEach, List.foldl_cons] at ih ⊢
    rw [ih]
    rfl

/-! ### Notices -/

/-- Where there is room, a notice joins the tail. -/
theorem Hlc.enqueue_room {h : Hlc} (hr : h.notices.length < Config.noticeSize) (n : Notice) :
    h.enqueue n = { h with notices := h.notices ++ [n] } := by simp [Hlc.enqueue, hr]

@[simp] theorem Hlc.enqueue_rate (n : Notice) (h : Hlc) : (h.enqueue n).rate = h.rate := by
  simp only [Hlc.enqueue, bumpGap]; split <;> [rfl; (split <;> [rfl; (split <;> rfl)])]

@[simp] theorem Hlc.enqueue_receiver (n : Notice) (h : Hlc) : (h.enqueue n).receiver = h.receiver := by
  simp only [Hlc.enqueue, bumpGap]; split <;> [rfl; (split <;> [rfl; (split <;> rfl)])]

@[simp] theorem Hlc.enqueue_table (n : Notice) (h : Hlc) : (h.enqueue n).table = h.table := by
  simp only [Hlc.enqueue, bumpGap]; split <;> [rfl; (split <;> [rfl; (split <;> rfl)])]

@[simp] theorem Hlc.enqueue_replies (n : Notice) (h : Hlc) : (h.enqueue n).replies = h.replies := by
  simp only [Hlc.enqueue, bumpGap]; split <;> [rfl; (split <;> [rfl; (split <;> rfl)])]

@[simp] theorem Hlc.enqueue_mask (n : Notice) (h : Hlc) : (h.enqueue n).mask = h.mask := by
  simp only [Hlc.enqueue, bumpGap]; split <;> [rfl; (split <;> [rfl; (split <;> rfl)])]

@[simp] theorem Hlc.enqueue_sending (n : Notice) (h : Hlc) : (h.enqueue n).sending = h.sending := by
  simp only [Hlc.enqueue, bumpGap]; split <;> [rfl; (split <;> [rfl; (split <;> rfl)])]

@[simp] theorem Hlc.enqueue_lastNotice (n : Notice) (h : Hlc) : (h.enqueue n).lastNotice = h.lastNotice := by
  simp only [Hlc.enqueue, bumpGap]; split <;> [rfl; (split <;> [rfl; (split <;> rfl)])]

@[simp] theorem Hlc.enqueue_nextHandle (n : Notice) (h : Hlc) : (h.enqueue n).nextHandle = h.nextHandle := by
  simp only [Hlc.enqueue, bumpGap]; split <;> [rfl; (split <;> [rfl; (split <;> rfl)])]

@[simp] theorem Hlc.enqueue_sent (n : Notice) (h : Hlc) : (h.enqueue n).sent = h.sent := by
  simp only [Hlc.enqueue, bumpGap]; split <;> [rfl; (split <;> [rfl; (split <;> rfl)])]

@[simp] theorem Hlc.reply_rate (n : Nat) (c : Code) (l : List Byte) (h : Hlc) : (h.reply n c l).rate = h.rate := by
  simp only [Hlc.reply]; split <;> rfl

@[simp] theorem Hlc.reply_receiver (n : Nat) (c : Code) (l : List Byte) (h : Hlc) : (h.reply n c l).receiver = h.receiver := by
  simp only [Hlc.reply]; split <;> rfl

@[simp] theorem Hlc.reply_notices (n : Nat) (c : Code) (l : List Byte) (h : Hlc) : (h.reply n c l).notices = h.notices := by
  simp only [Hlc.reply]; split <;> rfl

@[simp] theorem Hlc.reply_mask (n : Nat) (c : Code) (l : List Byte) (h : Hlc) : (h.reply n c l).mask = h.mask := by
  simp only [Hlc.reply]; split <;> rfl

@[simp] theorem Hlc.reply_gap (n : Nat) (c : Code) (l : List Byte) (h : Hlc) : (h.reply n c l).gap = h.gap := by
  simp only [Hlc.reply]; split <;> rfl

@[simp] theorem Hlc.reply_sending (n : Nat) (c : Code) (l : List Byte) (h : Hlc) : (h.reply n c l).sending = h.sending := by
  simp only [Hlc.reply]; split <;> rfl

@[simp] theorem Hlc.reply_lastNotice (n : Nat) (c : Code) (l : List Byte) (h : Hlc) : (h.reply n c l).lastNotice = h.lastNotice := by
  simp only [Hlc.reply]; split <;> rfl

@[simp] theorem Hlc.reply_nextHandle (n : Nat) (c : Code) (l : List Byte) (h : Hlc) : (h.reply n c l).nextHandle = h.nextHandle := by
  simp only [Hlc.reply]; split <;> rfl

@[simp] theorem Hlc.reply_sent (n : Nat) (c : Code) (l : List Byte) (h : Hlc) : (h.reply n c l).sent = h.sent := by
  simp only [Hlc.reply]; split <;> rfl

/-- A reply leaves the handles of the table as they are. -/
theorem Hlc.reply_handles (n : Nat) (c : Code) (l : List Byte) (h : Hlc) :
    (h.reply n c l).table.map (·.handle) = h.table.map (·.handle) := by
  simp only [Hlc.reply]
  split
  · rfl
  · simp only [List.map_map]
    apply List.map_congr_left
    intro e _
    simp only [Function.comp]
    split <;> rfl

/-- A table reply is no immediate reply. -/
theorem Hlc.reply_immediates (n : Nat) (c : Code) (l : List Byte) (h : Hlc) :
    (h.reply n c l).replies.countP (·.entry.isNone) = h.replies.countP (·.entry.isNone) := by
  simp only [Hlc.reply]
  split
  · rfl
  · simp

theorem foldMin_spec (l : List Notice) (m : Option Nat) :
    let r := l.foldl (fun m n => match m with
      | none => some n.body.priority
      | some k => some (min k n.body.priority)) m
    (∀ k, r = some k → (m = some k ∨ ∃ n ∈ l, n.body.priority = k) ∧ (∀ j, m = some j → k ≤ j) ∧
      ∀ n ∈ l, k ≤ n.body.priority) ∧ (r = none → m = none ∧ l = []) := by
  induction l generalizing m with
  | nil =>
    constructor
    · intro k hk
      simp only [List.foldl_nil] at hk
      exact ⟨Or.inl hk, fun j hj => by rw [hk] at hj; cases hj; exact le_rfl, by simp⟩
    · intro h; exact ⟨h, rfl⟩
  | cons a l ih =>
    simp only [List.foldl_cons]
    cases m with
    | none =>
      obtain ⟨h1, h2⟩ := ih (some a.body.priority)
      refine ⟨fun k hk => ?_, fun h => absurd (h2 h).1 (by simp)⟩
      obtain ⟨ha, hb, hc⟩ := h1 k hk
      refine ⟨Or.inr ?_, by simp, ?_⟩
      · rcases ha with ha | ⟨n, hn, hp⟩
        · exact ⟨a, by simp, by simpa using ha⟩
        · exact ⟨n, by simp [hn], hp⟩
      · intro n hn
        rcases List.mem_cons.mp hn with rfl | hn
        · exact hb _ rfl
        · exact hc n hn
    | some j =>
      obtain ⟨h1, h2⟩ := ih (some (min j a.body.priority))
      refine ⟨fun k hk => ?_, fun h => absurd (h2 h).1 (by simp)⟩
      obtain ⟨ha, hb, hc⟩ := h1 k hk
      have hle := hb _ rfl
      refine ⟨?_, ?_, ?_⟩
      · rcases ha with ha | ⟨n, hn, hp⟩
        · have ha' : min j a.body.priority = k := by simpa using ha
          rcases Nat.le_total j a.body.priority with h | h
          · rw [Nat.min_eq_left h] at ha'; exact Or.inl (by rw [ha'])
          · rw [Nat.min_eq_right h] at ha'; exact Or.inr ⟨a, by simp, ha'⟩
        · exact Or.inr ⟨n, by simp [hn], hp⟩
      · intro i hi; cases hi; omega
      · intro n hn
        rcases List.mem_cons.mp hn with rfl | hn
        · omega
        · exact hc n hn

/-- R190: the lowest priority is that of a displaceable notice, and no displaceable notice has a lower one. -/
theorem lowestPriority_some {l : List Notice} {k : Nat} (h : lowestPriority l = some k) :
    (∃ n ∈ l, n.displaceable = true ∧ n.body.priority = k) ∧ ∀ n ∈ l, n.displaceable = true → k ≤ n.body.priority := by
  obtain ⟨h1, -⟩ := foldMin_spec (l.filter (·.displaceable)) none
  obtain ⟨ha, -, hc⟩ := h1 k h
  constructor
  · rcases ha with ha | ⟨n, hn, hp⟩
    · cases ha
    · exact ⟨n, List.mem_of_mem_filter hn, (List.mem_filter.mp hn).2, hp⟩
  · intro n hn hd
    exact hc n (List.mem_filter.mpr ⟨hn, hd⟩)

/-- R190: there is no lowest priority exactly when no notice may be displaced. -/
theorem lowestPriority_none {l : List Notice} (h : lowestPriority l = none) : ∀ n ∈ l, n.displaceable = false := by
  have := ((foldMin_spec (l.filter (·.displaceable)) none).2 h).2
  intro n hn
  by_contra hd
  have : n ∈ l.filter (·.displaceable) := List.mem_filter.mpr ⟨hn, by simpa using hd⟩
  simp_all

/-- R190: the queue never holds more than its 32 notices. -/
theorem Hlc.enqueue_length (n : Notice) (h : Hlc) (hl : h.notices.length ≤ Config.noticeSize) :
    (h.enqueue n).notices.length ≤ Config.noticeSize := by
  simp only [Hlc.enqueue]
  split
  · simp; omega
  · split
    · exact hl
    · split
      · rename_i k hk _
        obtain ⟨⟨a, hm, hd, hp⟩, -⟩ := lowestPriority_some hk
        have h1 := List.length_eraseP_of_mem (p := fun m : Notice => m.displaceable && m.body.priority == k) hm
          (by simp [hd, hp])
        have : 0 < h.notices.length := List.length_pos_of_mem hm
        simp only [bumpGap, dropOldest, List.length_append, List.length_singleton]
        omega
      · exact hl

end Sys2Proof.Machine
end

