-- ==== Sys2Proof/Laws/Evaluation.lean ====
section
/-! SUPPORT. What the evaluation of the reader and the release of a port do, and what a row of replies and a row of freed places at the
store come to. -/

namespace Sys2Proof.Machine

/-! ### Replies to several jobs -/

/-- The requests of several jobs are replied, job by job, in the order of all of them. -/
theorem forEach_replyAll (l : List Job) (c : Code) (s : Part) :
    forEach l (fun j => replyAll j.origin c) s = s.repliedTo (l.flatMap (·.origin)) c := by
  induction l generalizing s with
  | nil => rfl
  | cons j l ih => rw [forEach_cons, ih, replyAll_eq]; simp only [Part.repliedTo, List.flatMap_cons, List.foldl_append]

/-! ### Deferred marks (R178) -/

/-- R178: with no deferred mark a freed place stays free. -/
theorem convertDeferred_none {s : Part} (h : s.nvs.deferred = []) : convertDeferred s = s := by
  simp [convertDeferred, h]

/-- R178: with room, the oldest deferred mark becomes a job at the tail. -/
theorem convertDeferred_cons {s : Part} {d : Deferred} {rest : List Deferred} (h : s.nvs.deferred = d :: rest)
    (hr : s.nvs.queue.length < 8) :
    convertDeferred s = queueJob (s.deferredJob d) [] { s with nvs.deferred := rest } := by
  have room : s.nvs.hasRoom = true := decide_eq_true hr
  simp [convertDeferred, h, room]

/-- R178: as many places freed as `gone` has members take the oldest deferred marks, as far as marks stand. -/
theorem forEach_convertDeferred {α : Type} (gone : List α) (s : Part) (h : s.nvs.queue.length + gone.length ≤ 8) :
    forEach gone (fun _ => convertDeferred) s =
      { s with nvs := { s.nvs with
          queue := s.nvs.queue ++
            (s.nvs.deferred.take (min gone.length s.nvs.deferred.length)).map fun d => ⟨s.deferredJob d, []⟩
          deferred := s.nvs.deferred.drop (min gone.length s.nvs.deferred.length) } } := by
  induction gone generalizing s with
  | nil => simp
  | cons g gs ih =>
    simp only [List.length_cons] at h
    rw [forEach_cons]
    cases hd : s.nvs.deferred with
    | nil => rw [convertDeferred_none hd, ih s (by omega), hd]; simp
    | cons d ds =>
      rw [convertDeferred_cons hd (by omega),
        ih _ (by simp only [queueJob, List.length_append, List.length_cons, List.length_nil]; omega)]
      simp only [queueJob, List.length_cons, Nat.add_min_add_right, List.take_succ_cons, List.drop_succ_cons, List.map_cons,
        List.append_assoc, List.cons_append, List.nil_append]
      rfl

/-! ### The reader and a released port (R117, R118, R89) -/

/-- R117, R125: the barring of a reader that is not barred. -/
theorem barReader_eq {s : Part} (h : s.sva.reader ≠ .barred) : barReader s = s.readerBarredNow := by
  cases hr : s.sva.reader with
  | challenging b r =>
    let X : Part := { s with prv.readerContext := none }
    let Y : Part := if s.active = true then X.toldReader (.refuse .barred) else X
    have e1 : barReader s = raise (.readerBarred Y.prv.readerCount Y.prv.barPeriod)
        { Y with prv.barTimer := Y.timer (Y.prv.barPeriod * Config.minute), sva.reader := .barred } := by
      unfold barReader; rw [hr]; rfl
    have e2 : s.readerBarredNow = Part.noticed { Y with
        prv := { Y.prv with barTimer := some (s.mtu.uptime + BitVec.ofNat 48 (s.prv.barPeriod * 60000)) }
        sva := { Y.sva with reader := .barred } } (.readerBarred s.prv.readerCount s.prv.barPeriod) := by
      unfold Part.readerBarredNow; rw [hr]
    rw [e1, e2]
    by_cases ha : s.active = true
    · have : Y = X.toldReader (.refuse .barred) := if_pos ha
      rw [this]; rfl
    · have : Y = X := if_neg ha
      rw [this]; rfl
  | ready => unfold barReader Part.readerBarredNow; rw [hr]; rfl
  | barred => exact absurd hr h

/-- R117, R118: outside SAVE the reader is evaluated as `Part.readerEvaluated` says. -/
theorem evalReader_eq {s : Part} (h : s.psc.state ≠ .save) : evalReader s = s.readerEvaluated := by
  unfold evalReader Part.readerEvaluated
  simp only [h, if_false]
  by_cases hl : limitReached s.prv.badgeLimit s.prv.readerCount = true <;> by_cases hb : s.sva.reader = .barred
  · simp [hl, hb, Part.readerBarred]
  · simp [hl, hb, Part.readerBarred, barReader_eq hb]
  · simp [hl, hb, Part.readerBarred, unbarReader]
  · simp [hl, hb, Part.readerBarred]

/-- R89: a port no longer barred goes where `PortRec.released` says. -/
theorem unbarPort_eq (p : Port) (s : Part) :
    unbarPort p s = { s with ports := s.ports.set p { s.ports[p] with admission := s.ports[p].released } } := by
  have e : (if s.ports[p].link then waitingState s.ports[p] else .dark) = s.ports[p].released := by
    unfold PortRec.released waitingState; cases s.ports[p].link <;> rfl
  rw [← e]; rfl

/-- R115: in SAVE no port is evaluated. -/
theorem evalPort_save {s : Part} (p : Port) (h : s.psc.state = .save) : evalPort p s = s := by
  unfold evalPort; rw [if_pos h]

/-- R115: in SAVE nothing is evaluated. -/
theorem evalAll_save {s : Part} (h : s.psc.state = .save) : evalAll s = s := by
  have ports : ∀ l : List Port, forEach l evalPort s = s := by
    intro l
    induction l with
    | nil => rfl
    | cons p l ih => rw [forEach_cons, evalPort_save p h, ih]
  unfold evalAll evalReader; rw [ports, if_pos h]

end Sys2Proof.Machine
end

