-- ==== Sys2Proof/Laws/PerInstr.lean ====
section
/-! SUPPORT. A law about every command as syntax: the payload of a well-formed host request fits a host frame, and its length is
checked by the kind the request is of. -/

namespace Sys2Proof.Laws

/-- R181, R183: a well-formed command that is a host request has a payload of at most 248 bytes. -/
def RequestBytes.Statement (i : Instr) : Prop :=
  ∀ (k : Machine.ReqKind) (tag : Byte) (payload : List Byte), Machine.requestOf i = some (k, tag, payload) → i.wf = true →
    payload.length ≤ 248

/-- A payload of three bytes with a selecting byte fits. -/
theorem selects_fits {d : List Byte} {i n : Nat} (h : selects d i n = true) : d.length ≤ 248 := by
  simp [selects] at h
  omega

theorem RequestBytes.identify (tag : Byte) (payload : List Byte) : RequestBytes.Statement (.identify tag payload) := by
  intro k t d h w
  cases h
  exact of_decide_eq_true w

theorem RequestBytes.status (tag : Byte) (payload : List Byte) : RequestBytes.Statement (.status tag payload) := by
  intro k t d h w
  cases h
  exact of_decide_eq_true w

theorem RequestBytes.restart (tag : Byte) (payload : List Byte) : RequestBytes.Statement (.restart tag payload) := by
  intro k t d h w
  cases h
  exact of_decide_eq_true w

theorem RequestBytes.restartCarryOut : RequestBytes.Statement .restartCarryOut := fun _ _ _ h => nomatch h

theorem RequestBytes.trkRestart : RequestBytes.Statement .trkRestart := fun _ _ _ h => nomatch h

theorem RequestBytes.fcoRestart : RequestBytes.Statement .fcoRestart := fun _ _ _ h => nomatch h

theorem RequestBytes.spxRestart : RequestBytes.Statement .spxRestart := fun _ _ _ h => nomatch h

theorem RequestBytes.prvRestart : RequestBytes.Statement .prvRestart := fun _ _ _ h => nomatch h

theorem RequestBytes.svaRestart : RequestBytes.Statement .svaRestart := fun _ _ _ h => nomatch h

theorem RequestBytes.mtuRestart : RequestBytes.Statement .mtuRestart := fun _ _ _ h => nomatch h

theorem RequestBytes.nvsRestart : RequestBytes.Statement .nvsRestart := fun _ _ _ h => nomatch h

theorem RequestBytes.mask (tag : Byte) (payload : List Byte) : RequestBytes.Statement (.mask tag payload) := by
  intro k t d h w
  cases h
  exact of_decide_eq_true w

theorem RequestBytes.quiet (tag : Byte) (payload : List Byte) : RequestBytes.Statement (.quiet tag payload) := by
  intro k t d h w
  cases h
  exact of_decide_eq_true w

theorem RequestBytes.wake (tag : Byte) (payload : List Byte) : RequestBytes.Statement (.wake tag payload) := by
  intro k t d h w
  cases h
  exact of_decide_eq_true w

theorem RequestBytes.lineStart (tag : Byte) (payload : List Byte) : RequestBytes.Statement (.lineStart tag payload) := by
  intro k t d h w
  cases h
  exact of_decide_eq_true w

theorem RequestBytes.lineStop (tag : Byte) (payload : List Byte) : RequestBytes.Statement (.lineStop tag payload) := by
  intro k t d h w
  cases h
  exact of_decide_eq_true w

theorem RequestBytes.trackReadList (tag : Byte) (payload : List Byte) : RequestBytes.Statement (.trackReadList tag payload) := by
  intro k t d h w
  cases h
  exact of_decide_eq_true (Bool.and_elim_left w)

theorem RequestBytes.trackReadRecord (tag : Byte) (payload : List Byte) : RequestBytes.Statement (.trackReadRecord tag payload) := by
  intro k t d h w
  cases h
  exact selects_fits w

theorem RequestBytes.exitReadSummary (tag : Byte) (payload : List Byte) : RequestBytes.Statement (.exitReadSummary tag payload) := by
  intro k t d h w
  cases h
  exact of_decide_eq_true (Bool.and_elim_left w)

theorem RequestBytes.exitReadIndex (tag : Byte) (payload : List Byte) : RequestBytes.Statement (.exitReadIndex tag payload) := by
  intro k t d h w
  cases h
  exact selects_fits w

theorem RequestBytes.exitReadContainer (tag : Byte) (payload : List Byte) : RequestBytes.Statement (.exitReadContainer tag payload) := by
  intro k t d h w
  cases h
  exact selects_fits w

theorem RequestBytes.exitReadNextEscape (tag : Byte) (payload : List Byte) : RequestBytes.Statement (.exitReadNextEscape tag payload) := by
  intro k t d h w
  cases h
  exact selects_fits w

theorem RequestBytes.feedOpen (tag : Byte) (payload : List Byte) : RequestBytes.Statement (.feedOpen tag payload) := by
  intro k t d h w
  cases h
  exact of_decide_eq_true w

theorem RequestBytes.feedClose (tag : Byte) (payload : List Byte) : RequestBytes.Statement (.feedClose tag payload) := by
  intro k t d h w
  cases h
  exact of_decide_eq_true w

theorem RequestBytes.feedRead (tag : Byte) (payload : List Byte) : RequestBytes.Statement (.feedRead tag payload) := by
  intro k t d h w
  cases h
  exact of_decide_eq_true w

theorem RequestBytes.portRead (tag : Byte) (payload : List Byte) : RequestBytes.Statement (.portRead tag payload) := by
  intro k t d h w
  cases h
  exact of_decide_eq_true w

theorem RequestBytes.portPark (tag : Byte) (payload : List Byte) : RequestBytes.Statement (.portPark tag payload) := by
  intro k t d h w
  cases h
  exact of_decide_eq_true w

theorem RequestBytes.portWake (tag : Byte) (payload : List Byte) : RequestBytes.Statement (.portWake tag payload) := by
  intro k t d h w
  cases h
  exact of_decide_eq_true w

theorem RequestBytes.relay (tag : Byte) (payload : List Byte) : RequestBytes.Statement (.relay tag payload) := by
  intro k t d h w
  cases h
  exact of_decide_eq_true w

theorem RequestBytes.sessionRead (tag : Byte) (payload : List Byte) : RequestBytes.Statement (.sessionRead tag payload) := by
  intro k t d h w
  cases h
  exact of_decide_eq_true w

theorem RequestBytes.holdList (tag : Byte) (payload : List Byte) : RequestBytes.Statement (.holdList tag payload) := by
  intro k t d h w
  cases h
  exact of_decide_eq_true w

theorem RequestBytes.lockout (tag : Byte) (payload : List Byte) : RequestBytes.Statement (.lockout tag payload) := by
  intro k t d h w
  cases h
  exact of_decide_eq_true w

theorem RequestBytes.release (tag : Byte) (payload : List Byte) : RequestBytes.Statement (.release tag payload) := by
  intro k t d h w
  cases h
  exact of_decide_eq_true w

theorem RequestBytes.removeHold (tag : Byte) (payload : List Byte) : RequestBytes.Statement (.removeHold tag payload) := by
  intro k t d h w
  cases h
  exact of_decide_eq_true w

theorem RequestBytes.signOff (tag : Byte) (payload : List Byte) : RequestBytes.Statement (.signOff tag payload) := by
  intro k t d h w
  cases h
  exact of_decide_eq_true w

theorem RequestBytes.sessionClose (tag : Byte) (payload : List Byte) : RequestBytes.Statement (.sessionClose tag payload) := by
  intro k t d h w
  cases h
  exact of_decide_eq_true w

theorem RequestBytes.unbar (tag : Byte) (payload : List Byte) : RequestBytes.Statement (.unbar tag payload) := by
  intro k t d h w
  cases h
  exact of_decide_eq_true w

theorem RequestBytes.timeSet (tag : Byte) (payload : List Byte) : RequestBytes.Statement (.timeSet tag payload) := by
  intro k t d h w
  cases h
  exact of_decide_eq_true w

theorem RequestBytes.timeRead (tag : Byte) (payload : List Byte) : RequestBytes.Statement (.timeRead tag payload) := by
  intro k t d h w
  cases h
  exact of_decide_eq_true w

theorem RequestBytes.meterRead (tag : Byte) (payload : List Byte) : RequestBytes.Statement (.meterRead tag payload) := by
  intro k t d h w
  cases h
  exact of_decide_eq_true w

theorem RequestBytes.meterAdd (tag : Byte) (payload : List Byte) : RequestBytes.Statement (.meterAdd tag payload) := by
  intro k t d h w
  cases h
  exact of_decide_eq_true w

theorem RequestBytes.settingReadSection (tag : Byte) (payload : List Byte) : RequestBytes.Statement (.settingReadSection tag payload) := by
  intro k t d h w
  cases h
  exact of_decide_eq_true (Bool.and_elim_left w)

theorem RequestBytes.settingReadProtection (tag : Byte) (payload : List Byte) : RequestBytes.Statement (.settingReadProtection tag payload) := by
  intro k t d h w
  cases h
  exact selects_fits w

theorem RequestBytes.settingWrite (tag : Byte) (payload : List Byte) : RequestBytes.Statement (.settingWrite tag payload) := by
  intro k t d h w
  cases h
  exact of_decide_eq_true w

theorem RequestBytes.sectionLockSection (tag : Byte) (payload : List Byte) : RequestBytes.Statement (.sectionLockSection tag payload) := by
  intro k t d h w
  cases h
  exact of_decide_eq_true (Bool.and_elim_left w)

theorem RequestBytes.sectionLockKeySlot (tag : Byte) (payload : List Byte) : RequestBytes.Statement (.sectionLockKeySlot tag payload) := by
  intro k t d h w
  cases h
  exact selects_fits w

theorem RequestBytes.locksFreeze (tag : Byte) (payload : List Byte) : RequestBytes.Statement (.locksFreeze tag payload) := by
  intro k t d h w
  cases h
  exact of_decide_eq_true w

theorem RequestBytes.boundarySet (tag : Byte) (payload : List Byte) : RequestBytes.Statement (.boundarySet tag payload) := by
  intro k t d h w
  cases h
  exact of_decide_eq_true w

theorem RequestBytes.unknownKind (kind tag : Byte) (payload : List Byte) : RequestBytes.Statement (.unknownKind kind tag payload) := fun _ _ _ h => nomatch h

theorem RequestBytes.transmitterFrameEnd : RequestBytes.Statement .transmitterFrameEnd := fun _ _ _ h => nomatch h

theorem RequestBytes.encoderPulse : RequestBytes.Statement .encoderPulse := fun _ _ _ h => nomatch h

theorem RequestBytes.pitchEvent (infeed : Bool) : RequestBytes.Statement (.pitchEvent infeed) := fun _ _ _ h => nomatch h

theorem RequestBytes.ignoredPitch : RequestBytes.Statement .ignoredPitch := fun _ _ _ h => nomatch h

theorem RequestBytes.gateTimerExpiry : RequestBytes.Statement .gateTimerExpiry := fun _ _ _ h => nomatch h

theorem RequestBytes.reserve (container : Half) (port : Port) (feed : Feed) (doses : Nat) : RequestBytes.Statement (.reserve container port feed doses) := fun _ _ _ h => nomatch h

theorem RequestBytes.reserveAnswer (port : Port) (answer : ReserveAnswer) : RequestBytes.Statement (.reserveAnswer port answer) := fun _ _ _ h => nomatch h

theorem RequestBytes.clear (container : Half) (port : Port) : RequestBytes.Statement (.clear container port) := fun _ _ _ h => nomatch h

theorem RequestBytes.doseDone (container : Half) (port : Port) (feed : Feed) : RequestBytes.Statement (.doseDone container port feed) := fun _ _ _ h => nomatch h

theorem RequestBytes.fillEnd (container : Half) (port : Port) (feed : Feed) (result : EndResult) : RequestBytes.Statement (.fillEnd container port feed result) := fun _ _ _ h => nomatch h

theorem RequestBytes.windowLeft (container : Half) (port : Port) (feed : Feed) : RequestBytes.Statement (.windowLeft container port feed) := fun _ _ _ h => nomatch h

theorem RequestBytes.idleMarker (port : Port) : RequestBytes.Statement (.idleMarker port) := fun _ _ _ h => nomatch h

theorem RequestBytes.linkTimerExpiry (port : Port) : RequestBytes.Statement (.linkTimerExpiry port) := fun _ _ _ h => nomatch h

theorem RequestBytes.hello (port : Port) (identity : Identity) (role : Byte) : RequestBytes.Statement (.hello port identity role) := fun _ _ _ h => nomatch h

theorem RequestBytes.proof (port : Port) (nonce proof : Block) : RequestBytes.Statement (.proof port nonce proof) := fun _ _ _ h => nomatch h

theorem RequestBytes.proofTimerExpiry (port : Port) : RequestBytes.Statement (.proofTimerExpiry port) := fun _ _ _ h => nomatch h

theorem RequestBytes.disown (port : Port) : RequestBytes.Statement (.disown port) := fun _ _ _ h => nomatch h

theorem RequestBytes.report (port : Port) (status : Byte) : RequestBytes.Statement (.report port status) := fun _ _ _ h => nomatch h

theorem RequestBytes.undefinedKind (port : Port) (kind : Byte) : RequestBytes.Statement (.undefinedKind port kind) := fun _ _ _ h => nomatch h

theorem RequestBytes.claim (port : Port) (feed : Byte) (container : Half) (doses : Byte) : RequestBytes.Statement (.claim port feed container doses) := fun _ _ _ h => nomatch h

theorem RequestBytes.cancel (port : Port) : RequestBytes.Statement (.cancel port) := fun _ _ _ h => nomatch h

theorem RequestBytes.take (port : Port) (feed : Byte) : RequestBytes.Statement (.take port feed) := fun _ _ _ h => nomatch h

theorem RequestBytes.doseStart (port : Port) (container : Half) (index : Byte) : RequestBytes.Statement (.doseStart port container index) := fun _ _ _ h => nomatch h

theorem RequestBytes.doseEnd (port : Port) (container : Half) (index : Byte) (result : Byte) : RequestBytes.Statement (.doseEnd port container index result) := fun _ _ _ h => nomatch h

theorem RequestBytes.takeTimerExpiry (feed : Feed) : RequestBytes.Statement (.takeTimerExpiry feed) := fun _ _ _ h => nomatch h

theorem RequestBytes.holdTimerExpiry (feed : Feed) : RequestBytes.Statement (.holdTimerExpiry feed) := fun _ _ _ h => nomatch h

theorem RequestBytes.verdict (port : Port) (container : Half) (result reason : Byte) : RequestBytes.Statement (.verdict port container result reason) := fun _ _ _ h => nomatch h

theorem RequestBytes.stationRelay (port : Port) (data : List Byte) : RequestBytes.Statement (.stationRelay port data) := fun _ _ _ h => nomatch h

theorem RequestBytes.secondBoundary : RequestBytes.Statement .secondBoundary := fun _ _ _ h => nomatch h

theorem RequestBytes.present (badge : Word) : RequestBytes.Statement (.present badge) := fun _ _ _ h => nomatch h

theorem RequestBytes.readerProof (nonce proof : Block) : RequestBytes.Statement (.readerProof nonce proof) := fun _ _ _ h => nomatch h

theorem RequestBytes.readerProofTimerExpiry : RequestBytes.Statement .readerProofTimerExpiry := fun _ _ _ h => nomatch h

theorem RequestBytes.barTimerExpiry : RequestBytes.Statement .barTimerExpiry := fun _ _ _ h => nomatch h

theorem RequestBytes.idleTimerExpiry (session : Byte) : RequestBytes.Statement (.idleTimerExpiry session) := fun _ _ _ h => nomatch h

theorem RequestBytes.storeJobStart : RequestBytes.Statement .storeJobStart := fun _ _ _ h => nomatch h

theorem RequestBytes.settingJobEnd (written : Bool) : RequestBytes.Statement (.settingJobEnd written) := fun _ _ _ h => nomatch h

theorem RequestBytes.lockJobEnd (written : Bool) : RequestBytes.Statement (.lockJobEnd written) := fun _ _ _ h => nomatch h

theorem RequestBytes.freezeJobEnd (written : Bool) : RequestBytes.Statement (.freezeJobEnd written) := fun _ _ _ h => nomatch h

theorem RequestBytes.boundaryJobEnd (written : Bool) : RequestBytes.Statement (.boundaryJobEnd written) := fun _ _ _ h => nomatch h

theorem RequestBytes.holdAddJobEnd (written : Bool) : RequestBytes.Statement (.holdAddJobEnd written) := fun _ _ _ h => nomatch h

theorem RequestBytes.holdRemoveJobEnd (written : Bool) : RequestBytes.Statement (.holdRemoveJobEnd written) := fun _ _ _ h => nomatch h

theorem RequestBytes.thresholdJobEnd (written : Bool) : RequestBytes.Statement (.thresholdJobEnd written) := fun _ _ _ h => nomatch h

theorem RequestBytes.failcountJobEnd (written : Bool) : RequestBytes.Statement (.failcountJobEnd written) := fun _ _ _ h => nomatch h

theorem RequestBytes.checkpointJobEnd (written : Bool) : RequestBytes.Statement (.checkpointJobEnd written) := fun _ _ _ h => nomatch h

theorem RequestBytes.checkpointTimerExpiry : RequestBytes.Statement .checkpointTimerExpiry := fun _ _ _ h => nomatch h

theorem RequestBytes.supwarnAssert : RequestBytes.Statement .supwarnAssert := fun _ _ _ h => nomatch h

theorem RequestBytes.supwarnDeassert : RequestBytes.Statement .supwarnDeassert := fun _ _ _ h => nomatch h

theorem RequestBytes.supplyLowTimerExpiry : RequestBytes.Statement .supplyLowTimerExpiry := fun _ _ _ h => nomatch h

theorem RequestBytes.saveHoldExpiry (strap : Bool) : RequestBytes.Statement (.saveHoldExpiry strap) := fun _ _ _ h => nomatch h

theorem RequestBytes.powerOn (strap : Bool) : RequestBytes.Statement (.powerOn strap) := fun _ _ _ h => nomatch h

theorem RequestBytes.powerLoss (written : Bool) : RequestBytes.Statement (.powerLoss written) := fun _ _ _ h => nomatch h

theorem RequestBytes.enterRun : RequestBytes.Statement .enterRun := fun _ _ _ h => nomatch h

theorem RequestBytes.hostFrameDiscarded (characters : List Character) :
    RequestBytes.Statement (.hostFrameDiscarded characters) := fun _ _ _ h => nomatch h

theorem RequestBytes.hostIdleGap : RequestBytes.Statement .hostIdleGap := fun _ _ _ h => nomatch h

theorem RequestBytes.stationFrameDiscarded (port : Port) (kind : Byte) (payload : List Byte) (crc : Half) :
    RequestBytes.Statement (.stationFrameDiscarded port kind payload crc) := fun _ _ _ h => nomatch h

theorem RequestBytes.uptimeMillisecond : RequestBytes.Statement .uptimeMillisecond := fun _ _ _ h => nomatch h

end Sys2Proof.Laws
end

