-- ==== Sys2Proof/Tests/Slice0.lean ====
section
/-! SUPPORT. The model's own tests: a command that each check of WellFormed refuses, the two published vectors of the frame check and
the cipher, single steps on small states, and for every statement with hypotheses a state and operands that meet them. -/

namespace Sys2Proof.Tests

open Sys2Proof.Machine

set_option maxRecDepth 20000

/-! ### Small states -/

/-- A part in RUN over a fresh store. -/
def run : Part := { State.reset.part with psc.state := .run }

/-- The same in QUIET. -/
def quiet : Part := { State.reset.part with psc.state := .quiet }

/-- The same in SAVE. -/
def save : Part := { State.reset.part with psc.state := .save }

/-- The same without supply. -/
def off : Part := { State.reset.part with psc.state := .off }

/-- A part with a line that runs. -/
def rolling : Part := { run with trk.line := .running }

/-- An ADMITTED robot that is READY on port 4. -/
def robot : Part := modPort 3 (fun r => { r with
  cfg := ⟨.robot, 5, 0, true⟩, admission := .admitted, status := some .ready, link := true, linkTimer := some 50 }) run

/-- An ADMITTED camera on port 6, at offset 4. -/
def camera : Part :=
  { modPort 5 (fun r => { r with
      cfg := ⟨.camera, 6, 0, false⟩, admission := .admitted, status := some .ready, link := true, linkTimer := some 50 }) run
    with trk.geometry.cameras := run.trk.geometry.cameras.set 5 ⟨4, true, false⟩ }

/-- A record of container 9 entered at pitch 0. -/
def record : Record := ⟨9, 0, none, [], false⟩

/-- The track with container 9 at a position, and a window 2 to 5 for port 4. -/
def tracked (pos : Word) (s : Part) : Part :=
  { s with
    trk.track := [record], trk.pitch := pos
    trk.geometry.windows := s.trk.geometry.windows.set 3 ⟨2, 5⟩ }

/-- A lease of port 4 for container 9. -/
def lease : Lease := ⟨3, 9, 3, 1, 0, false, 0, false, some 0, .free⟩

/-- Feed 2 in a state. -/
def feedIn (t : FeedState) (s : Part) : Part := setFeed 1 t s

/-- A session of badge 7. -/
def session (role : BadgeRole) : Session := ⟨1, 7, role, ⟨0, true⟩, some 5⟩

/-- A part with one open session. -/
def inSession (role : BadgeRole) : Part := { run with sva.sessions := [session role], sva.lastSession := 1 }

/-- A hold of badge 7 on port 4. -/
def hold : Hold := ⟨7, 1, ⟨0, true⟩, true, false⟩

/-- A hold placed on port 4. -/
def held (l : List Hold) (s : Part) : Part := { s with sva.holders := s.sva.holders.set 3 l }

/-- A store queue of n checkpoint jobs. -/
def busyStore (n : Nat) (s : Part) : Part := { s with nvs.queue := List.replicate n ⟨.freeze, []⟩ }

/-- A job in flight. -/
def flying (b : JobBody) (s : Part) : Part := { s with nvs.inFlight := some ⟨b, [0]⟩ }

/-- What a command makes of a part. -/
def after (c : Instr) (p : Part) : Part := match exec c ⟨p, []⟩ with
  | .next s => s.part
  | _ => p

/-! ### WellFormed -/

theorem test_wf_long_payload : (Instr.identify 0 (List.replicate 249 0)).wf = false := by decide
theorem test_wf_payload : (Instr.identify 0 (List.replicate 248 0)).wf = true := by decide
theorem test_wf_track_list : (Instr.trackReadList 0 [1, 0, 0]).wf = false := by decide
theorem test_wf_track_record : (Instr.trackReadRecord 0 [0, 0, 0]).wf = false := by decide
theorem test_wf_exit_summary : (Instr.exitReadSummary 0 [2, 0, 0]).wf = false := by decide
theorem test_wf_exit_index : (Instr.exitReadIndex 0 [0, 0, 0]).wf = false := by decide
theorem test_wf_exit_container : (Instr.exitReadContainer 0 [1, 0, 0]).wf = false := by decide
theorem test_wf_exit_escape : (Instr.exitReadNextEscape 0 [2, 0, 0]).wf = false := by decide
theorem test_wf_setting_section : (Instr.settingReadSection 0 [1, 0, 0]).wf = false := by decide
theorem test_wf_setting_protection : (Instr.settingReadProtection 0 [0, 0, 0]).wf = false := by decide
theorem test_wf_lock_section : (Instr.sectionLockSection 0 [1, 1, 0]).wf = false := by decide
theorem test_wf_lock_slot : (Instr.sectionLockKeySlot 0 [1, 0, 0]).wf = false := by decide
theorem test_wf_unknown_kind : (Instr.unknownKind 0x22 0 []).wf = false := by decide
theorem test_wf_undefined_kind : (Instr.undefinedKind 0 0x0B).wf = false := by decide
theorem test_wf_relay : (Instr.stationRelay 0 (List.replicate 65 0)).wf = false := by decide
theorem test_wf_station_frame : (Instr.stationFrameDiscarded 0 0x06 [] (crc16 [0, 0x06])).wf = false ∧
    (Instr.stationFrameDiscarded 0 0x06 [] 0).wf = true := by decide
theorem test_wf_reserve : (Instr.reserve 1 0 0 4).wf = false ∧ (Instr.reserve 1 0 0 0).wf = false := by decide

/-! ### Published vectors -/

set_option maxRecDepth 100000 in
theorem test_crc : crc16 [0x31, 0x32, 0x33, 0x34, 0x35, 0x36, 0x37, 0x38, 0x39] = 0x29B1 := by decide

set_option maxRecDepth 100000 in
theorem test_aes :
    aes 0x000102030405060708090a0b0c0d0e0f 0x00112233445566778899aabbccddeeff = 0x69c4e0d86a7b0430d8cdb78070b4c55a := by decide

/-! ### Single steps -/

theorem test_idle : step State.reset = .next State.reset := rfl

theorem test_front : step ⟨run, [.encoderPulse, .hostIdleGap]⟩ = .next ⟨after .encoderPulse run, [.hostIdleGap]⟩ := rfl

theorem test_enter_run : (after .enterRun State.reset.part).psc.state = .run ∧
    (after .enterRun State.reset.part).hlc.notices.map (·.body) = [.restarted .power] := by decide

theorem test_line_start : (after (.lineStart 7 []) run).trk.line = .running ∧
    (after (.lineStart 7 []) run).hlc.replies = [⟨some 0, 7, 7, .done, []⟩] := by decide

theorem test_pitch : (after (.pitchEvent true) rolling).trk.track.map (·.container) = [1] ∧
    (after (.pitchEvent true) rolling).trk.pitch = 1 := by decide

theorem test_gate : (after (.pitchEvent false) (tracked 11 rolling)).trk.exits.map (fun e => (e.decision, e.causes.noFill)) =
    [(.reject, true)] ∧ (after (.pitchEvent false) (tracked 11 rolling)).trk.gate = true := by decide

theorem test_claim : (after (.claim 3 2 9 3) (feedIn .free (tracked 2 robot))).fco.toTrk = [.reserve 9 3 1 3] := by decide

theorem test_lockout_cuts :
    let s := after (.lockout 0 [1, 4]) (feedIn (.held { lease with inFlight := true }) { robot with
      sva := (inSession .operator).sva })
    s.fco.feeds[(1 : Feed)].state.byte = 4 ∧ s.sva.draining[(3 : Port)] = true ∧ s.runEnable 3 = true ∧
      s.ports[(3 : Port)].admission = .listening ∧ s.nvs.queue.length = 1 := by decide

/-- What HLC's receiver is after characters, from ready. -/
def receiving (l : List Character) : Receiver := (after (.hostFrameDiscarded l) run).hlc.receiver

theorem test_receiver : receiving [some 0x5A] = .gapWanted ∧ receiving [some 0xA5, some 249, some 0] = .gapWanted ∧
    receiving [some 0xA5, some 1, none] = .gapWanted ∧ receiving [some 0xA5, some 0, some 0, some 2] = .insideFrame [0, 0, 2] ∧
    receiving ([0xA5, 0, 0, 2, 3, 0, 0].map some) = .gapWanted ∧ receiving ((hostFrame 2 3 []).map some) = .ready := by decide

theorem test_receiver_goes_on :
    (after .hostFrameDiscarded { run with hlc.receiver := .insideFrame [0, 0] }).hlc.receiver = .gapWanted ∧
    (after .hostIdleGap { run with hlc.receiver := .insideFrame [0, 0] }).hlc.receiver = .ready ∧
    (after (.identify 7 []) { run with hlc.receiver := .gapWanted }).hlc.replies = [] := by decide

theorem test_station_check : (after (.stationFrameDiscarded 3 0x06 [] 0) robot).ports[(3 : Port)].hunting = true ∧
    (after (.stationFrameDiscarded 3 0x06 [1] (crc16 [1, 0x06, 1])) robot).ports[(3 : Port)].hunting = true ∧
    (after (.stationFrameDiscarded 3 0x06 [] (crc16 [0, 0x06])) robot).ports[(3 : Port)].hunting = false := by decide

theorem test_count_stays_at_255 : (countFailure .reader { run with
    prv.readerCount := 255, prv.badgeLimit := 0, nvs.queue := [⟨.failcount .reader 0 true false, [3]⟩] }).nvs.queue =
      [⟨.failcount .reader 255 true false, [3]⟩] := by decide

theorem test_hold_removed_in_save :
    let s : Part := { held [hold] save with sva.lockouts := [⟨4, 3, 7⟩], hlc.table := [⟨4, .lockout, 1, [], .sva, .dispatched⟩] }
    (after (.holdRemoveJobEnd true) (flying (.holdRemove 3 7) s)).hlc.replies = [] ∧
      (after (.holdRemoveJobEnd true) (flying (.holdRemove 3 7) { s with psc.state := .run })).hlc.replies =
        [⟨some 4, 0x14, 1, .aborted, []⟩] := by decide

theorem test_setting_range : settingOf (.feed 0) [1, 150, 0, 0xDC, 5] = some (.feed 0 ⟨true, 150, 1500⟩) ∧
    settingOf (.feed 0) [1, 19, 0, 0xDC, 5] = none := by decide

theorem test_port_unit : settingOf (.port 0) [1, 1, 2, 3, 4, 5, 6, 7, 8, 3, 1] =
    some (.port 0 ⟨.robot, 0x0102030405060708, 3, true⟩) := by decide

theorem test_line_unit : settingOf .line Geometry.default.bytes = some (.line Geometry.default) := by decide

theorem test_save_hold : (after (.saveHoldExpiry true) { save with psc.saveHold := some 0 }).psc.cause = .supplyLow := by decide

/-! ### Witnesses: for every statement with hypotheses, states and operands that meet them, clause by clause -/

/-- Every request kind can be served in RUN. -/
theorem test_served : ∀ k : ReqKind, run.serves k := by intro k; cases k <;> decide

/-- The five kinds that QUIET serves. -/
theorem test_served_quiet : ∀ k ∈ [ReqKind.identify, .status, .timeRead, .meterRead, .wake], quiet.serves k := by decide

/-- Every request that needs a session can be accepted. -/
theorem test_accepted : ∀ k : ReqKind, k.needsSession = true → (inSession .supervisor).accepts k 1 (session .supervisor) := by
  intro k; cases k <;> decide

theorem test_StepTakesTheFrontCommand : (⟨run, [.encoderPulse]⟩ : State).pending = .encoderPulse :: [] ∧
    State.reset.pending = [] := by decide

/-- A track with a decided container and one on its way, and GATE down. -/
def wellTracked : Part := { tracked 3 rolling with
  trk.exits := [⟨⟨8, 0, some ⟨3, 1, 1, 1, .filled⟩, [], false⟩, 12, .pass, ⟨false, false, false, false, false, false⟩, 12,
    ⟨0, true⟩, [], true, true⟩] }

theorem test_StepKeepsTrackSound : wellTracked.trk.sound ∧
    step ⟨wellTracked, [.encoderPulse]⟩ = .next ⟨after .encoderPulse wellTracked, []⟩ := by
  refine ⟨?_, rfl⟩
  unfold Trk.sound
  decide

/-- The same with the next number the track and the exit list lead up to. -/
def wellNumbered : Part := { wellTracked with trk.nextContainer := 10 }

theorem test_StepKeepsTrackOrdered : wellNumbered.trackOrdered ∧ wellNumbered.trk.containers = [8, 9] ∧
    step ⟨wellNumbered, [.pitchEvent true]⟩ = .next ⟨after (.pitchEvent true) wellNumbered, []⟩ := by
  refine ⟨⟨by decide, by decide, ⟨by decide, by decide⟩, by decide, by decide, by decide, ?_⟩, by decide, rfl⟩
  exact fun j hj => absurd hj List.not_mem_nil

/-- A table with one request and a queue with one notice. -/
def wellLinked : Part := { after (.lineStart 7 []) run with hlc.gap := 255, hlc.mask := 7 }

theorem test_StepKeepsHostLinkSound : wellLinked.hlc.sound ∧
    step ⟨wellLinked, [.lineStart 8 []]⟩ = .next ⟨after (.lineStart 8 []) wellLinked, []⟩ := by
  refine ⟨?_, rfl⟩
  unfold Hlc.sound
  decide

theorem test_StepKeepsSessionsSound : (inSession .operator).sva.sessionsSound ∧
    step ⟨inSession .operator, [.idleTimerExpiry 1]⟩ = .next ⟨after (.idleTimerExpiry 1) (inSession .operator), []⟩ := by
  refine ⟨?_, rfl⟩
  refine ⟨by decide, by decide, by decide, by decide, trivial⟩

theorem test_StepKeepsQueuesInBounds : (busyStore 8 robot).queuesFit ∧
    step ⟨busyStore 8 robot, [.storeJobStart]⟩ = .next ⟨after .storeJobStart (busyStore 8 robot), []⟩ := by
  refine ⟨?_, rfl⟩
  unfold Part.queuesFit
  decide

/-- A FREE feed with an entry of port 4 in its queue, which the robot holds alone. -/
def wellClaimed : Part := setQueue 1 [⟨3, 9, 3, false⟩] (feedIn .free robot)

theorem test_StepKeepsClaimsSound : wellClaimed.claimsSound ∧
    step ⟨wellClaimed, [.disown 3]⟩ = .next ⟨after (.disown 3) wellClaimed, []⟩ := by
  have noLease : ∀ f : Feed, wellClaimed.fco.feeds[f].state.lease? = none := by decide
  have noClaim : ∀ p : Port, wellClaimed.fco.claims[p] = none := by decide
  refine ⟨⟨by decide, by decide, ?_, ?_, ?_, by decide⟩, rfl⟩
  · intro f l h
    have := noLease f
    rw [h] at this
    cases this
  · intro p k h
    rw [noClaim p] at h
    cases h
  · intro f l h
    rw [noLease f] at h
    cases h

/-- Port 4 BARRED with its count at the limit. -/
def barredPort : Part := modPort 3 (fun r => { r with admission := .barred }) { run with prv.counts := run.prv.counts.set 3 3 }

theorem test_StepKeepsBarringSound : barredPort.barringSound ∧
    step ⟨barredPort, [.idleMarker 3]⟩ = .next ⟨after (.idleMarker 3) barredPort, []⟩ := by
  refine ⟨?_, rfl⟩
  unfold Part.barringSound
  decide

theorem test_StepKeepsHoldsStored : run.holdsSound ∧
    step ⟨run, [.lockout 0 [1, 4]]⟩ = .next ⟨after (.lockout 0 [1, 4]) run, []⟩ := by
  refine ⟨⟨by decide, by decide, fun _ => ⟨by decide, fun h => ⟨fun hm => absurd hm (List.not_mem_nil), ?_⟩,
    (fun _ hj => absurd hj (List.not_mem_nil)), by decide⟩⟩, rfl⟩
  rintro ⟨x, hx, -⟩
  have : ∀ p : Port, run.sva.holders[p] = [] := by decide
  rw [this] at hx
  exact absurd hx (List.not_mem_nil)

theorem test_GoodFramesAreCheckedInOrder : (List.replicate 248 (0 : Byte)).length ≤ 248 ∧ run.hostReceives = true ∧
    run.hlc.receiver = .ready ∧ ¬ (1 ≤ (0x23 : Byte).toNat ∧ (0x23 : Byte).toNat ≤ 0x22) ∧
    ¬ (1 ≤ (0 : Byte).toNat ∧ (0 : Byte).toNat ≤ 0x22) ∧
    requestOf (.mask 0 []) = some (.mask, 0, []) ∧ lengthFits .mask [] = false ∧ lengthFits .mask [7] = true ∧
    save.hostReceives = true ∧ save.hlc.receiver = .ready ∧ quiet.hostReceives = true ∧
    (ReqKind.mask ∉ [ReqKind.status, .identify, .timeRead, .meterRead, .wake]) ∧
    8 ≤ ({ run with hlc.table := List.replicate 8 ⟨0, .mask, 0, [], .hlc, .dispatched⟩ } : Part).hlc.table.length ∧
    (wellLinked.hlc.table.map (·.handle)).Nodup ∧ wellLinked.hlc.table = [⟨0, .lineStart, 7, [], .trk, .replied⟩] := by decide

theorem test_ReceiverWaitsForAnIdleGap : run.hostReceives = true ∧ State.reset.part.hostReceives = false ∧
    ({ run with hlc.receiver := .gapWanted } : Part).hlc.receiver ≠ .ready ∧ run.hlc.receiver = .ready ∧
    (some 0x5A : Character) ≠ some 0xA5 ∧ (none : Character) ≠ some 0xA5 ∧ ([249] : List Byte).length < 2 ∧
    248 < (249 : Byte).toNat + 256 * (0 : Byte).toNat ∧ ¬ 248 < (248 : Byte).toNat + 256 * (0 : Byte).toNat ∧
    fromLe (([0, 0, 2, 3, 9] : List Byte).take 2) ≤ 248 ∧ ([0, 0, 2, 3, 9] : List Byte).length < fromLe (([0, 0, 2, 3, 9] : List Byte).take 2) + 6 ∧
    ({ run with hlc.receiver := .insideFrame [0, 0, 2, 3, 9] } : Part).hlc.receiver = .insideFrame [0, 0, 2, 3, 9] ∧
    ([0, 0, 2, 3, 9] : List Byte) = le 2 ([] : List Byte).length ++ [2, 3] ++ [] ++ [9] ∧
    ((9 : Byte) ++ (9 : Byte) : Half) ≠ crc16 [0, 0, 2, 3] ∧
    (((crc16 [0, 0, 2, 3]) >>> 8).setWidth 8 ++ (crc16 [0, 0, 2, 3]).setWidth 8 : Half) = crc16 [0, 0, 2, 3] := by decide

theorem test_MaskSetsTheLevel : run.serves .mask ∧ (7 : Byte).toNat ≤ 7 ∧ 7 < (8 : Byte).toNat ∧
    quiet.hlc.receiver = .ready ∧ save.hlc.receiver = .ready := by decide

/-- A notice of priority 2 in the queue, and one of priority 1 before it. -/
def noticed : Part := { run with hlc.notices := [⟨.relay 0 [], ⟨0, true⟩, 0⟩, ⟨.woken .wake, ⟨0, true⟩, 0⟩], hlc.mask := 1 }

theorem test_TransmitterTakesRepliesAndNoticesInTurn : State.reset.part.hostSends = false ∧ noticed.hostSends = true ∧
    ({ noticed with hlc.sending := some (.reply ⟨some 0, 7, 7, .done, []⟩) } : Part).hlc.sending =
      some (.reply ⟨some 0, 7, 7, .done, []⟩) ∧
    noticed.hlc.sending = none ∧ noticed.hlc.replies = [] ∧ (∀ n ∈ run.hlc.notices, n.body.priority ≤ run.hlc.mask) ∧
    wellLinked.hlc.replies = ⟨some 0, 7, 7, .done, []⟩ :: [] ∧
    noticed.hlc.notices = [⟨.relay 0 [], ⟨0, true⟩, 0⟩] ++ ⟨.woken .wake, ⟨0, true⟩, 0⟩ :: [] ∧
    (∀ m ∈ [(⟨.relay 0 [], ⟨0, true⟩, 0⟩ : Notice)], m.body.priority ≤ noticed.hlc.mask) ∧
    noticed.hlc.mask < (NoticeBody.woken .wake).priority ∧ 0 < wellLinked.hlc.gap := by decide

/-- A full queue of PORT STATE notices behind one RESTARTED. -/
def fullQueue : Part := { run with hlc.notices :=
  ⟨.restarted .power, ⟨0, true⟩, 0⟩ :: List.replicate 31 ⟨.portState 0 .dark .linkDown, ⟨0, true⟩, 0⟩ }

theorem test_FullQueueDisplacesTheLowest : fullQueue.hlc.notices.length = 32 ∧
    fullQueue.hlc.notices = [⟨.restarted .power, ⟨0, true⟩, 0⟩] ++ ⟨.portState 0 .dark .linkDown, ⟨0, true⟩, 0⟩ ::
      List.replicate 30 ⟨.portState 0 .dark .linkDown, ⟨0, true⟩, 0⟩ ∧
    (∀ m ∈ fullQueue.hlc.notices, m.displaceable = true → 2 ≤ m.body.priority) ∧
    (∀ m ∈ [(⟨.restarted .power, ⟨0, true⟩, 0⟩ : Notice)], m.displaceable = false) ∧ fullQueue.hlc.gap ≤ 255 ∧
    2 ≤ (NoticeBody.woken .wake).priority ∧ (NoticeBody.relay 0 []).priority < 2 ∧
    (List.replicate 32 (⟨.gap 1, ⟨0, true⟩, 0⟩ : Notice)).length = 32 ∧
    (∀ m ∈ List.replicate 32 (⟨.gap 1, ⟨0, true⟩, 0⟩ : Notice), m.displaceable = false) := by decide

theorem test_FramesNoticesAndRecordsAreLaidOut : record.fill = none ∧
    ({ record with fill := some ⟨3, 1, 3, 2, .pending⟩ } : Record).fill = some ⟨3, 1, 3, 2, .pending⟩ := by decide

theorem test_PartFeedsAndPortsAreShown : run.serves .identify ∧ quiet.serves .status ∧ run.serves .feedRead ∧
    ¬ (1 ≤ (0 : Byte).toNat ∧ (0 : Byte).toNat ≤ 4) ∧ ¬ (1 ≤ (5 : Byte).toNat ∧ (5 : Byte).toNat ≤ 4) ∧
    (4 : Byte).toNat = (3 : Feed).val + 1 ∧ run.serves .portRead ∧ ¬ (1 ≤ (13 : Byte).toNat ∧ (13 : Byte).toNat ≤ 12) ∧
    (12 : Byte).toNat = (11 : Port).val + 1 := by decide

/-- A part on which a RESTART waits. -/
def waiting : Part := after (.restart 9 []) run

theorem test_RestartWaitsAndIsCarriedOut : run.serves .restart ∧ run.psc.state = .run ∧ waiting.psc.restart.isSome = true ∧
    waiting.psc.state = .run ∧ waiting.hlc.receiver = .ready ∧ waiting.hlc.table.length < 8 ∧
    lengthFits .status [] = true ∧
    waiting.hlc.sound ∧ waiting.psc.state = .run ∧ waiting.nvs.inFlight = none ∧
    waiting.psc.restart = some 0 ∧ waiting.hlc.table = [⟨0, .restart, 9, [], .psc, .dispatched⟩] ∧
    waiting.timeLeft (some 15) < 2 ^ 47 ∧ (flying .freeze waiting).nvs.inFlight.isSome = true := by
  unfold Hlc.sound
  decide

theorem test_SupplyWarningLeadsToSave : run.psc.supwarn = false ∧ ({ run with psc.supwarn := true } : Part).psc.supwarn = true ∧
    ({ run with psc.supplyLowTimer := some 0 } : Part).psc.supplyLowTimer = some 0 ∧
    (run.mtu.uptime - 0).toNat < 2 ^ 47 ∧ run.trk.exits.length ≤ 16 ∧ run.mtu.closed = false ∧
    run.mtu.meters[(26 : Meter)].full = false ∧
    run.mtu.meters[(26 : Meter)].value.toNat + (tracked 3 run).trk.track.length < 2 ^ 32 ∧
    save.psc.state ≠ .run ∧ save.psc.state ≠ .quiet ∧ run.due run.psc.supplyLowTimer = false := by decide

theorem test_StoreOutlivesTheSupply : off.psc.state = .off ∧ save.psc.state = .save ∧
    ({ save with psc.saveHold := some 0 } : Part).psc.saveHold = some 0 ∧ (save.mtu.uptime - 0).toNat < 2 ^ 47 ∧
    run.psc.state ≠ .off ∧ run.psc.state ≠ .save ∧ save.due save.psc.saveHold = false ∧
    (flying .freeze run).nvs.inFlight = some ⟨.freeze, [0]⟩ ∧ run.nvs.inFlight = none := by decide

theorem test_RunIsEnteredAndQuietRests : State.reset.part.psc.state = .startUp ∧ State.reset.part.psc.supwarn = false ∧
    State.reset.part.hlc.notices = [] ∧ run.psc.state ≠ .startUp ∧ State.reset.part.sva.draining[(11 : Port)] = false ∧
    robot.serves .quiet ∧ robot.trk.line = .stopped ∧
    (∀ f : Feed, robot.fco.feeds[f].state.lease? = none) ∧ robot.nvs.queue = [] ∧ robot.nvs.inFlight = none ∧
    robot.nvs.deferred = [] ∧ rolling.trk.line ≠ .stopped ∧ rolling.serves .quiet ∧
    (feedIn (.granted lease) run).fco.feeds[(1 : Feed)].state.lease?.isSome = true ∧ (busyStore 1 run).nvs.queue ≠ [] ∧
    (flying .freeze run).nvs.inFlight.isSome = true ∧ quiet.serves .wake ∧ quiet.psc.state = .quiet ∧ run.serves .wake ∧
    (∀ f : Feed, robot.fco.feeds[f].queue = []) := by decide

/-- R105, R88: entry to QUIET parks a port with a relay message. -/
theorem test_quiet_notices : (after (.quiet 0 []) (modPort 3 (fun r => { r with relay := [[1]] }) robot)).hlc.notices.map (·.body) =
    [.relayDropped 3 1, .portState 3 .parked .quiet] := by decide

/-- A part that has carried out a RESTART. -/
def restarted : Part := after .restartCarryOut waiting

theorem test_TrackAndFeedsRestart : restarted.psc.owed.trk = true ∧ restarted.psc.owed.fco = true ∧
    (feedIn (.draining lease) run).fco.feeds[(1 : Feed)].state = .draining lease ∧ lease.port = 3 := by decide

theorem test_PortsAndProofsRestart : restarted.psc.owed.spx = true ∧ restarted.psc.owed.prv = true ∧
    restarted.psc.state = .run ∧ restarted.sva.reader ≠ .barred ∧
    ({ restarted with psc.state := .save } : Part).psc.state = .save ∧ robot.ports[(3 : Port)].admission ≠ .barred ∧
    (modPort 3 (fun r => { r with admission := .barred }) restarted).ports[(3 : Port)].admission = .barred ∧
    limitReached restarted.nvs.limits.stationLimit restarted.prv.counts[(3 : Port)] = false := by decide

theorem test_PortsAndProofsRestart_claims : ({ wellClaimed with psc.owed.spx := true } : Part).claimsSound ∧
    ({ wellClaimed with psc.owed.spx := true } : Part).psc.owed.spx = true := ⟨test_StepKeepsClaimsSound.1, rfl⟩

/-- R104, R57: at SPX's restart the entry of a port that was ADMITTED is removed and its reservation released. -/
theorem test_spx_restart_releases :
    let s := after .spxRestart { wellClaimed with psc.owed.spx := true }
    s.fco.feeds[(1 : Feed)].queue = [] ∧ s.fco.toTrk = [.clear 9 3] := by decide

theorem test_SessionsMetersAndStoreRestart : restarted.psc.owed.sva = true ∧ restarted.psc.owed.mtu = true ∧
    restarted.psc.owed.nvs = true ∧ restarted.nvs.deferred = [] ∧ run.psc.owed.trk = false ∧ run.psc.owed.nvs = false ∧
    (busyStore 8 restarted).nvs.queue.length ≤ 8 := by decide

/-- R178, R179: two discarded jobs free two places, and the two oldest of three deferred marks take them. -/
theorem test_nvs_restart_frees_places :
    (after .nvsRestart { restarted with
      nvs.queue := [⟨.freeze, [4]⟩, ⟨.checkpoint none false, []⟩, ⟨.threshold 3 0, [5]⟩]
      nvs.deferred := [.failcount .reader true, .failcount (.port 3) false, .failcount (.port 4) false]
      prv.readerCount := 6 }).nvs.jobs =
      [⟨.checkpoint none false, []⟩, ⟨.failcount .reader 6 true false, []⟩, ⟨.failcount (.port 3) 0 false false, []⟩] := by
  decide

theorem test_LineRunsAndEdgesAreCounted : run.serves .lineStart ∧ run.trk.line = .stopped ∧ rolling.serves .lineStart ∧
    rolling.trk.line = .running ∧ rolling.serves .lineStop ∧ run.serves .lineStop ∧
    run.psc.state = .run ∧ quiet.psc.state = .quiet ∧ save.psc.state ≠ .run ∧
    save.psc.state ≠ .quiet ∧ run.trk.line = .stopped ∧ 0 < ({ run with trk.straysDue := 1 } : Part).trk.straysDue ∧
    run.trk.strayArmed = true ∧ rolling.trk.strayArmed = true ∧ rolling.trk.line = .running ∧ rolling.trk.pitchesDue = 0 ∧
    rolling.trk.pulses + 1 < ({ rolling with trk.geometry.divider := 2 } : Part).trk.geometry.divider ∧
    rolling.trk.geometry.divider ≤ rolling.trk.pulses + 1 ∧ run.trk.straysDue = 0 ∧
    run.trk.geometry.divider ≤ run.trk.strays + 1 := by decide

/-- A running line that owes a pitch event. -/
def due : Part := { rolling with trk.pitchesDue := 1 }

theorem test_PitchEventMovesTheTrack : due.psc.state = .run ∧ due.trk.line = .running ∧ 0 < due.trk.pitchesDue ∧
    due.mtu.closed = false ∧ due.mtu.meters[(24 : Meter)].full = false ∧
    due.mtu.meters[(24 : Meter)].value.toNat < 2 ^ 32 - 1 := by decide

theorem test_RecordAtTheGateIsDecided : (tracked 11 due).trk.line = .running ∧ 0 < (tracked 11 due).trk.pitchesDue ∧
    (tracked 11 due).trk.track = [] ++ record :: [] ∧
    ((tracked 11 due).trk.pitch + 1 - record.entry).toNat = (tracked 11 due).trk.geometry.gate ∧
    (∀ x ∈ (tracked 10 due).trk.track,
      ((tracked 10 due).trk.pitch + 1 - x.entry).toNat ≠ (tracked 10 due).trk.geometry.gate) ∧
    due.mtu.meters[(25 : Meter)].full = false ∧ due.mtu.meters[(26 : Meter)].value.toNat < 2 ^ 32 - 1 ∧
    ({ run with trk.gateTimer := some 0 } : Part).trk.gateTimer = some 0 ∧ (run.mtu.uptime - 0).toNat < 2 ^ 47 ∧
    ({ run with trk.gateTimer := some 1 } : Part).due (some 1) = false := by decide

/-- A part with a fill request under way. -/
def asked (m : FillRequest) (s : Part) : Part := { s with fco.toTrk := [m] }

theorem test_FillRequestsReachTheTrack : (asked (.reserve 9 3 1 3) run).fco.toTrk = .reserve 9 3 1 3 :: [] ∧
    run.hostReceives = true ∧ (∀ r ∈ (tracked 2 run).trk.track, r.container ≠ 8) ∧
    (tracked 2 run).trk.track.find? (·.container == 9) = some record ∧
    (tracked 2 run).trk.geometry.windows[(3 : Port)] = ⟨2, 5⟩ ∧ ((2 : Word) - record.entry).toNat = 2 ∧
    ((5 : Word) - record.entry).toNat = 5 ∧ record.fill = none ∧
    (asked (.clear 9 3) run).fco.toTrk = .clear 9 3 :: [] ∧ (asked (.doseDone 9 3 1) run).fco.toTrk = .doseDone 9 3 1 :: [] ∧
    (asked (.fillEnd 9 3 1 .short) run).fco.toTrk = .fillEnd 9 3 1 .short :: [] ∧
    run.fco.toTrk.head? ≠ some (.clear 9 3) ∧ TrkMessage.answer 3 .accepted ∉ run.fco.toFco := by decide

theorem test_VerdictIsTaken : camera.hears 5 ∧ camera.ports[(5 : Port)].admission = .admitted ∧
    robot.ports[(3 : Port)].cfg.role ≠ .camera ∧ robot.hears 3 ∧ camera.ports[(5 : Port)].cfg.role = .camera ∧
    camera.trk.geometry.cameras[(5 : Port)].offset = 4 ∧ camera.trk.geometry.gate = 12 ∧
    run.trk.geometry.cameras[(5 : Port)].offset = 0 ∧ (∀ r ∈ camera.trk.track, r.container ≠ 9) ∧
    (tracked 4 camera).trk.track.find? (·.container == 9) = some record ∧ (∀ x ∈ record.verdicts, x.port ≠ 5) ∧
    wellTracked.trk.exits.map (·.record.container) = [8] ∧ (∀ r ∈ wellTracked.trk.track, r.container ≠ 8) := by decide

theorem test_TrackAndExitsAreShown : run.serves .trackRead ∧ (89 : Byte).toNat + 256 * (0 : Byte).toNat ≤ 89 ∧
    89 < (90 : Byte).toNat + 256 * (0 : Byte).toNat ∧ ((0 : Byte) ++ (9 : Byte) : Half) ≠ 0 ∧
    (tracked 3 run).trk.track.find? (fun r => r.container == ((0 : Byte) ++ (9 : Byte) : Half)) = some record ∧ 1 < (2 : Byte).toNat ∧
    run.serves .exitRead ∧ 15 < (16 : Byte).toNat + 256 * (0 : Byte).toNat ∧ run.trk.exits.length ≤ 15 ∧
    wellTracked.trk.exits[0]?.isSome = true ∧ (wellTracked.trk.exits.find? (fun e => e.escape && e.unread)).isSome = true ∧
    3 < (4 : Byte).toNat := by decide

/-- An entry of port 4's queue for container 9. -/
def entry : QueueEntry := ⟨3, 9, 3, false⟩

/-- Feed 2 FREE with one entry in its queue. -/
def queued (s : Part) : Part := setQueue 1 [entry] (feedIn .free s)

theorem test_ArbiterServesTheHead : (queued robot).fco.feeds[(1 : Feed)].state = .free ∧
    (queued robot).fco.feeds[(1 : Feed)].queue = entry :: [] ∧ run.fco.feeds[(1 : Feed)].state ≠ .free ∧
    run.fco.feeds[(1 : Feed)].queue = [] ∧ (tracked 2 (queued robot)).trk.inWindow 3 9 = true ∧
    (tracked 6 (queued robot)).trk.inWindow 3 9 = false ∧ robot.mtu.service[(3 : Port)] ≠ .limit ∧
    lease.target = .free ∧ ({ lease with target := .closed } : Lease).target = .closed := by decide

/-- Port 4's claim in reservation. -/
def reserved (v : Option Void) (s : Part) : Part := { s with
  fco.claims := s.fco.claims.set 3 (some ⟨1, 9, 3, v⟩), fco.toFco := [.answer 3 .accepted, .windowLeft 9 3 1] }

theorem test_ClaimIsReserved : robot.hears 3 ∧ robot.ports[(3 : Port)].admission = .admitted ∧
    camera.ports[(5 : Port)].cfg.role ≠ .robot ∧ robot.ports[(3 : Port)].cfg.role = .robot ∧
    robot.ports[(3 : Port)].status = some .ready ∧ camera.ports[(4 : Port)].status = none ∧
    (∀ f : Feed, robot.fco.feeds[f].state.lease? = none) ∧ (∀ f : Feed, robot.fco.feeds[f].queue = []) ∧
    robot.fco.claims[(3 : Port)] = none ∧ ¬ (1 ≤ (5 : Byte).toNat ∧ (5 : Byte).toNat ≤ 4) ∧ (2 : Byte).toNat = (1 : Feed).val + 1 ∧
    run.fco.feeds[(1 : Feed)].state = .closed ∧ ¬ (1 ≤ (4 : Byte).toNat ∧ (4 : Byte).toNat ≤ 3) ∧ 1 ≤ (3 : Byte).toNat ∧
    (3 : Byte).toNat ≤ 3 ∧ robot.mtu.service[(3 : Port)] ≠ .limit ∧ robot.fco.load 1 < 8 ∧
    8 ≤ (setQueue 1 (List.replicate 8 ⟨0, 9, 3, false⟩) robot).fco.load 1 ∧
    TrkMessage.answer 3 .accepted ∈ (reserved none robot).fco.toFco ∧
    (reserved none robot).fco.claims[(3 : Port)] = some ⟨1, 9, 3, none⟩ ∧
    (reserved (some .silent) robot).fco.claims[(3 : Port)] = some ⟨1, 9, 3, some .silent⟩ := by decide

theorem test_GrantIsTakenOrLapses : robot.hears 3 ∧ (queued robot).fco.feeds[(1 : Feed)].queue = [] ++ entry :: [] ∧
    entry.port = 3 ∧ (∀ g : Feed, g ≠ 1 → ∀ x ∈ (queued robot).fco.feeds[g].queue, x.port ≠ 3) ∧
    (∀ f : Feed, ∀ x ∈ robot.fco.feeds[f].queue, x.port ≠ 3) ∧ (reserved none robot).fco.claims[(3 : Port)] ≠ none ∧
    (feedIn (.granted lease) robot).fco.feedServing 3 = some 1 ∧
    (feedIn (.granted lease) robot).fco.feeds[(1 : Feed)].state = .granted lease ∧
    (feedIn (.held lease) robot).fco.feeds[(1 : Feed)].state = .held lease ∧ robot.fco.feedServing 3 = none ∧
    (2 : Byte).toNat = (1 : Feed).val + 1 ∧ (setNote 3 (some (.take 1)) robot).fco.notes[(3 : Port)] = some (.take 1) ∧
    robot.fco.notes[(3 : Port)] ≠ some (.take 1) ∧ robot.due lease.timer = true ∧ robot.due (some 1) = false := by decide

/-- A lease with a dose in flight. -/
def dosing : Lease := { lease with inFlight := true }

theorem test_DosesRunOnAHeldLease : robot.hears 3 ∧ camera.ports[(5 : Port)].cfg.role ≠ .robot ∧
    (feedIn (.held lease) robot).fco.feedServing 3 = some 1 ∧ lease.inFlight = false ∧ lease.container = 9 ∧
    lease.index = (1 : Byte).toNat ∧ (tracked 2 robot).trk.inWindow 3 9 = true ∧ (tracked 6 robot).trk.inWindow 3 9 = false ∧
    (feedIn (.held dosing) robot).fco.feeds[(1 : Feed)].state = .held dosing ∧ dosing.inFlight = true ∧ dosing.index < 256 ∧
    dosing.target = .free ∧ dosing.index < dosing.granted ∧ ({ dosing with index := 3 } : Lease).granted ≤ 3 ∧
    dosing.retries < 2 ∧ 2 ≤ ({ dosing with retries := 2 } : Lease).retries ∧ 3 ≤ (3 : Byte).toNat := by decide

theorem test_LateEndsAndCutsEndTheLease : robot.hears 3 ∧ (feedIn (.draining dosing) robot).fco.feedServing 3 = some 1 ∧
    (feedIn (.draining dosing) robot).fco.feeds[(1 : Feed)].state = .draining dosing ∧ dosing.index < 256 ∧
    robot.fco.endable 3 9 1 = none ∧ (setNote 3 (some (.doseEnd 9 1)) robot).fco.notes[(3 : Port)] = some (.doseEnd 9 1) ∧
    robot.fco.notes[(3 : Port)] ≠ some (.doseEnd 9 1) ∧ robot.due lease.timer = true ∧ robot.due (some 1) = false ∧
    TrkMessage.windowLeft 9 3 1 ∈ (reserved none robot).fco.toFco ∧ lease.port = 3 ∧ lease.container = 9 ∧
    run.fco.feeds[(1 : Feed)].state = .closed ∧ save.psc.state ≠ .run ∧ save.psc.state ≠ .quiet := by decide

theorem test_FeedsOpenAndClose : run.serves .feedOpen ∧ run.serves .feedClose ∧ ¬ (1 ≤ (0 : Byte).toNat ∧ (0 : Byte).toNat ≤ 4) ∧
    (4 : Byte).toNat = (3 : Feed).val + 1 ∧ run.fco.feeds[(3 : Feed)].state = .closed ∧
    (feedIn .free run).fco.feeds[(1 : Feed)].state ≠ .closed ∧ (feedIn .free run).fco.feeds[(1 : Feed)].closing = none ∧
    (modFeed 1 (fun r => { r with state := .draining dosing, closing := some 0 }) run).fco.feeds[(1 : Feed)].closing.isSome =
      true := by decide

theorem test_OutputsFollowTheState : run.psc.state = .run ∧ robot.ports[(3 : Port)].link = true ∧
    run.ports[(3 : Port)].link = false ∧ save.psc.state ≠ .run ∧ save.psc.state ≠ .quiet := by decide

theorem test_LinksComeUpAndGoDown : stationFrameOf (.hello 3 5 1) = some (3, 0x01) ∧ run.psc.state = .run ∧
    run.ports[(3 : Port)].hunting = false ∧ run.ports[(3 : Port)].admission = .dark ∧
    exec (.idleMarker 3) ⟨run, []⟩ = .next ⟨after (.idleMarker 3) run, []⟩ ∧ save.psc.state ≠ .run ∧ save.psc.state ≠ .quiet ∧
    64 < (List.replicate 65 (0 : Byte)).length ∧ (0x1234 : Half) ≠ crc16 [0, 0x06] ∧ (0x06 : Byte) ≠ 0x01 ∧
    ([] : List Byte).length = 0 ∧ ({ robot with mtu.uptime := 50 } : Part).ports[(3 : Port)].linkTimer = some 50 ∧
    ((50 : Time) - 50).toNat < 2 ^ 47 ∧ barredPort.ports[(3 : Port)].admission = .barred ∧
    robot.ports[(3 : Port)].admission = .admitted ∧ robot.due robot.ports[(3 : Port)].linkTimer = false := by
  refine ⟨by decide, by decide, by decide, by decide, rfl, by decide⟩

/-- Port 4 in LISTENING, its station bound in store as a robot. -/
def listening : Part := modPort 3 (fun r => { r with admission := .listening }) { robot with
  nvs.ports := robot.nvs.ports.set 3 ⟨.robot, 5, 0, false⟩ }

/-- Port 4 in CHALLENGED. -/
def challenged : Part := modPort 3 (fun r => { r with admission := .challenged }) { robot with
  prv.contexts := robot.prv.contexts.set 3 (some ⟨1, 2, some 0⟩) }

theorem test_StationsAreAdmittedByProof : listening.hears 3 ∧ listening.ports[(3 : Port)].admission = .listening ∧
    ({ listening with psc.state := .quiet } : Part).hears 3 ∧ (held [hold] listening).sva.holders[(3 : Port)] ≠ [] ∧
    listening.sva.holders[(3 : Port)] = [] ∧ listening.nvs.ports[(3 : Port)] = ⟨.robot, 5, 0, false⟩ ∧
    run.nvs.ports[(3 : Port)].role = .unused ∧ (2 : Byte) ≠ Role.robot.byte ∧ (1 : Byte) = Role.robot.byte ∧
    challenged.hears 3 ∧ challenged.ports[(3 : Port)].admission = .challenged ∧
    challenged.prv.contexts[(3 : Port)] = some ⟨1, 2, some 0⟩ ∧ (3 : Block) ≠ 1 ∧ challenged.due (some 0) = true ∧
    challenged.due (some 1) = false ∧ run.prv.contexts[(3 : Port)] = none ∧
    (endContext 3 challenged).ports[(3 : Port)].admission = .challenged ∧ (endContext 3 challenged).hears 3 ∧
    (endContext 3 challenged).prv.contexts[(3 : Port)] = none := by decide

theorem test_FailuresAreCountedAndBar : run.psc.state = .run ∧ run.prv.count (.port 3) ≤ 255 ∧ run.nvs.inFlight = none ∧
    (∀ j ∈ run.nvs.queue, j.countsFor (.port 3) = false) ∧ run.nvs.queue.length < 8 ∧
    ({ run with nvs.queue := [⟨.failcount .reader 1 false false, []⟩] } : Part).nvs.queue =
      [] ++ ⟨.failcount .reader 1 false false, []⟩ :: [] ∧
    8 ≤ (busyStore 8 run).nvs.queue.length ∧ (∀ j ∈ (busyStore 8 run).nvs.queue, j.countsFor .reader = false) ∧
    (busyStore 8 run).nvs.deferred = [] ∧ robot.ports[(3 : Port)].admission ≠ .barred ∧ robot.prv.stationLimit ≠ 0 ∧
    ({ robot with prv.counts := robot.prv.counts.set 3 2 } : Part).prv.counts[(3 : Port)] + 1 = robot.prv.stationLimit ∧
    run.sva.reader = .ready ∧ run.prv.readerCount ≤ 255 ∧ run.prv.badgeLimit = 5 ∧
    (flying (.failcount .reader 0 true false) run).nvs.inFlight = some ⟨.failcount .reader 0 true false, [0]⟩ ∧
    (∀ n ∈ robot.prv.counts.toList, n ≤ 255) ∧ robot.ports[(3 : Port)].admission = .admitted ∧
    listening.ports[(3 : Port)].admission ≠ .admitted ∧ listening.ports[(3 : Port)].admission ≠ .barred ∧
    1 ≠ run.prv.count .reader ∧ (flying .freeze run).nvs.inFlight = some ⟨.freeze, [0]⟩ ∧
    (⟨.freeze, [0]⟩ : Job) ≠ ⟨.failcount .reader 0 true false, [0]⟩ ∧
    ({ busyStore 8 run with nvs.deferred := [.failcount .reader false] } : Part).nvs.deferred =
      [] ++ Deferred.failcount .reader false :: [] ∧
    ({ run with prv.readerCount := 255 } : Part).prv.count .reader = 255 := by decide

theorem test_UnexpectedFramesFallBack : (endContext 3 challenged).prv.contexts[(3 : Port)] = none ∧
    ¬ (endContext 3 challenged).acceptsKind 3 0x01 ∧ stationFrameOf (.undefinedKind 3 0x0C) = some (3, 0x0C) ∧ robot.hears 3 ∧
    ¬ robot.acceptsKind 3 0x0C ∧ ¬ robot.acceptsKind 3 0x01 ∧ listening.hears 3 ∧ ¬ listening.acceptsKind 3 0x05 ∧
    challenged.hears 3 ∧ ¬ challenged.acceptsKind 3 0x01 ∧ challenged.prv.contexts[(3 : Port)].isSome = true ∧
    barredPort.hears 3 ∧ ¬ barredPort.acceptsKind 3 0x01 ∧ (reserved none robot).fco.claims[(3 : Port)] = some ⟨1, 9, 3, none⟩ ∧
    robot.fco.feedQueueing 3 = none ∧ robot.fco.feedServing 3 = none ∧
    (queued robot).fco.feeds[(1 : Feed)].queue = [] ++ entry :: [] ∧
    (feedIn (.granted lease) robot).fco.feedServing 3 = some 1 ∧
    (feedIn (.granted lease) robot).fco.feeds[(1 : Feed)].queue = [] ∧
    (setQueue 1 [{ entry with port := 4 }] (feedIn (.granted lease) robot)).fco.feedQueueing 3 = none ∧
    (setQueue 1 [{ entry with port := 4 }] (feedIn (.granted lease) robot)).fco.feedServing 3 = some 1 ∧
    (feedIn (.held lease) robot).fco.feedServing 3 = some 1 := by
  refine ⟨by decide, ?_, by decide, by decide, ?_, ?_, by decide, ?_, by decide, ?_, by decide, by decide, ?_, by decide⟩
  all_goals unfold Part.acceptsKind
  · show ¬ ((0x01 : Byte) = 0x02 ∨ (0x01 : Byte) = 0x04); decide
  · show ¬ ((3 : Nat) ≤ (0x0C : Byte).toNat ∧ (0x0C : Byte).toNat ≤ 0x0B); decide
  · show ¬ ((3 : Nat) ≤ (0x01 : Byte).toNat ∧ (0x01 : Byte).toNat ≤ 0x0B); decide
  · show ¬ ((0x05 : Byte) = 0x01 ∨ (0x05 : Byte) = 0x04 ∨ (0x05 : Byte) = 0x09 ∧ _)
    rintro (h | h | ⟨h, -⟩) <;> revert h <;> decide
  · show ¬ ((0x01 : Byte) = 0x02 ∨ (0x01 : Byte) = 0x04); decide
  · show ¬ (0x01 : Byte) = 0x04; decide

theorem test_StationsReportAndRelay : robot.hears 3 ∧ robot.ports[(3 : Port)].admission = .admitted ∧
    (List.replicate 64 (0 : Byte)).length ≤ 64 ∧ robot.ports[(3 : Port)].admission ≠ .known ∧
    robot.ports[(3 : Port)].cfg.role = .robot ∧ robot.ports[(3 : Port)].status ≠ some .homing ∧
    (reserved none robot).fco.claims[(3 : Port)] = some ⟨1, 9, 3, none⟩ ∧ (reserved none robot).fco.feedQueueing 3 = none ∧
    (reserved none robot).fco.feedServing 3 = none ∧ (feedIn (.held lease) robot).fco.claims[(3 : Port)] = none ∧
    (feedIn (.held lease) robot).fco.feedServing 3 = some 1 ∧
    (feedIn (.granted lease) robot).fco.feeds[(1 : Feed)].state = .granted lease ∧
    (queued robot).fco.claims[(3 : Port)] = none ∧ (queued robot).fco.feedServing 3 = none ∧
    (queued robot).fco.feeds[(1 : Feed)].queue = [] ++ entry :: [] ∧ entry.port = 3 ∧
    (∀ g : Feed, g ≠ 1 → ∀ x ∈ (queued robot).fco.feeds[g].queue, x.port ≠ 3) := by decide

/-- R56, R60: a robot that reports FAULTED loses its queued remnant, and the fill is told INCOMPLETE. -/
theorem test_faulted_drops_remnant :
    let s := after (.report 3 4) (setQueue 1 [{ entry with remnant := true }] (queued robot))
    s.fco.feeds[(1 : Feed)].queue = [] ∧ s.fco.toTrk = [.fillEnd entry.container 3 1 .incomplete] := by decide

theorem test_HostParksWakesAndRelays : run.serves .portPark ∧ run.serves .portWake ∧ run.serves .relay ∧
    ¬ (1 ≤ (13 : Byte).toNat ∧ (13 : Byte).toNat ≤ 12) ∧ (List.replicate 64 (0 : Byte)).length ≤ 64 ∧
    (4 : Byte).toNat = (3 : Port).val + 1 ∧ run.ports[(3 : Port)].admission ≠ .admitted ∧ robot.serves .portPark ∧
    robot.fco.busy 3 = false ∧ (queued robot).fco.busy 3 = true ∧ robot.ports[(3 : Port)].relay.length < 4 ∧
    4 ≤ (modPort 3 (fun r => { r with relay := List.replicate 4 [] }) robot).ports[(3 : Port)].relay.length := by decide

theorem test_PresentIsChecked : run.psc.state = .run ∧ ({ run with sva.reader := .barred } : Part).sva.reader = .barred ∧
    run.sva.reader = .ready ∧ 3 ≤ ({ run with sva.sessions := List.replicate 3 (session .operator) } : Part).sva.sessions.length ∧
    (inSession .operator).sva.sessions = [session .operator] ∧ (session .operator).badge = 7 ∧
    (∀ x ∈ run.sva.sessions, x.badge ≠ 1) ∧
    run.sva.badges.toList.find? (·.badge == 1) = some ⟨1, .supervisor, 0, true⟩ ∧
    run.sva.badges.toList.find? (·.badge == 2) = none ∧ quiet.psc.state = .quiet := by decide

/-- The reader in an exchange for badge 1. -/
def exchange : Part := { run with
  sva.reader := .challenging 1 .supervisor, prv.readerContext := some ⟨1, 2, 1, some 0⟩ }

theorem test_ReaderProofOpensASession : exchange.psc.state = .run ∧ exchange.sva.reader = .challenging 1 .supervisor ∧
    exchange.prv.readerContext = some ⟨1, 2, 1, some 0⟩ ∧ (3 : Block) ≠ 1 ∧ exchange.sva.sessions.length ≤ 3 ∧
    ({ exchange with prv.readerContext := none } : Part).sva.reader = .challenging 1 .supervisor ∧
    ({ exchange with prv.readerContext := none } : Part).prv.readerContext = none ∧
    run.sva.reader = .ready ∧ exchange.due (some 0) = true ∧ run.prv.readerContext = none ∧
    ({ run with prv.barTimer := some 0 } : Part).due (some 0) = true ∧ run.psc.state ≠ .save ∧ run.psc.state ≠ .off ∧
    run.prv.readerCount = 0 := by decide

theorem test_SessionsAreCheckedShownAndEnded : requestOf (.unbar 0 [1, 0]) = some (.unbar, 0, 1 :: [0]) ∧
    lengthFits .unbar [1, 0] = true ∧ ReqKind.unbar.needsSession = true ∧ run.serves .unbar ∧
    (∀ x ∈ run.sva.sessions, x.num ≠ 1) ∧ (inSession .technician).inSession 1 (session .technician) ∧
    ReqKind.unbar.permits (session .technician).role = false ∧
    (inSession .operator).accepts .sessionClose 1 (session .operator) ∧
    ({ inSession .operator with mtu.uptime := 5 } : Part).due (session .operator).idle = true ∧
    (inSession .operator).due (session .operator).idle = false ∧ run.serves .sessionRead := by decide

theorem test_LockoutPlacesAHold : (inSession .operator).accepts .lockout 1 (session .operator) ∧
    ¬ (1 ≤ (13 : Byte).toNat ∧ (13 : Byte).toNat ≤ 12) ∧ (4 : Byte).toNat = (3 : Port).val + 1 ∧
    3 ≤ (held (List.replicate 3 hold) run).sva.holders[(3 : Port)].length ∧
    (held [hold] run).sva.holders[(3 : Port)] = [hold] ∧ hold.badge = (session .operator).badge ∧
    (held [{ hold with badge := 8 }] run).sva.holders[(3 : Port)] ≠ [] ∧ run.sva.holders[(3 : Port)] = [] ∧
    8 ≤ (busyStore 8 run).nvs.queue.length ∧ run.nvs.queue.length < 8 := by decide

theorem test_IsolationReachesPortAndRobot : run.psc.state = .run ∧ run.ports[(3 : Port)].admission = .dark ∧
    challenged.ports[(3 : Port)].admission = .challenged ∧
    (modPort 3 (fun r => { r with admission := .parked }) robot).ports[(3 : Port)].admission = .parked ∧
    robot.ports[(3 : Port)].admission = .admitted ∧ robot.fco.feedQueueing 3 = none ∧ robot.fco.feedServing 3 = none ∧
    robot.fco.claims[(3 : Port)] = none ∧ (queued robot).fco.feeds[(1 : Feed)].queue = [] ++ entry :: [] ∧
    (feedIn (.held dosing) robot).fco.feedServing 3 = some 1 ∧ (feedIn (.held lease) robot).fco.feedQueueing 3 = none ∧
    (∀ g : Feed, g ≠ 1 → (feedIn (.held lease) robot).fco.feeds[g].state.lease? = none) ∧
    (feedIn (.draining dosing) robot).fco.feeds[(1 : Feed)].state = .draining dosing := by decide

theorem test_ReleasesQueueTheRemoval : (inSession .operator).accepts .release 1 (session .operator) ∧
    (inSession .supervisor).accepts .removeHold 1 (session .supervisor) ∧ ¬ (1 ≤ (0 : Byte).toNat ∧ (0 : Byte).toNat ≤ 12) ∧
    (4 : Byte).toNat = (3 : Port).val + 1 ∧ (∀ y ∈ run.sva.holders[(3 : Port)], y.badge ≠ 7) ∧
    (held [hold] run).sva.holders[(3 : Port)].find? (·.badge == 7) = some hold ∧ hold.releasing = false ∧
    ({ hold with releasing := true } : Hold).releasing = true ∧
    (flying (.holdAdd ⟨3, 7, 1, ⟨0, true⟩⟩) run).nvs.inFlight = some ⟨.holdAdd ⟨3, 7, 1, ⟨0, true⟩⟩, [0]⟩ ∧
    8 ≤ (busyStore 8 run).nvs.queue.length ∧ run.nvs.queue = [] ∧ run.nvs.inFlight = none := by decide

theorem test_SignOffAndUnbarQueueTheirJobs : (inSession .technician).accepts .signOff 1 (session .technician) ∧
    (inSession .supervisor).accepts .unbar 1 (session .supervisor) ∧ 12 < (13 : Byte).toNat ∧
    run.sva.holders[(3 : Port)] = [] ∧ (held [hold] run).sva.holders[(3 : Port)] = [hold] ∧
    (held [{ hold with badge := 8 }] run).sva.holders[(3 : Port)].all (·.badge != 7) = true ∧
    8 ≤ (busyStore 8 run).nvs.queue.length ∧ (12 : Byte).toNat = (11 : Port).val + 1 ∧
    (∀ j ∈ (busyStore 8 run).nvs.queue, j.countsFor (.port 11) = false) ∧ run.mtu.cfg[(3 : Port)].interval = 0 ∧
    ({ run with nvs.queue := [⟨.failcount .reader 1 false false, []⟩] } : Part).nvs.queue =
      [] ++ ⟨.failcount .reader 1 false false, []⟩ :: [] := by decide

theorem test_HoldsAndMetersAreShown : run.serves .holdList ∧ 12 < (13 : Byte).toNat ∧ (12 : Byte).toNat = (11 : Port).val + 1 ∧
    run.serves .meterRead ∧ ((27 : Byte).toNat ≤ 27 ∧ 1 ≤ (1 : Byte).toNat ∧ (27 : Byte).toNat + (1 : Byte).toNat ≤ 28) ∧
    ((12 : Byte).toNat + (16 : Byte).toNat ≤ 28 ∧ (16 : Byte).toNat ≤ 16) ∧
    ¬ ((27 : Byte).toNat + (2 : Byte).toNat ≤ 28) ∧ ¬ (1 ≤ (0 : Byte).toNat) ∧ ¬ ((17 : Byte).toNat ≤ 16) := by decide

theorem test_ClocksRunAndSecondsAreCounted : run.psc.state ≠ .off ∧ off.psc.state = .off ∧ run.serves .timeSet ∧
    quiet.serves .timeRead ∧ 0 < ({ robot with mtu.secondsDue := 1 } : Part).mtu.secondsDue ∧
    robot.ports[(3 : Port)].admission = .admitted ∧ robot.mtu.closed = false ∧ robot.mtu.meters[meterB 3].full = false ∧
    robot.mtu.meters[meterB 3].value.toNat < 4294967295 ∧ (0xFFFFFFFF : Word).toNat = 4294967295 ∧
    run.ports[(3 : Port)].admission ≠ .admitted ∧ save.psc.state ≠ .run ∧ save.psc.state ≠ .quiet ∧
    run.mtu.secondsDue = 0 := by decide

theorem test_IncrementsAreApplied : run.mtu.closed = false ∧ run.mtu.meters[(6 : Meter)].full = false ∧
    run.mtu.meters[(6 : Meter)].value.toNat < 4294967295 ∧ (0xFFFFFFFF : Word).toNat = 4294967295 ∧ (6 : Meter) = meterA 3 ∧
    (∀ p : Port, (7 : Meter) ≠ meterA p) ∧ run.mtu.service[(3 : Port)] = .none ∧
    serviceOf ⟨1, 0, 0⟩ 1 = .limit ∧ serviceOf ⟨1, 1, 0⟩ 1 = .due ∧
    (inSession .technician).accepts .meterAdd 1 (session .technician) ∧ 27 < (28 : Byte).toNat ∧
    (27 : Byte).toNat = (27 : Meter).val ∧ (0 : Word) = 0 ∧ (0 : Word).toNat + (0xFFFFFFFF : Word).toNat ≤ 4294967295 ∧
    4294967295 < (1 : Word).toNat + (0xFFFFFFFF : Word).toNat := by decide

/-- A SETTING WRITE to BADGES under a technician's session is refused NOT-PERMITTED and leaves the session's timer. -/
theorem test_refusedSettingWrite : exec (.settingWrite 3 [1, 4, 0, 0, 0, 0, 0, 0, 0, 0]) ⟨inSession .technician, []⟩ =
    .next ⟨(inSession .technician).answered .settingWrite 3 [1, 4, 0, 0, 0, 0, 0, 0, 0, 0] .notPermitted [], []⟩ := rfl

/-- The same write under a supervisor's session of content out of range is refused BAD-VALUE and restarts the timer. -/
theorem test_badSettingWrite : exec (.settingWrite 3 [1, 4, 0, 0, 0, 0, 0, 9, 0, 0]) ⟨inSession .supervisor, []⟩ =
    .next ⟨((inSession .supervisor).withIdle 1).answered .settingWrite 3 [1, 4, 0, 0, 0, 0, 0, 9, 0, 0] .badValue [], []⟩ :=
  rfl

theorem test_SettingsAreReadAndWritten : run.serves .settingRead ∧ (4 : Byte).toNat = (3 : Feed).val + 1 ∧
    (12 : Byte).toNat = (11 : Port).val + 1 ∧ (15 : Byte).toNat = (15 : Fin 16).val ∧ (7 : Byte).toNat = (7 : Slot).val ∧
    6 < (7 : Byte).toNat ∧ 1 < (2 : Byte).toNat ∧ (∀ j ∈ run.nvs.jobs, Job.boundary? j = none) ∧
    (flying (.boundary 2) run).nvs.jobs.find? (fun j => (Job.boundary? j).isSome) = some ⟨.boundary 2, [0]⟩ ∧
    run.serves .settingWrite ∧ (0 :: 1 :: 1 :: [0, 150, 0, 0xDC, 5] : List Byte).length ≤ 248 ∧
    lengthFits .settingWrite [0, 1, 1, 0, 150, 0, 0xDC, 5] = true ∧ (∀ x ∈ run.sva.sessions, x.num ≠ 1) ∧
    (inSession .supervisor).inSession 1 (session .supervisor) ∧ (inSession .technician).inSession 1 (session .technician) ∧
    (session .technician).role ≠ .supervisor ∧ unitOf 1 5 = none ∧ unitOf 4 0 = some (.badge 0) ∧ unitOf 1 4 = some (.feed 3) ∧
    ¬ (run.nvs.activeBoundary ≤ 3) ∧ run.nvs.activeBoundary ≤ 4 ∧ settingOf (.feed 3) [2, 150, 0, 0xDC, 5] = none ∧
    settingOf (.feed 3) [0, 150, 0, 0xDC, 5] = some (.feed 3 ⟨false, 150, 1500⟩) ∧
    sectionRules run.nvs (.badge 1 ⟨1, .operator, 0, true⟩) = false ∧
    sectionRules run.nvs (.feed 3 ⟨false, 150, 1500⟩) = true ∧ run.nvs.sectionLocks[(1 : Fin 7)] = false ∧
    ({ run with nvs.sectionLocks := run.nvs.sectionLocks.set 1 true } : Part).nvs.sectionLocks[(1 : Fin 7)] = true ∧
    8 ≤ (busyStore 8 run).nvs.queue.length := by decide

theorem test_SettingsAreInRange : (List.replicate 16 (0 : Byte)).length = 16 ∧ Geometry.default.bytes.length = 50 ∧
    settingOf .line Geometry.default.bytes = some (.line Geometry.default) := by decide

theorem test_LocksFreezeAndBoundaryAreChecked : (inSession .supervisor).accepts .sectionLock 1 (session .supervisor) ∧
    1 < (2 : Byte).toNat ∧ 6 < (7 : Byte).toNat ∧ 7 < (8 : Byte).toNat ∧ (6 : Fin 7).val = (6 : Byte).toNat ∧
    (7 : Slot).val = (7 : Byte).toNat ∧ run.nvs.sectionLocks[(6 : Fin 7)] = false ∧ run.nvs.slotLocks[(7 : Slot)] = false ∧
    ({ run with nvs.slotLocks := run.nvs.slotLocks.set 7 true } : Part).nvs.slotLocks[(7 : Slot)] = true ∧
    ({ run with nvs.frozen := true } : Part).nvs.frozen = true ∧ run.nvs.frozen = false ∧
    8 ≤ (busyStore 8 run).nvs.queue.length ∧ run.nvs.queue.length < 8 ∧
    (inSession .supervisor).accepts .locksFreeze 1 (session .supervisor) ∧ (⟨.freeze, []⟩ : Job) ∈ (busyStore 1 run).nvs.queue ∧
    (inSession .supervisor).accepts .boundarySet 1 (session .supervisor) ∧
    (flying (.boundary 2) run).nvs.inFlight = some ⟨.boundary 2, [0]⟩ ∧ run.nvs.boundary ≤ (4 : Byte).toNat ∧
    (3 : Byte).toNat < run.nvs.boundary := by decide

theorem test_StoreJobsAreAskedForAndStart : run.psc.state = .run ∧ ({ run with mtu.checkpointTimer := some 0 } : Part).due (some 0) = true ∧
    run.nvs.queue.length < 8 ∧ 8 ≤ (busyStore 8 run).nvs.queue.length ∧ Deferred.checkpoint ∉ run.nvs.deferred ∧
    run.due run.mtu.checkpointTimer = false ∧ run.psc.restart = none ∧
    run.psc.owed = ⟨false, false, false, false, false, false, false⟩ ∧ run.nvs.inFlight = none ∧
    (busyStore 1 run).nvs.queue = [] ++ ⟨.freeze, []⟩ :: [] ∧ (∀ k ∈ (busyStore 1 run).nvs.queue, k.isHold = false) ∧
    ({ run with nvs.queue := [⟨.freeze, []⟩, ⟨.holdRemove 3 7, [0]⟩] } : Part).nvs.queue =
      [⟨.freeze, []⟩] ++ ⟨.holdRemove 3 7, [0]⟩ :: [] ∧ (Job.isHold ⟨.holdRemove 3 7, [0]⟩ = true) ∧
    ({ save with nvs.saveDue := true } : Part).nvs.saveDue = true ∧ save.nvs.saveDue = false ∧ run.nvs.queue = [] ∧
    (flying .freeze run).nvs.inFlight.isSome = true ∧ waiting.psc.restart.isSome = true ∧ restarted.psc.owed.any = true := by
  decide

theorem test_WritesEnd : run.hostReceives = true ∧ (flying .freeze run).nvs.inFlight = some ⟨.freeze, [0]⟩ ∧
    (flying (.setting (.limits Limits.default)) run).nvs.inFlight = some ⟨.setting (.limits Limits.default), [0]⟩ ∧
    (flying (.setting (.line Geometry.default)) run).nvs.inFlight = some ⟨.setting (.line Geometry.default), [0]⟩ ∧
    (flying (.lock (.slot 7)) run).nvs.inFlight = some ⟨.lock (.slot 7), [0]⟩ ∧
    (flying (.boundary 0) run).nvs.inFlight = some ⟨.boundary 0, [0]⟩ ∧
    (flying (.threshold 11 0) run).nvs.inFlight = some ⟨.threshold 11 0, [0]⟩ ∧ run.sva.reader ≠ .barred ∧
    save.hostReceives = true ∧ (flying (.setting (.limits Limits.default)) save).psc.state = .save ∧
    (modPort 3 (fun r => { r with admission := .barred }) run).ports[(3 : Port)].admission = .barred ∧
    limitReached Limits.default.stationLimit run.prv.counts[(3 : Port)] = false := by decide

/-- R115, R89: a LIMITS write that lowers the station limit to a port's count bars the port; one that raises it releases the port to
LISTENING. -/
theorem test_limits_bar_and_release :
    let writes := fun n => after (.settingJobEnd true) (flying (.setting (.limits { Limits.default with stationLimit := n }))
      { robot with prv.counts := robot.prv.counts.set 3 2 })
    (writes 2).ports[(3 : Port)].admission = .barred ∧ (writes 2).hlc.notices.map (·.body) =
      [.portState 3 .barred .barred, .portBarred 3 2] ∧ (writes 3).ports[(3 : Port)].admission = .admitted ∧
    (after (.settingJobEnd true) (flying (.setting (.limits { Limits.default with stationLimit := 0 }))
      (modPort 3 (fun r => { r with admission := .barred }) robot))).ports[(3 : Port)].admission = .listening := by decide

theorem test_HoldsCountsAndCheckpointsEnd : run.hostReceives = true ∧
    (flying (.holdAdd ⟨3, 7, 1, ⟨0, true⟩⟩) run).nvs.inFlight = some ⟨.holdAdd ⟨3, 7, 1, ⟨0, true⟩⟩, [0]⟩ ∧
    run.runEnable 3 = true ∧ (held [hold] run).runEnable 3 = false ∧
    (flying (.holdRemove 3 7) run).nvs.inFlight = some ⟨.holdRemove 3 7, [0]⟩ ∧
    (flying (.failcount (.port 3) 0 true false) run).nvs.inFlight = some ⟨.failcount (.port 3) 0 true false, [0]⟩ ∧
    ¬ (run.prv.stationLimit ≠ 0 ∧ run.prv.stationLimit ≤ 2) ∧ (run.prv.stationLimit ≠ 0 ∧ run.prv.stationLimit ≤ 3) ∧
    ¬ (run.prv.badgeLimit ≠ 0 ∧ run.prv.badgeLimit ≤ 4) ∧ run.prv.badgeLimit ≠ 0 ∧ run.prv.badgeLimit ≤ 5 ∧
    (flying (.failcount .reader 5 true false) run).nvs.inFlight = some ⟨.failcount .reader 5 true false, [0]⟩ ∧ run.psc.state ≠ .save ∧ save.psc.state = .save ∧
    (flying (.checkpoint (some zeroMeters) true) save).nvs.inFlight = some ⟨.checkpoint (some zeroMeters) true, [0]⟩ ∧
    run.nvs.inFlight = none := by decide

end Sys2Proof.Tests
end

section
/-! Proofs about the inspection verdicts
(02_inspection_verdicts_and_the_reject_gate.md): one lemma for each thing TRK does with a verdict; then the statement, outcome by
outcome. -/

namespace Sys2Proof.Machine

/-! ### The taking of a VERDICT frame -/

theorem exec_verdict (p : Port) (c : Half) (result reason : Byte) (s : State) :
    exec (.verdict p c result reason) s = execVerdict p c result reason s := rfl

@[simp] theorem heardAt_trk (p : Port) (s : Part) : (s.heardAt p).trk = s.trk := rfl

theorem heardAt_cfg (p q : Port) (s : Part) : (s.heardAt p).ports[q].cfg = s.ports[q].cfg := by
  simp only [Part.heardAt, upd_get]
  split <;> rfl

theorem heardAt_admission (p q : Port) (s : Part) : (s.heardAt p).ports[q].admission = s.ports[q].admission := by
  simp only [Part.heardAt, upd_get]
  split <;> rfl

/-- R82: an ADMITTED port that is heard has its link timer restarted, and nothing else happens. -/
theorem heard_admitted {p : Port} {s : Part} (h : s.ports[p].admission = .admitted) : heard p s = s.heardAt p := by
  have timed : (modPort p (fun r => { r with linkTimer := s.timer Config.linkTime }) s).ports[p].admission = .admitted := by
    rw [modPort_ports, upd_self]; exact h
  simp only [heard, timed]
  simp only [modPort, Part.heardAt, upd, h, reduceCtorEq, if_false]

/-- R90: a VERDICT of an ADMITTED port reaches TRK, the link timer restarted. -/
theorem exec_verdict_admitted {p : Port} {s : State} (hh : s.part.hears p) (ha : s.part.ports[p].admission = .admitted)
    (c : Half) (result reason : Byte) :
    exec (.verdict p c result reason) s = .next { s with part := takeVerdict p c result reason (s.part.heardAt p) } := by
  obtain ⟨hact, hhunt, -⟩ := hh
  have accepts : portIn p [.admitted] (s.part.heardAt p) = true := by simp [portIn, heardAt_admission, ha, -Fin.getElem_fin]
  simp [exec_verdict, execVerdict, stationFrameIn, routeFrame, hact, hhunt, heard_admitted ha, accepts, -Fin.getElem_fin]

/-! ### TRK's verdict checks (R30) -/

theorem hasVerdict_iff (l : List Verdict) (p : Port) : hasVerdict l p = true ↔ ∃ x ∈ l, x.port = p := by
  simp [hasVerdict]

theorem hasVerdict_false_iff (l : List Verdict) (p : Port) : hasVerdict l p = false ↔ ∀ x ∈ l, x.port ≠ p := by
  simp [hasVerdict]

section
variable {p : Port} {c : Half} {s : Part}

theorem takeVerdict_wrongRole (hr : s.ports[p].cfg.role ≠ .camera) (result reason : Byte) :
    takeVerdict p c result reason s = refuse p .wrongRole verdictKind s := by
  simp [takeVerdict, hr, -Fin.getElem_fin]

theorem takeVerdict_outOfWindow (hr : s.ports[p].cfg.role = .camera) (hp : s.trk.geometry.placed p = false)
    (result reason : Byte) : takeVerdict p c result reason s = refuse p .outOfWindow verdictKind s := by
  simp [takeVerdict, hr, hp, -Fin.getElem_fin]

theorem takeVerdict_noContainer (hr : s.ports[p].cfg.role = .camera) (hp : s.trk.geometry.placed p = true) (hc : c = 0)
    (result reason : Byte) : takeVerdict p c result reason s = refuse p .unknown verdictKind s := by
  simp [takeVerdict, hr, hp, hc, -Fin.getElem_fin]

theorem takeVerdict_unknown (hr : s.ports[p].cfg.role = .camera) (hp : s.trk.geometry.placed p = true)
    (ht : s.trk.find c = none) (he : s.trk.exits.find? (·.record.container == c) = none) (result reason : Byte) :
    takeVerdict p c result reason s = refuse p .unknown verdictKind s := by
  simp [takeVerdict, hr, hp, ht, he, -Fin.getElem_fin]

theorem takeVerdict_onTrack (hr : s.ports[p].cfg.role = .camera) (hp : s.trk.geometry.placed p = true) (hc : c ≠ 0)
    {r : Record} (ht : s.trk.find c = some r) (result reason : Byte) :
    takeVerdict p c result reason s = verdictOnTrack p r ⟨p, verdictOf result, reason, s.trk.pitch⟩ s := by
  simp only [takeVerdict, hr, hp, hc, ht, bne_self_eq_false, Bool.not_true, Bool.false_eq_true, if_false]

theorem takeVerdict_inExits (hr : s.ports[p].cfg.role = .camera) (hp : s.trk.geometry.placed p = true) (hc : c ≠ 0)
    (ht : s.trk.find c = none) {e : ExitEntry} (he : s.trk.exits.find? (·.record.container == c) = some e)
    (result reason : Byte) :
    takeVerdict p c result reason s = verdictLate p e ⟨p, verdictOf result, reason, s.trk.pitch⟩ s := by
  simp only [takeVerdict, hr, hp, hc, ht, he, bne_self_eq_false, Bool.not_true, Bool.false_eq_true, if_false]

/-! ### A verdict for a record on the track (R31) -/

theorem verdictOnTrack_early {r : Record} (h : s.trk.position r < s.trk.geometry.cameras[p].offset) (v : Verdict) :
    verdictOnTrack p r v s = refuse p .early verdictKind s := if_pos h

theorem verdictOnTrack_duplicate {r : Record} (h : s.trk.geometry.cameras[p].offset ≤ s.trk.position r)
    (hd : hasVerdict r.verdicts p = true) (v : Verdict) : verdictOnTrack p r v s = refuse p .duplicate verdictKind s := by
  rw [verdictOnTrack, if_neg (Nat.not_lt.mpr h), if_pos hd]

theorem verdictOnTrack_stored {r : Record} (h : s.trk.geometry.cameras[p].offset ≤ s.trk.position r)
    (hd : hasVerdict r.verdicts p = false) (v : Verdict) :
    verdictOnTrack p r v s = meterInc (meterA p) { s with trk.track := s.trk.track.map fun x =>
      if x.container = r.container then { x with verdicts := x.verdicts ++ [v] } else x } := by
  rw [verdictOnTrack, if_neg (Nat.not_lt.mpr h), hd]
  simp

/-! ### A verdict for a container in the exit list (R33, R34) -/

/-- R33, R34: TRK with a late verdict added to the exit entries of a container. -/
def Trk.withLate (t : Trk) (c : Half) (v : Verdict) : Trk :=
  { t with exits := t.exits.map fun x => if x.record.container = c then x.addLate v else x }

/-- R33: the part after a late verdict that is no escape: the entry, REFUSE LATE and the notice LATE VERDICT. -/
def Part.lateTaken (s : Part) (p : Port) (c : Half) (v : Verdict) : Part :=
  raise (.lateVerdict c p v.result v.reason) (refuse p .late verdictKind { s with trk := s.trk.withLate c v })

theorem Verdict.escapes_eq_decide (v : Verdict) (e : ExitEntry) :
    v.escapes e = decide (v.result ≠ .pass ∧ e.decision = .pass ∧ e.escape = false) := by
  rw [Bool.eq_iff_iff]
  simp [Verdict.escapes, and_assoc]

theorem Verdict.escapes_iff (v : Verdict) (e : ExitEntry) :
    v.escapes e = true ↔ v.result ≠ .pass ∧ e.decision = .pass ∧ e.escape = false := by
  rw [v.escapes_eq_decide, decide_eq_true_iff]

theorem ExitEntry.addLate_eq (e : ExitEntry) (v : Verdict) :
    e.addLate v = { e with
      late := e.late ++ [v]
      unread := true
      escape := e.escape || decide (v.result ≠ .pass ∧ e.decision = .pass ∧ e.escape = false) } := by
  rw [ExitEntry.addLate, v.escapes_eq_decide]

theorem verdictLate_duplicate {e : ExitEntry} (h : hasVerdict (e.record.verdicts ++ e.late) p = true) (v : Verdict) :
    verdictLate p e v s = refuse p .duplicate verdictKind s := by
  have hd : (hasVerdict e.record.verdicts p || hasVerdict e.late p) = true := by simpa [hasVerdict] using h
  exact if_pos hd

theorem verdictLate_taken {e : ExitEntry} (h : hasVerdict (e.record.verdicts ++ e.late) p = false) (v : Verdict) :
    verdictLate p e v s =
      let late := s.lateTaken p e.record.container v
      if v.escapes e then raise (.escape e.record.container p v.result) (meterInc 27 late) else late := by
  have hd : (hasVerdict e.record.verdicts p || hasVerdict e.late p) = false := by simpa [hasVerdict] using h
  simp [verdictLate, hd, Part.lateTaken, Trk.withLate]

end

/-! ### The statement about VERDICT -/

theorem Geometry.placed_iff (g : Geometry) (p : Port) :
    g.placed p = true ↔ 1 ≤ g.cameras[p].offset ∧ g.cameras[p].offset < g.gate := decide_eq_true_iff

theorem Trk.find_none_iff (t : Trk) (c : Half) : t.find c = none ↔ ∀ r ∈ t.track, r.container ≠ c := by
  simp [Trk.find]

theorem exits_find_none_iff (l : List ExitEntry) (c : Half) :
    l.find? (·.record.container == c) = none ↔ ∀ e ∈ l, e.record.container ≠ c := by
  simp

theorem Trk.find_container {t : Trk} {c : Half} {r : Record} (h : t.find c = some r) : r.container = c := by
  simpa using List.find?_some h

theorem exits_find_container {l : List ExitEntry} {c : Half} {e : ExitEntry}
    (h : l.find? (·.record.container == c) = some e) : e.record.container = c := by
  simpa using List.find?_some h

/-- Settles O30: TRK's checks in their order, each outcome by the lemma of its branch. -/
theorem verdictIsTaken : Obligations.VerdictIsTaken := by
  unfold Obligations.VerdictIsTaken
  intro p c result reason s hears adm q g refused v placed
  have gives : ∀ {t : Part}, takeVerdict p c result reason q = t → Gives (.verdict p c result reason) s t := by
    rintro t rfl; exact exec_verdict_admitted hears adm c result reason
  have role {r : Role} (h : s.part.ports[p].cfg.role = r) : q.ports[p].cfg.role = r := by rw [heardAt_cfg, h]
  have inPlace (h : placed) : q.trk.geometry.placed p = true := (g.placed_iff p).mpr h
  refine ⟨?wrongRole, ?outOfWindow, ?unknown, ?onTrack, ?inExits⟩
  case wrongRole =>
    intro hr
    exact gives (takeVerdict_wrongRole (by rwa [heardAt_cfg]) result reason)
  case outOfWindow =>
    intro hr hp
    have hp : q.trk.geometry.placed p = false := by
      rw [Bool.eq_false_iff]; exact fun h => hp ((g.placed_iff p).mp h)
    exact gives (takeVerdict_outOfWindow (role hr) hp result reason)
  case unknown =>
    rintro hr hp (hc | ⟨ht, he⟩)
    · exact gives (takeVerdict_noContainer (role hr) (inPlace hp) hc result reason)
    · exact gives (takeVerdict_unknown (role hr) (inPlace hp) ((Trk.find_none_iff _ c).mpr ht)
        ((exits_find_none_iff _ c).mpr he) result reason)
  case onTrack =>
    intro r hr hp hc ht pos
    have taken : takeVerdict p c result reason q = verdictOnTrack p r v q :=
      takeVerdict_onTrack (role hr) (inPlace hp) hc ht result reason
    refine ⟨fun early => ?_, fun passed dup => ?_, fun passed fresh => ?_⟩
    · exact gives (taken.trans (verdictOnTrack_early (s := q) early v))
    · exact gives (taken.trans (verdictOnTrack_duplicate (s := q) passed ((hasVerdict_iff _ p).mpr dup) v))
    · have hcont : r.container = c := Trk.find_container (t := s.part.trk) ht
      subst hcont
      exact gives (taken.trans (verdictOnTrack_stored (s := q) passed ((hasVerdict_false_iff _ p).mpr fresh) v))
  case inExits =>
    intro e hr hp hc ht he
    have taken : takeVerdict p c result reason q = verdictLate p e v q :=
      takeVerdict_inExits (role hr) (inPlace hp) hc ((Trk.find_none_iff _ c).mpr ht) he result reason
    refine ⟨fun dup => ?_, fun fresh => ?_⟩
    · exact gives (taken.trans (verdictLate_duplicate ((hasVerdict_iff _ p).mpr dup) v))
    · intro escapes late
      have hcont : e.record.container = c := exits_find_container he
      have hlate : q.lateTaken p e.record.container v = late := by
        simp only [Part.lateTaken, Trk.withLate, ExitEntry.addLate_eq, hcont]; rfl
      have added := taken.trans (verdictLate_taken ((hasVerdict_false_iff _ p).mpr fresh) v)
      rw [hlate, hcont] at added
      refine ⟨fun h => gives (added.trans (if_pos ?_)), fun h => gives (added.trans (if_neg ?_))⟩
      · exact (v.escapes_iff e).mpr h
      · exact fun h' => h ((v.escapes_iff e).mp h')

end Sys2Proof.Machine
end

section
/-! Proofs about TRACK READ and EXIT READ (02_inspection_verdicts_and_the_reject_gate.md): one lemma for each outcome of each
selector; then the statement, row by row. -/

namespace Sys2Proof.Machine

/-! ### A read request that is served -/

/-- A served request becomes what its owner's rule makes of the part with the request entered. -/
theorem gives_of_serve {i : Instr} {k : ReqKind} {tag : Byte} {payload : List Byte} {serve : Nat → Part → Part} {s : State}
    {t : Part} (hi : exec i s = act (takeRequest k tag payload serve) s) (hs : s.part.serves k)
    (hl : lengthFits k payload = true) (hd : payload.length ≤ Config.payloadSize)
    (ht : serve s.part.hlc.nextHandle (s.part.entered k tag payload) = t) : Gives i s t := by
  rw [Gives, hi, act_eq, takeRequest_serves hs hl hd, ht]

theorem Part.serves.below {s : Part} {k : ReqKind} (h : s.serves k) : s.hlc.handlesBelow := by
  obtain ⟨-, -, -, -, hb⟩ := h
  exact hb

@[simp] theorem entered_trk (s : Part) (k : ReqKind) (tag : Byte) (payload : List Byte) :
    (s.entered k tag payload).trk = s.trk := rfl

/-- The container number that two bytes spell, the low one first. -/
theorem toNat_container (lo hi : Byte) : (hi ++ lo : Half).toNat = lo.toNat + 256 * hi.toNat := by
  rw [BitVec.toNat_append, ← Nat.shiftLeft_add_eq_or_of_lt lo.isLt, Nat.shiftLeft_eq]
  omega

/-- The two bytes after the selector, as the number they spell. -/
theorem numberAt_selector (sel lo hi : Byte) : numberAt [sel, lo, hi] 1 2 = lo.toNat + 256 * hi.toNat := by
  simp [numberAt, fromLe]

/-! ### TRACK READ by its selector (R43) -/

section
variable (h : Nat) (s : Part)

theorem serveTrackRead_list (lo hi : Byte) :
    serveTrackRead [0, lo, hi] h s = trackList (lo.toNat + 256 * hi.toNat) h s := by
  rw [← numberAt_selector 0]; rfl

theorem serveTrackRead_record (lo hi : Byte) : serveTrackRead [1, lo, hi] h s = trackRecord (hi ++ lo : Half).toNat h s := by
  rw [toNat_container, ← numberAt_selector 1]; rfl

theorem serveTrackRead_otherwise {sel : Byte} (hsel : 1 < sel.toNat) (lo hi : Byte) :
    serveTrackRead [sel, lo, hi] h s = reply h .badValue s := by
  have hb : byteAt [sel, lo, hi] 0 = sel := rfl
  rw [serveTrackRead, hb]
  split
  · omega
  · omega
  · rfl

theorem trackList_shown {i : Nat} (hi : i ≤ 89) : trackList i h s = replyWith h (trackListContent s i) s := by
  rw [trackList, decide_eq_true hi, check_true]

theorem trackList_beyond {i : Nat} (hi : 89 < i) : trackList i h s = reply h .badValue s := by
  rw [trackList, decide_eq_false (Nat.not_le.mpr hi), check_false]

theorem trackRecord_found {c : Half} (hc : c ≠ 0) {r : Record} (hr : s.trk.find c = some r) :
    trackRecord c.toNat h s = replyWith h (le 4 s.trk.pitch.toNat ++ r.block (s.trk.position r)) s := by
  have hn : c.toNat ≠ 0 := fun e => hc (BitVec.eq_of_toNat_eq e)
  simp [trackRecord, hn, hr]

theorem trackRecord_missing {c : Half} (hc : c = 0 ∨ s.trk.find c = none) :
    trackRecord c.toNat h s = reply h .notFound s := by
  rcases hc with rfl | hc
  · rfl
  · simp [trackRecord, hc]

/-! ### EXIT READ by its selector (R44) -/

theorem serveExitRead_summary (lo hi : Byte) : serveExitRead [0, lo, hi] h s = exitSummary h s := rfl

theorem serveExitRead_index (lo hi : Byte) :
    serveExitRead [1, lo, hi] h s = exitIndex (lo.toNat + 256 * hi.toNat) h s := by
  rw [← numberAt_selector 1]; rfl

theorem serveExitRead_container (lo hi : Byte) :
    serveExitRead [2, lo, hi] h s = exitContainer (hi ++ lo : Half).toNat h s := by
  rw [toNat_container, ← numberAt_selector 2]; rfl

theorem serveExitRead_nextEscape (lo hi : Byte) : serveExitRead [3, lo, hi] h s = exitNextEscape h s := rfl

theorem serveExitRead_otherwise {sel : Byte} (hsel : 3 < sel.toNat) (lo hi : Byte) :
    serveExitRead [sel, lo, hi] h s = reply h .badValue s := by
  have hb : byteAt [sel, lo, hi] 0 = sel := rfl
  rw [serveExitRead, hb]
  split
  · omega
  · omega
  · omega
  · omega
  · rfl

theorem exitIndex_beyond {i : Nat} (hi : 15 < i) : exitIndex i h s = reply h .badValue s := by
  rw [exitIndex, decide_eq_false (Nat.not_le.mpr hi), check_false]

theorem exitIndex_within {i : Nat} (hi : i ≤ 15) : exitIndex i h s = fullRead h s.trk.exits[i]? s := by
  rw [exitIndex, decide_eq_true hi, check_true]

theorem exitContainer_named {c : Half} (hc : c ≠ 0) :
    exitContainer c.toNat h s = fullRead h (s.trk.exits.find? (·.record.container == c)) s := by
  have hn : c.toNat ≠ 0 := fun e => hc (BitVec.eq_of_toNat_eq e)
  simp [exitContainer, hn]

theorem exitContainer_missing {c : Half} (hc : c = 0 ∨ s.trk.exits.find? (·.record.container == c) = none) :
    exitContainer c.toNat h s = reply h .notFound s := by
  rcases hc with rfl | hc
  · rfl
  · simp only [exitContainer, BitVec.ofNat_toNat, BitVec.setWidth_eq, hc, ite_self]; rfl

theorem fullRead_none : fullRead h none s = reply h .notFound s := rfl

end

/-- R44: TRK with the unread mark of a container's exit entry cleared. -/
def Trk.readOf (t : Trk) (c : Half) : Trk :=
  { t with exits := t.exits.map fun x => if x.record.container = c then { x with unread := false } else x }

/-- R44: a full read of an entry, by the request just entered: the whole entry replied, its unread mark cleared. -/
theorem fullRead_entered {s : Part} (hb : s.hlc.handlesBelow) (k : ReqKind) (tag : Byte) (payload : List Byte)
    (e : ExitEntry) :
    fullRead s.hlc.nextHandle (some e) (s.entered k tag payload) =
      { s.answered k tag payload .done e.bytes with trk := s.trk.readOf e.record.container } := by
  have entered : fullRead s.hlc.nextHandle (some e) (s.entered k tag payload) =
      replyWith s.hlc.nextHandle e.bytes ({ s with trk := s.trk.readOf e.record.container }.entered k tag payload) := by
    simp [fullRead, Part.entered, Trk.readOf]
  exact entered.trans (replyWith_entered (s := { s with trk := s.trk.readOf e.record.container }) hb k tag payload e.bytes)

/-! ### The statement about TRACK READ and EXIT READ -/

theorem selector_fits (sel lo hi : Byte) : [sel, lo, hi].length ≤ Config.payloadSize := by simp [Config.payloadSize]

/-- Settles O31: each selector's outcomes, in the order of the checks of its rule. -/
theorem trackAndExitsAreShown : Obligations.TrackAndExitsAreShown := by
  unfold Obligations.TrackAndExitsAreShown
  refine ⟨⟨?list, ?record, ?noSelector⟩, ?exits⟩
  case list =>
    intro tag lo hi s hs i items
    have selected := serveTrackRead_list s.part.hlc.nextHandle (s.part.entered .trackRead tag [0, lo, hi]) lo hi
    refine ⟨fun within => ?_, fun beyond => ?_⟩ <;> refine gives_of_serve rfl hs rfl (selector_fits 0 lo hi) ?_
    · rw [selected, trackList_shown _ _ within]
      exact replyWith_entered hs.below _ _ _ _
    · rw [selected, trackList_beyond _ _ beyond]
      exact reply_entered hs.below _ _ _ _
  case record =>
    intro tag lo hi s hs c
    let entered : Part := s.part.entered .trackRead tag [1, lo, hi]
    have selected : serveTrackRead [1, lo, hi] s.part.hlc.nextHandle entered =
        trackRecord c.toNat s.part.hlc.nextHandle entered := serveTrackRead_record _ _ lo hi
    refine ⟨fun r hc hr => ?_, fun absent => ?_⟩ <;> refine gives_of_serve rfl hs rfl (selector_fits 1 lo hi) ?_
    · rw [selected, trackRecord_found _ entered hc hr]
      exact replyWith_entered hs.below _ _ _ _
    · rw [selected, trackRecord_missing _ entered (absent.imp_right (Trk.find_none_iff _ c).mpr)]
      exact reply_entered hs.below _ _ _ _
  case noSelector =>
    intro tag sel lo hi s hs hsel
    refine gives_of_serve rfl hs rfl (selector_fits sel lo hi) ?_
    rw [serveTrackRead_otherwise _ _ hsel]
    exact reply_entered hs.below _ _ _ _
  case exits =>
    intro tag lo hi s hs exits n c refused read
    let entered (sel : Byte) : Part := s.part.entered .exitRead tag [sel, lo, hi]
    have refusal (sel : Byte) (code : Code) :
        reply s.part.hlc.nextHandle code (entered sel) = refused sel code := reply_entered hs.below _ _ _ _
    have full (sel : Byte) (e : ExitEntry) :
        fullRead s.part.hlc.nextHandle (some e) (entered sel) = read sel e := fullRead_entered hs.below _ _ _ e
    have index := serveExitRead_index s.part.hlc.nextHandle (entered 1) lo hi
    have container : serveExitRead [2, lo, hi] s.part.hlc.nextHandle (entered 2) =
        exitContainer c.toNat s.part.hlc.nextHandle (entered 2) := serveExitRead_container _ _ lo hi
    have nextEscape := serveExitRead_nextEscape s.part.hlc.nextHandle (entered 3) lo hi
    refine ⟨?summary, ?beyond, ?noEntry, ?entry, ?noContainer, ?container, ?noEscape, ?escape, ?noSelector⟩
    case summary =>
      exact gives_of_serve rfl hs rfl (selector_fits 0 lo hi) (replyWith_entered hs.below _ _ _ _)
    case beyond =>
      intro h
      refine gives_of_serve rfl hs rfl (selector_fits 1 lo hi) ?_
      rw [index, exitIndex_beyond _ _ h, refusal]
    case noEntry =>
      intro h past
      refine gives_of_serve rfl hs rfl (selector_fits 1 lo hi) ?_
      rw [index, exitIndex_within _ _ h, entered_trk, List.getElem?_eq_none past, fullRead_none, refusal]
    case entry =>
      intro e h he
      refine gives_of_serve rfl hs rfl (selector_fits 1 lo hi) ?_
      rw [index, exitIndex_within _ _ h, entered_trk, he, full]
    case noContainer =>
      intro absent
      refine gives_of_serve rfl hs rfl (selector_fits 2 lo hi) ?_
      rw [container, exitContainer_missing _ (entered 2) (absent.imp_right (exits_find_none_iff exits c).mpr), refusal]
    case container =>
      intro e hc he
      refine gives_of_serve rfl hs rfl (selector_fits 2 lo hi) ?_
      rw [container, exitContainer_named _ _ hc, entered_trk, he, full]
    case noEscape =>
      intro h
      have none : s.part.trk.exits.find? (·.escapePending) = none := by
        simpa [ExitEntry.escapePending] using h
      refine gives_of_serve rfl hs rfl (selector_fits 3 lo hi) ?_
      rw [nextEscape, exitNextEscape, entered_trk, none, fullRead_none, refusal]
    case escape =>
      intro e he
      have first : s.part.trk.exits.find? (·.escapePending) = some e := he
      refine gives_of_serve rfl hs rfl (selector_fits 3 lo hi) ?_
      rw [nextEscape, exitNextEscape, entered_trk, first, full]
    case noSelector =>
      intro sel hsel
      refine gives_of_serve rfl hs rfl (selector_fits sel lo hi) ?_
      rw [serveExitRead_otherwise _ _ hsel, refusal]

end Sys2Proof.Machine
end

section
/-! Proofs about the requests that show the state: IDENTIFY and STATUS (09_host_link_requests_and_notices.md), FEED READ
(03_product_feeds_and_fill_leases.md) and PORT READ (04_station_ports_and_admission.md): the content of each in the layout of R201,
the number each names, and the part states that turn the last two away; then the statement, request by request. -/

namespace Sys2Proof.Machine

/-! ### A request that QUIET and SAVE turn away -/

/-- R183, check 3: a request of a kind that is not served in QUIET reaches no owner in QUIET or SAVE, whatever its rule is. -/
theorem onlyInRun_of_takeRequest {c : Instr} {k : ReqKind} {tag : Byte} {payload : List Byte} {serve : Nat → Part → Part}
    (hc : ∀ s, exec c s = act (takeRequest k tag payload serve) s) (hq : k.servedInQuiet = false)
    (hl : lengthFits k payload = true) (hd : payload.length ≤ Config.payloadSize) : OnlyInRun c k tag := by
  intro s hrx
  have received (hr : s.part.hostReceives = true) :
      exec c s = .next { s with part := checkRequest k tag payload serve s.part } := by
    rw [hc, act_eq, takeRequest, takeFrame_good hr hrx k.byte tag hd]
  have turnedAway (code : Code) : immediate k.byte tag code s.part = s.part.refused k.byte tag code := by
    rw [immediate_eq, Part.refused, Hlc.refused, ← hrx]
  refine ⟨fun quiet => ?_, fun save => ?_⟩
  · have hr : s.part.hostReceives = true := by simp [Part.hostReceives, Part.active, quiet]
    rw [Gives, received hr, ← turnedAway]
    simp [checkRequest, hl, hq, quiet]
  · have hr : s.part.hostReceives = true := by simp [Part.hostReceives, save]
    rw [Gives, received hr, ← turnedAway]
    simp [checkRequest, hl, save]

/-! ### The number a request names -/

theorem feedOf_number (f : Feed) : feedOf (f.val + 1) = some f := by
  have within : 1 ≤ f.val + 1 ∧ f.val + 1 ≤ 4 := by omega
  simp [feedOf, within]

theorem feedOf_outside {n : Nat} (h : ¬ (1 ≤ n ∧ n ≤ 4)) : feedOf n = none := dif_neg h

theorem portOf_number (p : Port) : portOf (p.val + 1) = some p := by
  have within : 1 ≤ p.val + 1 ∧ p.val + 1 ≤ 12 := by omega
  simp [portOf, within]

theorem portOf_outside {n : Nat} (h : ¬ (1 ≤ n ∧ n ≤ 12)) : portOf n = none := dif_neg h

/-- A byte that names an index is the byte the part shows for it. -/
theorem numberByte_of_named {m : Nat} {i : Fin m} {n : Byte} (h : n.toNat = i.val + 1) : numberByte i = n := by
  rw [numberByte, number, ← h, BitVec.ofNat_toNat, BitVec.setWidth_eq]

/-! ### A request that shows what its number names -/

/-- The rule of FEED READ and PORT READ: the number names something, whose content is replied, or is refused BAD-VALUE. -/
def serveShown {α : Type} (name : Nat → Option α) (content : Part → α → List Byte) (n : Byte) (h : Nat) : Part → Part :=
  orBadValue h (name n.toNat) fun a s => replyWith h (content s a) s

theorem exec_feedRead (tag n : Byte) (s : State) :
    exec (.feedRead tag [n]) s = act (takeRequest .feedRead tag [n] (serveShown feedOf feedContent n)) s := rfl

theorem exec_portRead (tag n : Byte) (s : State) :
    exec (.portRead tag [n]) s = act (takeRequest .portRead tag [n] (serveShown portOf portContent n)) s := rfl

/-- A payload of one byte fits a host frame. -/
theorem number_fits (n : Byte) : [n].length ≤ Config.payloadSize := by simp [Config.payloadSize]

section
variable {α : Type} {name : Nat → Option α} {content : Part → α → List Byte} {c : Instr} {k : ReqKind} {tag n : Byte}
  {s : State} (hc : exec c s = act (takeRequest k tag [n] (serveShown name content n)) s) (hs : s.part.serves k)
  (hl : lengthFits k [n] = true)
include hc hs hl

/-- What the number names is shown, and nothing else changes. -/
theorem gives_shown {a : α} (ha : name n.toNat = some a) {shown : List Byte}
    (hshown : content (s.part.entered k tag [n]) a = shown) : Gives c s (s.part.answered k tag [n] .done shown) := by
  refine gives_of_serve hc hs hl (number_fits n) ?_
  rw [serveShown, ha, orBadValue_some, hshown]
  exact replyWith_entered hs.below _ _ _ _

/-- A number that names nothing is refused, and nothing else changes. -/
theorem gives_badNumber (ha : name n.toNat = none) : Gives c s (s.part.answered k tag [n] .badValue []) := by
  refine gives_of_serve hc hs hl (number_fits n) ?_
  rw [serveShown, ha, orBadValue_none]
  exact reply_entered hs.below _ _ _ _

end

/-! ### The contents (R201); none but STATUS's depends on the request just entered -/

section
variable (s : Part) (k : ReqKind) (tag : Byte) (payload : List Byte)

/-- R187: the product code is 1240, 04D8h. -/
theorem identifyContent_entered : identifyContent (s.entered k tag payload) =
    identityBytes s.nvs.identity ++ [0xD8, 0x04, s.hlc.rate.byte, 8, 32] := rfl

/-- R187: STATUS counts its own entry among the outstanding requests. -/
theorem statusContent_entered : statusContent (s.entered k tag payload) =
    [s.psc.state.byte, s.psc.cause.byte, s.trk.line.byte, markByte s.trk.geometryPending,
     BitVec.ofNat 8 s.trk.escapePending, BitVec.ofNat 8 (s.hlc.table.length + 1), BitVec.ofNat 8 s.hlc.notices.length,
     BitVec.ofNat 8 s.hlc.mask, BitVec.ofNat 8 s.hlc.gap, BitVec.ofNat 8 s.nvs.queue.length] := by
  have counted : (s.entered k tag payload).hlc.table.length = s.hlc.table.length + 1 := List.length_append
  rw [statusContent, counted]
  rfl

theorem feedContent_entered (f : Feed) : feedContent (s.entered k tag payload) f = feedContent s f := rfl

theorem portContent_entered (p : Port) : portContent (s.entered k tag payload) p = portContent s p := rfl

end

theorem leaseBlock_none (s : Part) {st : FeedState} (h : st.lease? = none) : leaseBlock s st = List.replicate 14 0 := by
  rw [leaseBlock, h]

theorem leaseBlock_some (s : Part) {st : FeedState} {l : Lease} (h : st.lease? = some l) :
    leaseBlock s st = [1, numberByte l.port] ++ le 2 l.container.toNat ++
      [BitVec.ofNat 8 l.granted, BitVec.ofNat 8 l.index, BitVec.ofNat 8 l.retries, markByte l.inFlight,
       BitVec.ofNat 8 l.after, markByte l.remnant, markByte st.permits] ++ le 2 (s.timeLeft l.timer) ++ [l.target.byte] := by
  rw [leaseBlock, h]

/-! ### The statement about the requests that show the state -/

/-- Settles O18: the content of each request, the number refused, and the part states that turn FEED READ and PORT READ away. -/
theorem partFeedsAndPortsAreShown : Obligations.PartFeedsAndPortsAreShown := by
  unfold Obligations.PartFeedsAndPortsAreShown
  refine ⟨⟨?identify, ?status⟩, ⟨?feed, ?feedInRun⟩, ⟨?port, ?portInRun⟩⟩
  case identify =>
    intro tag s hs
    refine gives_of_serve rfl hs rfl (Nat.zero_le _) ?_
    rw [serveIdentify, identifyContent_entered]
    exact replyWith_entered hs.below _ _ _ _
  case status =>
    intro tag s hs
    refine gives_of_serve rfl hs rfl (Nat.zero_le _) ?_
    rw [serveStatus, statusContent_entered]
    exact replyWith_entered hs.below _ _ _ _
  case feed =>
    intro tag n s hs
    refine ⟨fun outside => gives_badNumber (exec_feedRead tag n s) hs rfl (feedOf_outside outside), ?_⟩
    intro f named r
    refine gives_shown (exec_feedRead tag n s) hs rfl (named ▸ feedOf_number f) ?_
    rw [feedContent_entered, feedContent]
    cases lease : s.part.fco.feeds[f].state.lease? with
    | none => rw [leaseBlock_none _ lease]; rfl
    | some l => rw [leaseBlock_some _ lease]; rfl
  case port =>
    intro tag n s hs
    refine ⟨fun outside => gives_badNumber (exec_portRead tag n s) hs rfl (portOf_outside outside), ?_⟩
    intro p named r
    refine gives_shown (exec_portRead tag n s) hs rfl (named ▸ portOf_number p) ?_
    rw [portContent_entered, portContent, numberByte_of_named named]
    -- The time left on the proof timer is 0 where no exchange is under way.
    cases context : s.part.prv.contexts[p] with
    | none => rfl
    | some x => rfl
  case feedInRun =>
    exact fun tag n => onlyInRun_of_takeRequest (exec_feedRead tag n) rfl rfl (number_fits n)
  case portInRun =>
    exact fun tag n => onlyInRun_of_takeRequest (exec_portRead tag n) rfl rfl (number_fits n)

end Sys2Proof.Machine
end

section
/-! Proofs about LOCKOUT, RELEASE and REMOVE HOLD (06_service_sessions_and_lockout.md): the session and the port that each of them
names, checked once for all three; one lemma for each outcome on a port; then the two statements, check by check. -/

namespace Sys2Proof.Machine

/-! ### A request that names a session and a port -/

theorem hasRoom_iff (n : Nvs) : n.hasRoom = true ↔ n.queue.length < 8 := decide_eq_true_iff

theorem hasRoom_false_iff (n : Nvs) : n.hasRoom = false ↔ 8 ≤ n.queue.length := by
  rw [← Bool.not_eq_true, hasRoom_iff, Nat.not_lt]

theorem Part.inSession.num_eq {s : Part} {num : Byte} {x : Session} (h : s.inSession num x) : x.num = num := by
  obtain ⟨-, found⟩ := h
  simpa using List.find?_some found

theorem Part.accepts.num_eq {s : Part} {k : ReqKind} {num : Byte} {x : Session} (h : s.accepts k num x) : x.num = num := by
  obtain ⟨-, session, -⟩ := h
  exact session.num_eq

/-- A request refused once its session is accepted: the idle timer restarts, and the code is replied. -/
theorem reply_sessionEntered {s : Part} {k : ReqKind} {num : Byte} {x : Session} (ha : s.accepts k num x) (tag : Byte)
    (payload : List Byte) (code : Code) :
    reply s.hlc.nextHandle code ((s.withIdle num).entered k tag payload) =
      (s.withIdle num).answered k tag payload code [] :=
  reply_entered (s := s.withIdle num) ha.1.below k tag payload code

/-- The shape of the rules of LOCKOUT, RELEASE and REMOVE HOLD: the session, then the port, then the request's own rule. -/
def serveAtPort (num n : Byte) (permitted : BadgeRole → Bool) (rule : Nat → Session → Port → Part → Part) (h : Nat) :
    Part → Part :=
  withSession h num permitted fun x => orBadValue h (portOf n.toNat) (rule h x)

theorem exec_lockout (tag num n : Byte) (s : State) : exec (.lockout tag [num, n]) s =
    act (takeRequest .lockout tag [num, n] (serveAtPort num n anyRole lockoutPort)) s := rfl

theorem exec_release (tag num n : Byte) (s : State) : exec (.release tag [num, n]) s =
    act (takeRequest .release tag [num, n] (serveAtPort num n anyRole fun h x => releaseHold h x.badge)) s := rfl

theorem exec_removeHold (tag num n b0 b1 b2 b3 : Byte) (s : State) :
    exec (.removeHold tag [num, n, b0, b1, b2, b3]) s = act (takeRequest .removeHold tag [num, n, b0, b1, b2, b3]
      (serveAtPort num n supervisorOnly fun h _ => releaseHold h (wordAt [num, n, b0, b1, b2, b3] 2))) s := rfl

section
variable {c : Instr} {k : ReqKind} {tag num n : Byte} {payload : List Byte} {permitted : BadgeRole → Bool}
  {rule : Nat → Session → Port → Part → Part} {x : Session} {s : State}
  (hc : exec c s = act (takeRequest k tag payload (serveAtPort num n permitted rule)) s) (ha : s.part.accepts k num x)
  (hp : permitted x.role = true) (hl : lengthFits k payload = true) (hd : payload.length ≤ Config.payloadSize)
include hc ha hp hl hd

/-- A number that names no port is refused BAD-VALUE. -/
theorem gives_badPort (hn : ¬ (1 ≤ n.toNat ∧ n.toNat ≤ 12)) :
    Gives c s ((s.part.withIdle num).answered k tag payload .badValue []) := by
  have ⟨serves, session, _⟩ := ha
  refine gives_of_serve hc serves hl hd ?_
  rw [serveAtPort, withSession_accepts session hp, portOf_outside hn, orBadValue_none]
  exact reply_sessionEntered ha tag payload .badValue

/-- On a port the request's own rule decides, with the session's idle timer restarted. -/
theorem gives_atPort {p : Port} (hn : n.toNat = p.val + 1) {t : Part}
    (ht : rule s.part.hlc.nextHandle x p ((s.part.withIdle num).entered k tag payload) = t) : Gives c s t := by
  obtain ⟨serves, session, -⟩ := ha
  refine gives_of_serve hc serves hl hd ?_
  rw [serveAtPort, withSession_accepts session hp, hn, portOf_number, orBadValue_some, ht]

/-- What the request's own rule refuses on a port is replied with its code. -/
theorem gives_refusedAtPort {p : Port} (hn : n.toNat = p.val + 1) {code : Code}
    (ht : rule s.part.hlc.nextHandle x p ((s.part.withIdle num).entered k tag payload) =
      reply s.part.hlc.nextHandle code ((s.part.withIdle num).entered k tag payload)) :
    Gives c s ((s.part.withIdle num).answered k tag payload code []) :=
  gives_atPort hc ha hp hl hd hn (ht.trans (reply_sessionEntered ha tag payload code))

end

/-- The payload of LOCKOUT and RELEASE fits a host frame. -/
theorem sessionPort_fits (num n : Byte) : [num, n].length ≤ Config.payloadSize := by simp [Config.payloadSize]

/-! ### LOCKOUT on a port (R134) -/

section
variable {h : Nat} {x : Session} {p : Port} {s : Part}

theorem lockoutPort_holdersFull (full : 3 ≤ s.sva.holders[p].length) : lockoutPort h x p s = reply h .full s := by
  have noPlace : decide (s.sva.holders[p].length < Config.holdSize) = false := decide_eq_false (Nat.not_lt.mpr full)
  rw [lockoutPort, noPlace, check_false]

/-- With a place in the holder set the next check is that of the badge. -/
theorem lockoutPort_place (place : s.sva.holders[p].length < 3) : lockoutPort h x p s =
    check h (!s.sva.holders[p].any (·.badge == x.badge)) .alreadyHeld
      (fun s => check h s.nvs.hasRoom .full (placeHold h x p) s) s := by
  have place : decide (s.sva.holders[p].length < Config.holdSize) = true := decide_eq_true place
  rw [lockoutPort, place, check_true]

theorem lockoutPort_alreadyHeld (place : s.sva.holders[p].length < 3) (held : ∃ y ∈ s.sva.holders[p], y.badge = x.badge) :
    lockoutPort h x p s = reply h .alreadyHeld s := by
  have held : s.sva.holders[p].any (·.badge == x.badge) = true := by simpa only [List.any_eq_true, beq_iff_eq] using held
  rw [lockoutPort_place place, held, Bool.not_true, check_false]

/-- With a place and no hold of the badge the last check is that of the store queue. -/
theorem lockoutPort_notHeld (place : s.sva.holders[p].length < 3) (free : ∀ y ∈ s.sva.holders[p], y.badge ≠ x.badge) :
    lockoutPort h x p s = check h s.nvs.hasRoom .full (placeHold h x p) s := by
  have free : s.sva.holders[p].any (·.badge == x.badge) = false := by
    simpa only [List.any_eq_false, beq_iff_eq] using free
  rw [lockoutPort_place place, free, Bool.not_false, check_true]

theorem lockoutPort_storeFull (place : s.sva.holders[p].length < 3) (free : ∀ y ∈ s.sva.holders[p], y.badge ≠ x.badge)
    (full : 8 ≤ s.nvs.queue.length) : lockoutPort h x p s = reply h .full s := by
  rw [lockoutPort_notHeld place free, (hasRoom_false_iff _).mpr full, check_false]

theorem lockoutPort_accepted (place : s.sva.holders[p].length < 3) (free : ∀ y ∈ s.sva.holders[p], y.badge ≠ x.badge)
    (room : s.nvs.queue.length < 8) : lockoutPort h x p s = placeHold h x p s := by
  rw [lockoutPort_notHeld place free, (hasRoom_iff _).mpr room, check_true]

end

/-- R135: the part with a LOCKOUT that waits on its hold, and the HOLD-ADD job of that hold queued. -/
def Part.awaitsHold (s : Part) (h : Nat) (p : Port) (x : Session) (placed : Stamp) : Part :=
  Part.queued { s with sva := { s.sva with lockouts := s.sva.lockouts ++ [⟨h, p, x.badge⟩] } }
    (.holdAdd ⟨p, x.badge, x.num, placed⟩) [h]

theorem placeHold_eq (h : Nat) (x : Session) (p : Port) (s : Part) :
    let held := addHold p ⟨x.badge, x.num, s.mtu.hall, false, false⟩ s
    placeHold h x p s =
      (if s.sva.holders[p].isEmpty then isolateRobot p (isolatePort p held) else held).awaitsHold h p x s.mtu.hall := rfl

/-- R134, R96: a first hold isolates the port at SPX and then the robot at FCO. -/
theorem placeHold_first (h : Nat) (x : Session) {p : Port} {s : Part} (first : s.sva.holders[p] = []) : placeHold h x p s =
    (isolateRobot p (isolatePort p (addHold p ⟨x.badge, x.num, s.mtu.hall, false, false⟩ s))).awaitsHold h p x
      s.mtu.hall := by
  rw [placeHold_eq, if_pos (List.isEmpty_iff.mpr first)]

/-- R134: a hold beside others reaches neither SPX nor FCO. -/
theorem placeHold_further (h : Nat) (x : Session) {p : Port} {s : Part} (further : s.sva.holders[p] ≠ []) :
    placeHold h x p s = (addHold p ⟨x.badge, x.num, s.mtu.hall, false, false⟩ s).awaitsHold h p x s.mtu.hall := by
  rw [placeHold_eq, if_neg fun empty => further (List.isEmpty_iff.mp empty)]

/-- Settles O48: the checks of LOCKOUT in their order; then the hold placed, a first one or a further one. -/
theorem lockoutPlacesAHold : Obligations.LockoutPlacesAHold := by
  unfold Obligations.LockoutPlacesAHold
  intro tag num n x s ha q refused
  have executed := exec_lockout tag num n s
  have fits := sessionPort_fits num n
  refine ⟨gives_badPort executed ha rfl rfl fits, fun p hn => ?onPort⟩
  case onPort =>
    intro held
    have refusal {code : Code} := gives_refusedAtPort (code := code) executed ha rfl rfl fits hn
    refine ⟨fun full => refusal (lockoutPort_holdersFull full),
      fun place mine => refusal (lockoutPort_alreadyHeld place mine),
      fun place free full => refusal (lockoutPort_storeFull place free full), fun place free room => ?accepted⟩
    case accepted =>
      intro h placed waits
      obtain rfl : x.num = num := ha.num_eq
      let entered : Part := q.entered .lockout tag [x.num, n]
      have accepted : lockoutPort h x p entered = placeHold h x p entered := lockoutPort_accepted place free room
      have added : addHold p ⟨x.badge, x.num, entered.mtu.hall, false, false⟩ entered = placed := rfl
      refine ⟨fun further => ?_, fun first => ?_⟩ <;> refine gives_atPort executed ha rfl rfl fits hn (accepted.trans ?_)
      · rw [placeHold_further h x (s := entered) further, added]; rfl
      · rw [placeHold_first h x (s := entered) first, added]; rfl

/-! ### The release of a hold on a port (R138, R139) -/

theorem Job.addsHold_iff (j : Job) (p : Port) (badge : Word) :
    j.addsHold p badge = true ↔ ∃ a, j.body = .holdAdd a ∧ a.port = p ∧ a.badge = badge := by
  obtain ⟨body, origin⟩ := j
  cases body <;> simp [Job.addsHold]

theorem any_addsHold_iff (n : Nvs) (p : Port) (badge : Word) : n.jobs.any (·.addsHold p badge) = true ↔
    ∃ j a, (j ∈ n.queue ∨ n.inFlight = some j) ∧ j.body = .holdAdd a ∧ a.port = p ∧ a.badge = badge := by
  simp only [Nvs.jobs, List.any_eq_true, List.mem_append, Option.mem_toList, Job.addsHold_iff, exists_and_left,
    or_comm]

section
variable {h : Nat} {badge : Word} {p : Port} {s : Part}

theorem releaseHold_notFound (absent : ∀ y ∈ s.sva.holders[p], y.badge ≠ badge) :
    releaseHold h badge p s = reply h .notFound s := by
  have absent : s.sva.holders[p].find? (·.badge == badge) = none := by simpa using absent
  rw [releaseHold, absent]

section
variable {y : Hold} (found : s.sva.holders[p].find? (·.badge == badge) = some y)
include found

theorem releaseHold_inProgress (busy : y.releasing = true ∨ s.nvs.jobs.any (·.addsHold p badge) = true) :
    releaseHold h badge p s = reply h .inProgress s := by
  have busy : (!y.releasing && !s.nvs.jobs.any (·.addsHold p badge)) = false := by
    rcases busy with busy | busy <;> simp only [busy, Bool.not_true, Bool.false_and, Bool.and_false]
  simp only [releaseHold, found, busy, check_false]

/-- For a hold that is neither in release nor being recorded the last check is that of the store queue. -/
theorem releaseHold_idle (settled : y.releasing = false) (recorded : s.nvs.jobs.any (·.addsHold p badge) = false) :
    releaseHold h badge p s = check h s.nvs.hasRoom .full (startRelease h p badge) s := by
  simp only [releaseHold, found, settled, recorded, Bool.not_false, Bool.and_self, check_true]

theorem releaseHold_storeFull (settled : y.releasing = false) (recorded : s.nvs.jobs.any (·.addsHold p badge) = false)
    (full : 8 ≤ s.nvs.queue.length) : releaseHold h badge p s = reply h .full s := by
  rw [releaseHold_idle found settled recorded, (hasRoom_false_iff _).mpr full, check_false]

theorem releaseHold_accepted (settled : y.releasing = false) (recorded : s.nvs.jobs.any (·.addsHold p badge) = false)
    (room : s.nvs.queue.length < 8) : releaseHold h badge p s = startRelease h p badge s := by
  rw [releaseHold_idle found settled recorded, (hasRoom_iff _).mpr room, check_true]

end
end

/-- R138: the hold's releasing mark set, and its HOLD-REMOVE job queued. -/
theorem startRelease_eq (h : Nat) (p : Port) (badge : Word) (s : Part) : startRelease h p badge s =
    Part.queued { s with sva := { s.sva with holders := s.sva.holders.set p (s.sva.holders[p].map fun z =>
      if z.badge = badge then { z with releasing := true } else z) } } (.holdRemove p badge) [h] := by
  simp only [startRelease, modHold, upd, queueJob, Part.queued, beq_iff_eq]

/-! ### The badge a REMOVE HOLD names -/

theorem toNat_append_byte {w : Nat} (hi : BitVec w) (lo : Byte) : (hi ++ lo).toNat = lo.toNat + 256 * hi.toNat := by
  rw [BitVec.toNat_append, ← Nat.shiftLeft_add_eq_or_of_lt lo.isLt, Nat.shiftLeft_eq]
  omega

/-- The four bytes after session and port, the low one first, as the badge they spell. -/
theorem wordAt_badge (num n b0 b1 b2 b3 : Byte) : wordAt [num, n, b0, b1, b2, b3] 2 = (b3 ++ b2 ++ b1 ++ b0 : Word) := by
  have spelled : numberAt [num, n, b0, b1, b2, b3] 2 4 = (b3 ++ b2 ++ b1 ++ b0 : Word).toNat := by
    simp only [toNat_append_byte]
    rfl
  rw [wordAt, spelled, BitVec.ofNat_toNat, BitVec.setWidth_eq]

theorem supervisorOnly_eq (r : BadgeRole) : supervisorOnly r = (r == .supervisor) := by cases r <;> rfl

/-! ### The statement about RELEASE and REMOVE HOLD -/

/-- Settles O50: the rules of a release are shown once, for a badge, whichever request names it; RELEASE names that of its
session, REMOVE HOLD the one its bytes spell. -/
theorem releasesQueueTheRemoval : Obligations.ReleasesQueueTheRemoval := by
  unfold Obligations.ReleasesQueueTheRemoval
  intro rules
  have kept {c : Instr} {k : ReqKind} {tag num n : Byte} {d : List Byte} {permitted : BadgeRole → Bool}
      {rule : Nat → Session → Port → Part → Part} {badge : Word} {x : Session} {s : State}
      (hc : exec c s = act (takeRequest k tag d (serveAtPort num n permitted rule)) s) (ha : s.part.accepts k num x)
      (hp : permitted x.role = true) (hl : lengthFits k d = true) (hd : d.length ≤ Config.payloadSize)
      (hr : ∀ h, rule h x = releaseHold h badge) : rules c k tag d num n badge s := by
    refine ⟨gives_badPort hc ha hp hl hd, fun p hn => ?_⟩
    let entered : Part := (s.part.withIdle num).entered k tag d
    have outcome {t : Part} (ht : releaseHold s.part.hlc.nextHandle badge p entered = t) : Gives c s t :=
      gives_atPort hc ha hp hl hd hn (by rw [hr, ht])
    have refusal {code : Code}
        (ht : releaseHold s.part.hlc.nextHandle badge p entered = reply s.part.hlc.nextHandle code entered) :
        Gives c s ((s.part.withIdle num).answered k tag d code []) :=
      gives_refusedAtPort hc ha hp hl hd hn (by rw [hr, ht])
    refine ⟨fun absent => refusal (releaseHold_notFound absent), fun y found => ?found⟩
    case found =>
      intro adding
      have added := any_addsHold_iff entered.nvs p badge
      have notAdded (idle : ¬ adding) : entered.nvs.jobs.any (·.addsHold p badge) = false :=
        Bool.eq_false_iff.mpr fun adds => idle (added.mp adds)
      refine ⟨fun busy => refusal (releaseHold_inProgress found (busy.imp_right added.mpr)),
        fun settled idle full => refusal (releaseHold_storeFull (s := entered) found settled (notAdded idle) full),
        fun settled idle room => outcome ?_⟩
      rw [releaseHold_accepted (s := entered) found settled (notAdded idle) room, startRelease_eq]
      rfl
  refine ⟨?release, ?removeHold⟩
  case release =>
    exact fun tag num n x s ha =>
      kept (exec_release tag num n s) ha rfl rfl (sessionPort_fits num n) fun _ => rfl
  case removeHold =>
    intro tag num n b0 b1 b2 b3 x s ha
    have ⟨_, _, supervisor⟩ := ha
    have fits : [num, n, b0, b1, b2, b3].length ≤ Config.payloadSize := by simp [Config.payloadSize]
    refine kept (exec_removeHold tag num n b0 b1 b2 b3 s) ha ?_ rfl fits fun _ => ?_
    · exact (supervisorOnly_eq x.role).trans supervisor
    · rw [wordAt_badge]

end Sys2Proof.Machine
end

section
/-! Proofs about HOLD LIST (06_service_sessions_and_lockout.md) and METER READ (07_machine_time_and_meters.md): what a number of holds
or a range of meters shows, in the layout of R201; then the statement, request by request. -/

namespace Sys2Proof.Machine

/-! ### HOLD LIST (R133) -/

/-- R133: the number 0 names all ports, shown by badge number. -/
theorem holdContent_all (s : Part) :
    holdContent s 0 = some ((List.finRange 12).flatMap (holdItems s fun x => le 4 x.badge.toNat)) := rfl

theorem holdContent_port (s : Part) (p : Port) : holdContent s (p.val + 1) = some (holdItems s Hold.bytes p) := by
  rw [holdContent, if_neg (Nat.succ_ne_zero _), portOf_number, Option.map_some]

theorem holdContent_beyond (s : Part) {n : Nat} (h : 12 < n) : holdContent s n = none := by
  rw [holdContent, if_neg (by omega), portOf_outside (by omega), Option.map_none]

theorem Hold.bytes_eq (x : Hold) : x.bytes = le 4 x.badge.toNat ++ [x.session] ++ le 6 x.placed.time.toNat ++
    [markByte x.placed.unset, markByte x.recorded, markByte x.releasing] := by
  simp only [Hold.bytes, Stamp.bytes, List.append_assoc, List.cons_append, List.nil_append]

theorem holdContent_entered (s : Part) (k : ReqKind) (tag : Byte) (payload : List Byte) (n : Nat) :
    holdContent (s.entered k tag payload) n = holdContent s n := rfl

theorem exec_holdList (tag n : Byte) (s : State) :
    exec (.holdList tag [n]) s = act (takeRequest .holdList tag [n] (serveHoldList n.toNat)) s := rfl

section
variable {tag n : Byte} {s : State} (hs : s.part.serves .holdList)
include hs

theorem gives_holdList {shown : List Byte} (h : holdContent s.part n.toNat = some shown) :
    Gives (.holdList tag [n]) s (s.part.answered .holdList tag [n] .done shown) := by
  refine gives_of_serve (exec_holdList tag n s) hs rfl (number_fits n) ?_
  rw [serveHoldList, holdContent_entered, h, orBadValue_some]
  exact replyWith_entered hs.below _ _ _ _

theorem gives_holdList_refused (h : holdContent s.part n.toNat = none) :
    Gives (.holdList tag [n]) s (s.part.answered .holdList tag [n] .badValue []) := by
  refine gives_of_serve (exec_holdList tag n s) hs rfl (number_fits n) ?_
  rw [serveHoldList, holdContent_entered, h, orBadValue_none]
  exact reply_entered hs.below _ _ _ _

end

/-! ### The meters of a range (R156) -/

/-- A range of numbers cut out of a longer one that starts at 0. -/
theorem filter_range_between {first count n : Nat} (h : first + count ≤ n) :
    (List.range n).filter (fun m => decide (first ≤ m ∧ m < first + count)) = List.range' first count := by
  obtain ⟨rest, rfl⟩ := Nat.exists_eq_add_of_le h
  have cut : List.range (first + count + rest) =
      List.range' 0 first ++ List.range' first count ++ List.range' (first + count) rest := by
    rw [List.range_eq_range', ← List.range'_append_1, Nat.zero_add, ← List.range'_append_1, Nat.zero_add]
  have before : (List.range' 0 first).filter (fun m => decide (first ≤ m ∧ m < first + count)) = [] := by
    simp only [List.filter_eq_nil_iff, List.mem_range'_1, decide_eq_true_eq]
    omega
  have inside : (List.range' first count).filter (fun m => decide (first ≤ m ∧ m < first + count)) =
      List.range' first count := by
    simp only [List.filter_eq_self, List.mem_range'_1, decide_eq_true_eq, imp_self, implies_true]
  have beyond : (List.range' (first + count) rest).filter (fun m => decide (first ≤ m ∧ m < first + count)) = [] := by
    simp only [List.filter_eq_nil_iff, List.mem_range'_1, decide_eq_true_eq]
    omega
  rw [cut, List.filter_append, List.filter_append, before, inside, beyond, List.nil_append, List.append_nil]

/-- The meters of a range that ends at 28 or before, in order: those at or above the first and below its end. -/
theorem metersFrom_eq {first count : Nat} (h : first + count ≤ 28) :
    (List.range count).filterMap (fun i => meterOf (first + i)) =
      (List.finRange 28).filter fun m => decide (first ≤ m.val ∧ m.val < first + count) := by
  apply List.map_injective_iff.mpr Fin.val_injective
  have named : ((List.range count).filterMap fun i => meterOf (first + i)).map Fin.val = List.range' first count := by
    have each : ∀ i ∈ List.range count, (meterOf (first + i)).map Fin.val = some (first + i) := by
      intro i hi
      rw [List.mem_range] at hi
      rw [meterOf, dif_pos (by omega), Option.map_some]
    rw [List.map_filterMap, List.filterMap_congr each, List.filterMap_eq_map', List.range'_eq_map_range]
  have inRange : ((List.finRange 28).filter fun m => decide (first ≤ m.val ∧ m.val < first + count)).map Fin.val =
      (List.range 28).filter fun m => decide (first ≤ m ∧ m < first + count) := by
    rw [← List.map_coe_finRange_eq_range, List.filter_map]
    rfl
  rw [named, inRange, filter_range_between h]

/-- R153: the port shown with a meter is the one whose meter A it is. -/
theorem portShown_iff (m : Meter) (p : Port) :
    (if m.val < 24 then portOfMeterA m else none) = some p ↔ meterA p = m := by
  have even : meterA p = m ↔ 2 * p.val = m.val := Fin.ext_iff
  have below := p.isLt
  rw [even]
  by_cases stations : m.val < 24
  · by_cases a : m.val % 2 = 0
    · have within : 1 ≤ m.val / 2 + 1 ∧ m.val / 2 + 1 ≤ 12 := by omega
      rw [if_pos stations, portOfMeterA, if_pos a, portOf, dif_pos within, Option.some_inj, Fin.ext_iff]
      simp only [Nat.add_sub_cancel]
      omega
    · rw [if_pos stations, portOfMeterA, if_neg a]
      simp only [reduceCtorEq, false_iff]
      omega
  · rw [if_neg stations]
    simp only [reduceCtorEq, false_iff]
    omega

/-- The indices that satisfy a predicate which holds of at most the one that is named. -/
theorem filter_finRange_eq_toList {n : Nat} {P : Fin n → Bool} {o : Option (Fin n)} (h : ∀ i, o = some i ↔ P i = true) :
    (List.finRange n).filter P = o.toList := by
  cases o with
  | none => simpa using h
  | some j =>
    have only : P = (· == j) := by
      funext i
      rw [Bool.eq_iff_iff, ← h i, beq_iff_eq, Option.some_inj, eq_comm]
    rw [only, List.filter_beq, List.count_finRange]
    rfl

/-- R156, R201: a meter's entry; the last four fields are those of the port whose meter A it is. -/
theorem meterBytes_eq (s : Part) (m : Meter) : meterBytes s m =
    le 4 s.mtu.meters[m].value.toNat ++ [markByte s.mtu.meters[m].full] ++
      ((List.finRange 12).filter fun p => meterA p == m).flatMap fun p =>
        s.mtu.cfg[p].bytes ++ [s.mtu.service[p].byte] := by
  have shown : ((List.finRange 12).filter fun p => meterA p == m) =
      (if m.val < 24 then portOfMeterA m else none).toList :=
    filter_finRange_eq_toList fun p => by rw [portShown_iff, beq_iff_eq]
  rw [shown, meterBytes]
  cases (if m.val < 24 then portOfMeterA m else none) with
  | none => rfl
  | some p => simp only [Option.toList_some, List.flatMap_singleton]

/-! ### The last checkpoint and the jobs for the next (R156) -/

/-- R156: the flags of METER READ as a number. -/
def Nvs.checkpointFlags (n : Nvs) : Nat :=
  (if n.queue.any (·.isCheckpoint) then 1 else 0) + (if n.inFlight.any (·.isCheckpoint) then 2 else 0) +
    if Deferred.checkpoint ∈ n.deferred then 4 else 0

theorem threeMarks_eq (a b c : Bool) : markByte a ||| markByte b <<< 1 ||| markByte c <<< 2 =
    BitVec.ofNat 8 ((if a then 1 else 0) + (if b then 2 else 0) + if c then 4 else 0) := by
  revert a b c; decide

theorem checkpointFlags_byte (n : Nvs) :
    markByte (n.queue.any (·.isCheckpoint)) ||| markByte (n.inFlight.any (·.isCheckpoint)) <<< 1 |||
      markByte (n.deferred.contains .checkpoint) <<< 2 = BitVec.ofNat 8 n.checkpointFlags := by
  simp only [threeMarks_eq, Nvs.checkpointFlags, List.contains_iff_mem]

section
variable {s : Part}

theorem checkpointBytes_none (h : s.mtu.lastCheckpoint = none) :
    checkpointBytes s = List.replicate 14 0 ++ [BitVec.ofNat 8 s.nvs.checkpointFlags] := by
  rw [checkpointBytes, h, checkpointFlags_byte]

theorem checkpointBytes_some {k : LastCheckpoint} (h : s.mtu.lastCheckpoint = some k) : checkpointBytes s =
    [1] ++ le 6 k.uptime.toNat ++ le 6 k.hall.time.toNat ++ [markByte k.hall.unset] ++
      [BitVec.ofNat 8 s.nvs.checkpointFlags] := by
  rw [checkpointBytes, h, checkpointFlags_byte]
  simp only [Stamp.bytes, List.cons_append, List.nil_append, List.append_assoc]

end

/-! ### METER READ (R156) -/

theorem exec_meterRead (tag first count : Byte) (s : State) : exec (.meterRead tag [first, count]) s =
    act (takeRequest .meterRead tag [first, count] (serveMeterRead first.toNat count.toNat)) s := rfl

section
variable {first count h : Nat} {s : Part}

theorem serveMeterRead_refused (out : ¬ (first ≤ 27 ∧ 1 ≤ count ∧ count ≤ 16 ∧ first + count ≤ 28)) :
    serveMeterRead first count h s = reply h .badValue s := by
  rw [serveMeterRead, decide_eq_false out, check_false]

theorem serveMeterRead_shown (within : first ≤ 27 ∧ 1 ≤ count ∧ count ≤ 16 ∧ first + count ≤ 28) :
    serveMeterRead first count h s = replyWith h
      (((List.finRange 28).filter fun m => decide (first ≤ m.val ∧ m.val < first + count)).flatMap (meterBytes s) ++
        checkpointBytes s) s := by
  have ⟨_, _, _, last⟩ := within
  rw [serveMeterRead, decide_eq_true within, check_true, metersFrom_eq last]

end

theorem meterBytes_entered (s : Part) (k : ReqKind) (tag : Byte) (payload : List Byte) :
    meterBytes (s.entered k tag payload) = meterBytes s := rfl

theorem checkpointBytes_entered (s : Part) (k : ReqKind) (tag : Byte) (payload : List Byte) :
    checkpointBytes (s.entered k tag payload) = checkpointBytes s := rfl

/-! ### The statement about HOLD LIST and METER READ -/

/-- Settles O52: what each number or range shows, and what is refused. -/
theorem holdsAndMetersAreShown : Obligations.HoldsAndMetersAreShown := by
  unfold Obligations.HoldsAndMetersAreShown
  refine ⟨?holds, ?meters⟩
  case holds =>
    intro tag n s hs item
    refine ⟨fun beyond => gives_holdList_refused hs (holdContent_beyond s.part beyond), fun all => ?_, fun p hn => ?_⟩
    · subst all
      exact gives_holdList hs (holdContent_all s.part)
    · refine gives_holdList hs ?_
      have written : Hold.bytes = fun x => le 4 x.badge.toNat ++ [x.session] ++ le 6 x.placed.time.toNat ++
          [markByte x.placed.unset, markByte x.recorded, markByte x.releasing] := funext Hold.bytes_eq
      rw [hn, holdContent_port, written]
      rfl
  case meters =>
    intro tag first count s hs ok checkpoint n flags meter
    have fits : [first, count].length ≤ Config.payloadSize := by simp [Config.payloadSize]
    refine ⟨fun out => ?refused, fun within => ?shown⟩ <;>
      refine gives_of_serve (exec_meterRead tag first count s) hs rfl fits ?_
    case refused =>
      rw [serveMeterRead_refused out]
      exact reply_entered hs.below _ _ _ _
    case shown =>
      have entry : meterBytes s.part = meter := funext (meterBytes_eq s.part)
      rw [serveMeterRead_shown within, meterBytes_entered, checkpointBytes_entered, entry]
      cases last : s.part.mtu.lastCheckpoint with
      | none =>
        rw [checkpointBytes_none last, ← List.append_assoc]
        exact replyWith_entered hs.below _ _ _ _
      | some k =>
        rw [checkpointBytes_some last, ← List.append_assoc]
        exact replyWith_entered hs.below _ _ _ _

end Sys2Proof.Machine
end

section
/-! Proofs about the meters (07_machine_time_and_meters.md): a notice and a reply change different fields of HLC, so they may change
places; the evaluation of a port's service status; an increment and METER ADD, outcome by outcome; then the statement. -/

namespace Sys2Proof.Machine

/-! ### Notices and replies (R185, R189) -/

/-- R189, R190: where a notice goes depends on neither the table nor the reply stream, and it changes neither. -/
theorem Hlc.enqueue_withTable (n : Notice) (h : Hlc) (table : List Entry) (replies : List Reply) :
    Hlc.enqueue n { h with table := table, replies := replies } =
      { h.enqueue n with table := table, replies := replies } := by
  simp only [Hlc.enqueue, bumpGap]
  split
  · rfl
  · split
    · rfl
    · split <;> rfl

/-- R185: whether a request is replied does not depend on the notices. -/
theorem Hlc.reply_enqueue (n : Notice) (handle : Nat) (code : Code) (content : List Byte) (h : Hlc) :
    (h.enqueue n).reply handle code content = (h.reply handle code content).enqueue n := by
  have same : (h.enqueue n).unreplied handle = h.unreplied handle := by
    rw [Hlc.unreplied, Hlc.enqueue_table, Hlc.unreplied]
  rw [Hlc.reply, Hlc.reply, same]
  cases h.unreplied handle with
  | none => rfl
  | some e => simp only [Hlc.enqueue_withTable, Hlc.enqueue_table, Hlc.enqueue_replies]

theorem reply_raise (handle : Nat) (code : Code) (b : NoticeBody) (s : Part) :
    reply handle code (raise b s) = raise b (reply handle code s) := by
  simp only [reply, raise, Hlc.reply_enqueue]

/-! ### Service status (R158, R159) -/

theorem serviceOf_none_iff (c : MeterCfg) (a : Word) :
    serviceOf c a = .none ↔ c.threshold = 0 ∨ a.toNat < c.threshold.toNat := by
  rw [serviceOf]
  split
  · next below => exact iff_of_true rfl below
  · next above => split <;> exact iff_of_false nofun above

theorem serviceOf_limit_iff (c : MeterCfg) (a : Word) :
    serviceOf c a = .limit ↔ c.threshold ≠ 0 ∧ c.threshold.toNat + c.grace.toNat ≤ a.toNat := by
  rw [serviceOf]
  split
  · next below => exact iff_of_false nofun fun ⟨nonzero, reached⟩ => below.elim nonzero (by omega)
  · next above =>
    obtain ⟨nonzero, -⟩ := not_or.mp above
    split
    · next due => exact iff_of_false nofun fun ⟨_, reached⟩ => absurd due (Nat.not_lt.mpr reached)
    · next past => exact iff_of_true rfl ⟨nonzero, Nat.not_lt.mp past⟩

section
variable {p : Port} {s : Part}

theorem evalService_same (h : serviceOf s.mtu.cfg[p] s.mtu.meters[meterA p].value = s.mtu.service[p]) :
    evalService p s = s := if_pos h

theorem evalService_changes {new : Service} (hn : serviceOf s.mtu.cfg[p] s.mtu.meters[meterA p].value = new)
    (h : new ≠ s.mtu.service[p]) :
    evalService p s = raiseService p new { s with mtu := { s.mtu with service := s.mtu.service.set p new } } := by
  subst hn
  exact if_neg h

end

theorem reply_raiseService (handle : Nat) (code : Code) (p : Port) (new : Service) (s : Part) :
    reply handle code (raiseService p new s) = raiseService p new (reply handle code s) := by
  cases new with
  | none => rfl
  | due => exact reply_raise handle code _ s
  | limit => exact reply_raise handle code _ s

theorem reply_evalService (handle : Nat) (code : Code) (p : Port) (s : Part) :
    reply handle code (evalService p s) = evalService p (reply handle code s) := by
  by_cases same : serviceOf s.mtu.cfg[p] s.mtu.meters[meterA p].value = s.mtu.service[p]
  · rw [evalService_same same, evalService_same (s := reply handle code s) same]
  · rw [evalService_changes rfl same, evalService_changes (s := reply handle code s) rfl same]
    exact reply_raiseService handle code p _ _

/-! ### The port evaluated after a rise (R153, R158) -/

theorem evalMeter_meterA (p : Port) (s : Part) : evalMeter (meterA p) s = evalService p s := by
  have shown := (portShown_iff (meterA p) p).mpr rfl
  have station : (meterA p).val < 24 := by
    have even : (meterA p).val = 2 * p.val := rfl
    omega
  rw [if_pos station] at shown
  rw [evalMeter, shown]
  exact if_pos station

theorem evalMeter_other {m : Meter} (h : ∀ p : Port, m ≠ meterA p) (s : Part) : evalMeter m s = s := by
  rw [evalMeter]
  split
  · rfl
  · next p named =>
    by_cases station : m.val < 24
    · have shown := (portShown_iff m p).mp (by rw [if_pos station, named])
      exact absurd shown.symm (h p)
    · exact if_neg station

/-! ### An increment (R154, R164) -/

section
variable {m : Meter} {s : Part}

theorem meterInc_left (h : s.mtu.closed = true ∨ s.mtu.meters[m].full = true) : meterInc m s = s := by
  have left : (s.mtu.closed || s.mtu.meters[m].full) = true := by rwa [Bool.or_eq_true]
  exact if_pos left

section
variable (hc : s.mtu.closed = false) (hf : s.mtu.meters[m].full = false)
include hc hf

theorem meterInc_fills (hv : s.mtu.meters[m].value.toNat = 4294967295) : meterInc m s =
    raise (.meterFull m s.mtu.meters[m].value 1)
      { s with mtu := { s.mtu with meters := s.mtu.meters.set m ⟨s.mtu.meters[m].value, true⟩ } } := by
  have largest : s.mtu.meters[m].value = BitVec.allOnes 32 := BitVec.eq_of_toNat_eq hv
  simp only [meterInc, hc, hf, Bool.or_self, Bool.false_eq_true, if_false, if_pos largest]

theorem meterInc_rises (hv : s.mtu.meters[m].value.toNat < 4294967295) : meterInc m s =
    evalMeter m { s with mtu := { s.mtu with
      meters := s.mtu.meters.set m ⟨s.mtu.meters[m].value + 1, s.mtu.meters[m].full⟩ } } := by
  have below : s.mtu.meters[m].value ≠ BitVec.allOnes 32 := fun largest => by
    rw [largest] at hv
    exact absurd hv (Nat.lt_irrefl 4294967295)
  simp only [meterInc, hc, hf, Bool.or_self, Bool.false_eq_true, if_false, if_neg below]

end

/-! ### METER ADD to a meter (R155) -/

section
variable {h : Nat} {amount : Word}

theorem addToMeter_zero : addToMeter h 0 m s = reply h .done s := by
  simp only [addToMeter, if_true]

variable (ha : amount ≠ 0)
include ha

theorem addToMeter_full (hf : s.mtu.meters[m].full = true) : addToMeter h amount m s = reply h .overflow s := by
  simp only [addToMeter, if_neg ha, if_pos hf]

variable (hf : s.mtu.meters[m].full = false)
include hf

/-- R155: a sum above the largest value fills the meter; METER FULL carries the amount not applied. -/
theorem addToMeter_exceeds (hv : 4294967295 < s.mtu.meters[m].value.toNat + amount.toNat) : addToMeter h amount m s =
    raise (.meterFull m s.mtu.meters[m].value amount)
      { reply h .overflow s with
        mtu := { s.mtu with meters := s.mtu.meters.set m ⟨s.mtu.meters[m].value, true⟩ } } := by
  have exceeds : 2 ^ 32 ≤ s.mtu.meters[m].value.toNat + amount.toNat := hv
  simp only [addToMeter, if_neg ha, hf, Bool.false_eq_true, if_false, if_pos exceeds, reply_raise]
  rfl

theorem addToMeter_rises (hv : s.mtu.meters[m].value.toNat + amount.toNat ≤ 4294967295) : addToMeter h amount m s =
    reply h .done (evalMeter m { s with mtu := { s.mtu with
      meters := s.mtu.meters.set m ⟨s.mtu.meters[m].value + amount, false⟩ } }) := by
  have fits : ¬ 2 ^ 32 ≤ s.mtu.meters[m].value.toNat + amount.toNat := Nat.not_le.mpr (Nat.lt_succ_of_le hv)
  simp only [addToMeter, if_neg ha, hf, Bool.false_eq_true, if_false, if_neg fits]

end

end

/-! ### The taking of METER ADD (R128, R155) -/

theorem meterOf_number (m : Meter) : meterOf m.val = some m := dif_pos m.isLt

theorem meterOf_beyond {n : Nat} (h : 27 < n) : meterOf n = none := dif_neg (by omega)

theorem technicianUp_eq (r : BadgeRole) : technicianUp r = (r != .operator) := by cases r <;> rfl

theorem exec_meterAdd (tag num n b0 b1 b2 b3 : Byte) (s : State) :
    exec (.meterAdd tag [num, n, b0, b1, b2, b3]) s = act (takeRequest .meterAdd tag [num, n, b0, b1, b2, b3] fun h =>
      withSession h num technicianUp fun _ =>
        orBadValue h (meterOf n.toNat) (addToMeter h (wordAt [num, n, b0, b1, b2, b3] 2))) s := rfl

section
variable {tag num n b0 b1 b2 b3 : Byte} {x : Session} {s : State} (ha : s.part.accepts .meterAdd num x)
include ha

/-- A permitted METER ADD: the idle timer restarts, and what the number names takes the amount or is refused. -/
theorem gives_meterAdd {t : Part}
    (ht : orBadValue s.part.hlc.nextHandle (meterOf n.toNat)
      (addToMeter s.part.hlc.nextHandle (b3 ++ b2 ++ b1 ++ b0 : Word))
      ((s.part.withIdle num).entered .meterAdd tag [num, n, b0, b1, b2, b3]) = t) :
    Gives (.meterAdd tag [num, n, b0, b1, b2, b3]) s t := by
  obtain ⟨serves, session, permits⟩ := ha
  have permitted : technicianUp x.role = true := (technicianUp_eq x.role).trans permits
  have fits : [num, n, b0, b1, b2, b3].length ≤ Config.payloadSize := by simp [Config.payloadSize]
  refine gives_of_serve (exec_meterAdd tag num n b0 b1 b2 b3 s) serves rfl fits ?_
  rw [withSession_accepts session permitted, wordAt_badge, ht]

theorem gives_meterAdd_badMeter (h : 27 < n.toNat) : Gives (.meterAdd tag [num, n, b0, b1, b2, b3]) s
    ((s.part.withIdle num).answered .meterAdd tag [num, n, b0, b1, b2, b3] .badValue []) := by
  refine gives_meterAdd ha ?_
  rw [meterOf_beyond h, orBadValue_none]
  exact reply_sessionEntered ha tag _ .badValue

theorem gives_meterAdd_named {m : Meter} (h : n.toNat = m.val) {t : Part}
    (ht : addToMeter s.part.hlc.nextHandle (b3 ++ b2 ++ b1 ++ b0 : Word) m
      ((s.part.withIdle num).entered .meterAdd tag [num, n, b0, b1, b2, b3]) = t) :
    Gives (.meterAdd tag [num, n, b0, b1, b2, b3]) s t := by
  refine gives_meterAdd ha ?_
  rw [h, meterOf_number, orBadValue_some, ht]

end

/-! ### The statement about increments and METER ADD -/

/-- Settles O54: an increment, the evaluation of a port, and METER ADD. The model replies to METER ADD after the port is evaluated;
the statement evaluates the port in the part already replied, and `reply_evalService` shows that the order does not matter. -/
theorem incrementsAreApplied : Obligations.IncrementsAreApplied := by
  unfold Obligations.IncrementsAreApplied
  refine ⟨⟨?increment, ?evaluation⟩, ?add⟩
  case increment =>
    intro m s r rises
    refine ⟨meterInc_left, meterInc_fills, fun counted unmarked below => ?_⟩
    have risen : meterInc m s = evalMeter m rises := meterInc_rises counted unmarked below
    refine ⟨?_, fun other => risen.trans (evalMeter_other other rises)⟩
    rintro p rfl
    exact risen.trans (evalMeter_meterA p rises)
  case evaluation =>
    intro p s c a none? limit?
    refine ⟨serviceOf c a, serviceOf_none_iff c a, serviceOf_limit_iff c a, rfl, evalService_same, fun changed => ?_⟩
    intro set
    have evaluated : evalService p s = raiseService p (serviceOf c a) set := evalService_changes rfl changed
    refine ⟨fun none => ?_, fun due => ?_, fun limit => ?_⟩
    · rw [evaluated, none]; rfl
    · rw [evaluated, due]; rfl
    · rw [evaluated, limit]; rfl
  case add =>
    intro tag num n b0 b1 b2 b3 x s ha d q amount gives
    refine ⟨gives_meterAdd_badMeter ha, fun m hn => ?_⟩
    intro r
    let entered : Part := q.entered .meterAdd tag d
    have answered (code : Code) : reply s.part.hlc.nextHandle code entered = q.answered .meterAdd tag d code [] :=
      reply_sessionEntered ha tag d code
    have outcome {t : Part} (ht : addToMeter s.part.hlc.nextHandle amount m entered = t) : gives t :=
      gives_meterAdd_named ha hn ht
    refine ⟨fun zero => outcome ?_, fun nonzero marked => outcome ?_, fun nonzero unmarked exceeds => outcome ?_,
      fun nonzero unmarked fits => ?rise⟩
    · rw [zero, addToMeter_zero, answered]
    · rw [addToMeter_full (s := entered) nonzero marked, answered]
    · rw [addToMeter_exceeds (s := entered) nonzero unmarked exceeds, answered]
      rfl
    case rise =>
      intro rises
      have risen := addToMeter_rises (h := s.part.hlc.nextHandle) (s := entered) nonzero unmarked fits
      let raised : Part := { entered with
        mtu := { s.part.mtu with meters := s.part.mtu.meters.set m ⟨r.value + amount, false⟩ } }
      have replied : reply s.part.hlc.nextHandle .done raised = rises :=
        congrArg (fun t : Part => { t with mtu := raised.mtu }) (answered .done)
      refine ⟨?_, fun other => outcome ?_⟩
      · rintro p rfl
        refine outcome (risen.trans ?_)
        rw [evalMeter_meterA, reply_evalService]
        exact congrArg (evalService p) replied
      · rw [risen, evalMeter_other other]
        exact replied

end Sys2Proof.Machine
end

section
/-! Proofs about the notice queue when it is full (09_host_link_requests_and_notices.md, R190): which notices may be displaced, what the
search finds, what leaves the queue, and the two outcomes of `Hlc.enqueue`; then the statement. -/

namespace Sys2Proof.Machine

/-! ### The search and the removal (R190) -/

/-- R190: the notices that may be displaced are those other than GAP and RESTARTED. -/
theorem Notice.displaceable_iff (n : Notice) :
    n.displaceable = true ↔ (∀ c, n.body ≠ .gap c) ∧ ∀ c, n.body ≠ .restarted c := by
  rw [Notice.displaceable]
  split
  · next c gap => exact iff_of_false nofun fun ⟨notGap, _⟩ => notGap c gap
  · next c restarted => exact iff_of_false nofun fun ⟨_, notRestarted⟩ => notRestarted c restarted
  · next notGap notRestarted => exact iff_of_true rfl ⟨notGap, notRestarted⟩

theorem lowestPriority_eq_some {l : List Notice} {old : Notice} (present : old ∈ l) (loses : old.displaceable = true)
    (lowest : ∀ m ∈ l, m.displaceable = true → old.body.priority ≤ m.body.priority) :
    lowestPriority l = some old.body.priority := by
  cases found : lowestPriority l with
  | none => exact absurd loses (by simp [lowestPriority_none found old present])
  | some k =>
    obtain ⟨⟨m, hm, mLoses, rfl⟩, least⟩ := lowestPriority_some found
    exact congrArg some (Nat.le_antisymm (least old present loses) (lowest m hm mLoses))

theorem lowestPriority_eq_none {l : List Notice} (kept : ∀ m ∈ l, m.displaceable = false) : lowestPriority l = none := by
  cases found : lowestPriority l with
  | none => rfl
  | some k =>
    obtain ⟨⟨m, hm, loses, -⟩, -⟩ := lowestPriority_some found
    exact absurd loses (by simp [kept m hm])

/-- R190: the oldest notice of its priority is the one that leaves, and the others keep their order. -/
theorem dropOldest_append_cons {before after : List Notice} {old : Notice} (loses : old.displaceable = true)
    (oldest : ∀ m ∈ before, m.displaceable = true → old.body.priority < m.body.priority) :
    dropOldest old.body.priority (before ++ old :: after) = before ++ after := by
  have passed : ∀ m ∈ before, ¬ (m.displaceable && m.body.priority == old.body.priority) = true := by
    intro m hm found
    obtain ⟨mLoses, same⟩ : m.displaceable = true ∧ m.body.priority = old.body.priority := by simpa using found
    exact absurd same (Nat.ne_of_gt (oldest m hm mLoses))
  rw [dropOldest, List.eraseP_append_right _ passed, List.eraseP_cons_of_pos (by simp [loses])]

/-! ### A notice that finds the queue full (R190) -/

theorem bumpGap_of_le {h : Hlc} (bounded : h.gap ≤ 255) :
    bumpGap h = { h with gap := if h.gap < 255 then h.gap + 1 else 255 } := by
  have counted : min 255 (h.gap + 1) = if h.gap < 255 then h.gap + 1 else 255 := by split <;> omega
  rw [bumpGap, counted]

theorem Hlc.enqueue_displaces {n : Notice} {h : Hlc} {k : Nat} (full : Config.noticeSize ≤ h.notices.length)
    (found : lowestPriority h.notices = some k) (atOrBelow : k ≤ n.body.priority) :
    h.enqueue n = bumpGap { h with notices := dropOldest k h.notices ++ [n] } := by
  simp only [Hlc.enqueue, if_neg (Nat.not_lt.mpr full), found, if_pos atOrBelow]

/-- R190: a notice is dropped when every notice that may be displaced has a priority above its own, and when there is none. -/
theorem Hlc.enqueue_drops {n : Notice} {h : Hlc} (full : Config.noticeSize ≤ h.notices.length)
    (above : ∀ k, lowestPriority h.notices = some k → n.body.priority < k) : h.enqueue n = bumpGap h := by
  rw [Hlc.enqueue, if_neg (Nat.not_lt.mpr full)]
  cases found : lowestPriority h.notices with
  | none => rfl
  | some k => exact if_neg (Nat.not_le.mpr (above k found))

/-! ### The statement about a full queue -/

/-- Settles O16, outcome by outcome: the notice displaces the oldest of the lowest priority, is below that priority, or finds only GAP
and RESTARTED notices. -/
theorem fullQueueDisplacesTheLowest : Obligations.FullQueueDisplacesTheLowest := by
  unfold Obligations.FullQueueDisplacesTheLowest
  intro body s length n gap loses
  have full : Config.noticeSize ≤ s.hlc.notices.length := length.ge
  have drops (bounded : s.hlc.gap ≤ 255) (above : ∀ k, lowestPriority s.hlc.notices = some k → body.priority < k) :
      raise body s = { s with hlc := { s.hlc with gap := gap } } := by
    rw [raise, Hlc.enqueue_drops full above, bumpGap_of_le bounded]
  refine ⟨fun before after old queue oldLoses lowest oldest bounded => ?_, fun bounded kept => drops bounded ?onlyKept⟩
  · have displaceable : old.displaceable = true := old.displaceable_iff.mpr oldLoses
    have found : lowestPriority s.hlc.notices = some old.body.priority :=
      lowestPriority_eq_some (by simp [queue]) displaceable fun m hm h => lowest m hm (m.displaceable_iff.mp h)
    have left : dropOldest old.body.priority s.hlc.notices = before ++ after :=
      queue ▸ dropOldest_append_cons displaceable fun m hm h => oldest m hm (m.displaceable_iff.mp h)
    refine ⟨fun atOrBelow => ?displaced, fun below => drops bounded ?below⟩
    case displaced =>
      rw [raise, Hlc.enqueue_displaces full found atOrBelow, left, bumpGap_of_le]
      exact bounded
    case below =>
      intro k hk
      obtain rfl : old.body.priority = k := Option.some.inj (found.symm.trans hk)
      exact below
  case onlyKept =>
    have noneFound : lowestPriority s.hlc.notices = none :=
      lowestPriority_eq_none fun m hm => Bool.eq_false_iff.mpr fun h => kept m hm (m.displaceable_iff.mp h)
    exact fun k hk => absurd (noneFound.symm.trans hk) nofun

end Sys2Proof.Machine
end

section
/-! What each operation of the part leaves alone. `View` names the things the invariants look at, and `Touches V s t` says that the
part went from `s` to `t` with every view outside `V` kept; then one lemma for each operation, in the order of the model's files. -/

namespace Sys2Proof.Machine

/-! ### Views -/

/-- What the invariants of the part look at. -/
inductive View where
  | hlc | names | supply | trk | feeds | places | needs | admission | barred | relay | contexts | counts | reader | sessions | holders
  | store | queue | lines | holds
deriving DecidableEq

/-- The LINE content a job writes. -/
def Job.line? (j : Job) : Option Geometry :=
  match j.body with
  | .setting (.line g) => some g
  | _ => none

/-- The body of a hold job. -/
def Job.holdBody? (j : Job) : Option JobBody :=
  match j.body with
  | .holdAdd h => some (.holdAdd h)
  | .holdRemove p b => some (.holdRemove p b)
  | _ => none

/-- The LINE contents on their way to store. -/
def Nvs.lines (n : Nvs) : List Geometry := n.jobs.filterMap Job.line?

/-- What the hold jobs write, in flight and queued. -/
def Nvs.holdBodies (n : Nvs) : List JobBody := n.jobs.filterMap Job.holdBody?

/-- How many of queued entry, grant and lease of a feed are those of port p. -/
def FeedRec.places (r : FeedRec) (p : Port) : Nat := r.queue.countP (·.port == p) + if r.servesPort p then 1 else 0

/-- How many of claim in reservation, queued entry, grant and lease port p holds at a feed. -/
def Fco.places (c : Fco) (f : Feed) (p : Port) : Nat := c.feeds[f].places p + if c.claims[p].any (·.feed == f) then 1 else 0

/-- A queued entry or the grant of a feed is that of port p, which for them must be ADMITTED. -/
def FeedRec.needs (r : FeedRec) (p : Port) : Prop := (∃ e ∈ r.queue, e.port = p) ∨ ∃ l, r.state = .granted l ∧ l.port = p

/-- What port p holds at FCO needs it ADMITTED: a queued entry, a grant or a claim that is not void. -/
def Fco.needs (c : Fco) (p : Port) : Prop := (∃ f : Feed, c.feeds[f].needs p) ∨ ∃ k, c.claims[p] = some k ∧ k.void = none

/-- A port holds at one feed at most. -/
def Fco.single (c : Fco) : Prop := ∀ (p : Port) (f g : Feed), f ≠ g → 0 < c.places f p → c.places g p = 0

/-- No late note stands beside a grant or lease. -/
def Fco.notesClear (c : Fco) : Prop := ∀ (f : Feed) (p : Port), c.feeds[f].servesPort p = true → c.notes[p] = none

/-- FCO went from `c` to `d` with no port holding more or newly in need of being ADMITTED, and no late note put beside a lease. -/
def Fco.Shrinks (c d : Fco) : Prop :=
  (∀ f p, d.places f p ≤ c.places f p) ∧ (∀ p, d.needs p → c.needs p) ∧ (c.single → c.notesClear → d.notesClear)

theorem Fco.single.mono {c d : Fco} (h : c.single) (le : ∀ f p, d.places f p ≤ c.places f p) : d.single := fun p f g ne held =>
  Nat.le_zero.mp (h p f g ne (Nat.lt_of_lt_of_le held (le f p)) ▸ le g p)

theorem Fco.Shrinks.refl (c : Fco) : c.Shrinks c := ⟨fun _ _ => le_rfl, fun _ => id, fun _ => id⟩

theorem Fco.Shrinks.trans {c d e : Fco} (h : c.Shrinks d) (k : d.Shrinks e) : c.Shrinks e := by
  obtain ⟨h1, h2, h3⟩ := h
  obtain ⟨k1, k2, k3⟩ := k
  exact ⟨fun f p => (k1 f p).trans (h1 f p), fun p n => h2 p (k2 p n), fun single clear => k3 (single.mono h1) (h3 single clear)⟩

/-- What the request table keeps of a request: its handle, kind, tag and payload. -/
def Entry.name (e : Entry) : Nat × ReqKind × Byte × List Byte := (e.handle, e.kind, e.tag, e.payload)

/-- The part went from `s` to `t`, and every view outside `V` is kept: no place at FCO more (`places`), none newly in need of its port
(`needs`), HLC within its limits, the same requests in the table, in SAVE and without supply as before, the
relay queues no longer, no new proof context, no new session, the store queue within its limit, no new LINE content on its way, no
new hold job, and the other views (NVS as a whole is `store`) as they were. -/
structure Touches (V : List View) (s t : Part) : Prop where
  hlc : .hlc ∉ V → s.hlc.sound → t.hlc.sound
  names : .names ∉ V → t.hlc.table.map Entry.name = s.hlc.table.map Entry.name
  supply : .supply ∉ V → (t.psc.state = .save ↔ s.psc.state = .save) ∧ (t.psc.state = .off ↔ s.psc.state = .off)
  trk : .trk ∉ V → t.trk = s.trk
  feeds : .feeds ∉ V → t.fco.feeds = s.fco.feeds ∧ t.fco.claims = s.fco.claims ∧ t.fco.notes = s.fco.notes
  places : .places ∉ V → ∀ f p, t.fco.places f p ≤ s.fco.places f p
  needs : .needs ∉ V → s.fco.Shrinks t.fco
  admission : .admission ∉ V → ∀ p : Port, t.ports[p].admission = s.ports[p].admission
  barred : .barred ∉ V → ∀ p : Port, t.ports[p].admission = .barred ↔ s.ports[p].admission = .barred
  relay : .relay ∉ V → ∀ p : Port, t.ports[p].relay.length ≤ s.ports[p].relay.length
  contexts : .contexts ∉ V → ∀ p : Port, t.prv.contexts[p].isSome = true → s.prv.contexts[p].isSome = true
  counts : .counts ∉ V → t.prv.counts = s.prv.counts ∧ t.prv.readerCount = s.prv.readerCount ∧
      t.prv.stationLimit = s.prv.stationLimit ∧ t.prv.badgeLimit = s.prv.badgeLimit
  reader : .reader ∉ V → t.sva.reader = s.sva.reader
  sessions : .sessions ∉ V →
      (t.sva.sessions.map fun x => (x.num, x.badge)).Sublist (s.sva.sessions.map fun x => (x.num, x.badge))
  holders : .holders ∉ V → t.sva.holders = s.sva.holders
  store : .store ∉ V → t.nvs = s.nvs
  queue : .queue ∉ V → s.nvs.queue.length ≤ Config.storeSize → t.nvs.queue.length ≤ Config.storeSize
  lines : .lines ∉ V → t.nvs.line = s.nvs.line ∧ t.nvs.lines ⊆ s.nvs.lines
  holds : .holds ∉ V → t.nvs.holds = s.nvs.holds ∧ t.nvs.holdBodies.Subperm s.nvs.holdBodies

section
variable {V W : List View} {s t u : Part}

theorem Touches.refl (V : List View) (s : Part) : Touches V s s where
  hlc _ := id
  names _ := rfl
  supply _ := ⟨Iff.rfl, Iff.rfl⟩
  trk _ := rfl
  feeds _ := ⟨rfl, rfl, rfl⟩
  places _ _ _ := le_rfl
  needs _ := .refl _
  admission _ _ := rfl
  barred _ _ := Iff.rfl
  relay _ _ := le_rfl
  contexts _ _ := id
  counts _ := ⟨rfl, rfl, rfl, rfl⟩
  reader _ := rfl
  sessions _ := List.Sublist.refl _
  holders _ := rfl
  store _ := rfl
  queue _ := id
  lines _ := ⟨rfl, List.Subset.refl _⟩
  holds _ := ⟨rfl, List.Subperm.refl _⟩

theorem Touches.trans (h : Touches V s t) (k : Touches V t u) : Touches V s u where
  hlc hv hs := k.hlc hv (h.hlc hv hs)
  names hv := (k.names hv).trans (h.names hv)
  supply hv := ⟨(k.supply hv).1.trans (h.supply hv).1, (k.supply hv).2.trans (h.supply hv).2⟩
  trk hv := (k.trk hv).trans (h.trk hv)
  feeds hv := by
    obtain ⟨h1, h2, h3⟩ := h.feeds hv
    obtain ⟨k1, k2, k3⟩ := k.feeds hv
    exact ⟨k1.trans h1, k2.trans h2, k3.trans h3⟩
  places hv f p := (k.places hv f p).trans (h.places hv f p)
  needs hv := (h.needs hv).trans (k.needs hv)
  admission hv p := (k.admission hv p).trans (h.admission hv p)
  barred hv p := (k.barred hv p).trans (h.barred hv p)
  relay hv p := (k.relay hv p).trans (h.relay hv p)
  contexts hv p hp := h.contexts hv p (k.contexts hv p hp)
  counts hv := by
    obtain ⟨h1, h2, h3, h4⟩ := h.counts hv
    obtain ⟨k1, k2, k3, k4⟩ := k.counts hv
    exact ⟨k1.trans h1, k2.trans h2, k3.trans h3, k4.trans h4⟩
  reader hv := (k.reader hv).trans (h.reader hv)
  sessions hv := (k.sessions hv).trans (h.sessions hv)
  holders hv := (k.holders hv).trans (h.holders hv)
  store hv := (k.store hv).trans (h.store hv)
  queue hv hs := k.queue hv (h.queue hv hs)
  lines hv := ⟨(k.lines hv).1.trans (h.lines hv).1, List.Subset.trans (k.lines hv).2 (h.lines hv).2⟩
  holds hv := ⟨(k.holds hv).1.trans (h.holds hv).1, (k.holds hv).2.trans (h.holds hv).2⟩

theorem Touches.mono (h : Touches W s t) (hw : W ⊆ V) : Touches V s t where
  hlc hv := h.hlc fun m => hv (hw m)
  names hv := h.names fun m => hv (hw m)
  supply hv := h.supply fun m => hv (hw m)
  trk hv := h.trk fun m => hv (hw m)
  feeds hv := h.feeds fun m => hv (hw m)
  places hv := h.places fun m => hv (hw m)
  needs hv := h.needs fun m => hv (hw m)
  admission hv := h.admission fun m => hv (hw m)
  barred hv := h.barred fun m => hv (hw m)
  relay hv := h.relay fun m => hv (hw m)
  contexts hv := h.contexts fun m => hv (hw m)
  counts hv := h.counts fun m => hv (hw m)
  reader hv := h.reader fun m => hv (hw m)
  sessions hv := h.sessions fun m => hv (hw m)
  holders hv := h.holders fun m => hv (hw m)
  store hv := h.store fun m => hv (hw m)
  queue hv := h.queue fun m => hv (hw m)
  lines hv := h.lines fun m => hv (hw m)
  holds hv := h.holds fun m => hv (hw m)

/-- One more operation. -/
theorem Touches.then (h : Touches V s t) (k : Touches W t u) (hw : W ⊆ V) : Touches V s u := h.trans (k.mono hw)

/-- One operation before the others. -/
theorem Touches.after (k : Touches W t u) (h : Touches V s t) (hw : W ⊆ V) : Touches V s u := h.then k hw

/-- A row of operations. -/
theorem forEach_touches {α : Type} {f : α → Part → Part} (hf : ∀ a s, Touches V s (f a s)) (l : List α) (s : Part) :
    Touches V s (forEach l f s) := by
  induction l generalizing s with
  | nil => exact .refl V s
  | cons a l ih => exact (hf a s).trans (ih _)

end

/-! ### HLC within its limits -/

theorem Hlc.sound.enqueue {h : Hlc} (hs : h.sound) (n : Notice) : (h.enqueue n).sound := by
  obtain ⟨table, below, distinct, immediates, notices, gap, mask⟩ := hs
  refine ⟨by simpa using table, by simpa [Hlc.handlesBelow] using below, by simpa using distinct, by simpa using immediates,
    Hlc.enqueue_length n h notices, ?_, by simpa using mask⟩
  have bump (k : Hlc) : (bumpGap k).gap ≤ 255 := Nat.min_le_left _ _
  unfold Hlc.enqueue
  split
  · exact gap
  · split
    · exact bump _
    · split <;> exact bump _

theorem Hlc.sound.reply {h : Hlc} (hs : h.sound) (n : Nat) (c : Code) (l : List Byte) : (h.reply n c l).sound := by
  obtain ⟨table, below, distinct, immediates, notices, gap, mask⟩ := hs
  have handles := Hlc.reply_handles n c l h
  refine ⟨?_, ?_, by rwa [handles], by rwa [Hlc.reply_immediates], by simpa using notices, by simpa using gap, by simpa using mask⟩
  · have := congrArg List.length handles
    simp only [List.length_map] at this
    rwa [this]
  · intro e he
    have : e.handle ∈ h.table.map (·.handle) := handles ▸ List.mem_map_of_mem he
    obtain ⟨x, hx, hxe⟩ := List.mem_map.mp this
    rw [Hlc.reply_nextHandle, ← hxe]
    exact below x hx

theorem Hlc.reply_names (n : Nat) (c : Code) (l : List Byte) (h : Hlc) :
    (h.reply n c l).table.map Entry.name = h.table.map Entry.name := by
  unfold Hlc.reply
  split
  · rfl
  · simp only [List.map_map]
    refine List.map_congr_left fun e _ => ?_
    simp only [Function.comp]
    split <;> rfl

/-! ### Plain updates -/

section
variable (s : Part)

theorem raise_touches (b : NoticeBody) : Touches [] s (raise b s) where
  __ := Touches.refl _ _
  hlc _ hs := hs.enqueue _
  names _ := congrArg (List.map Entry.name) (Hlc.enqueue_table _ _)

theorem reply_touches (n : Nat) (c : Code) : Touches [] s (reply n c s) where
  __ := Touches.refl _ _
  hlc _ hs := hs.reply n c []
  names _ := Hlc.reply_names n c [] s.hlc

theorem replyWith_touches (n : Nat) (l : List Byte) : Touches [] s (replyWith n l s) where
  __ := Touches.refl _ _
  hlc _ hs := hs.reply n .done l
  names _ := Hlc.reply_names n .done l s.hlc

theorem replyAll_touches (o : List Nat) (c : Code) : Touches [] s (replyAll o c s) :=
  forEach_touches (fun n s => reply_touches s n c) o s

/-- A port's entry changed, with its relay queue left. -/
theorem modPort_touches_barred (p : Port) {f : PortRec → PortRec}
    (hr : (f s.ports[p]).relay.length ≤ s.ports[p].relay.length) : Touches [.admission, .barred] s (modPort p f s) where
  __ := Touches.refl _ _
  admission hv := absurd (by decide) hv
  barred hv := absurd (by decide) hv
  relay _ q := by
    rw [modPort_ports, upd_get]
    split
    · next e => subst e; exact hr
    · exact le_rfl

/-- A port's entry changed, and its port BARRED as before. -/
theorem modPort_touches_admission (p : Port) {f : PortRec → PortRec}
    (hb : (f s.ports[p]).admission = .barred ↔ s.ports[p].admission = .barred)
    (hr : (f s.ports[p]).relay.length ≤ s.ports[p].relay.length) : Touches [.admission] s (modPort p f s) where
  __ := Touches.refl _ _
  admission hv := absurd (by decide) hv
  barred _ q := by
    rw [modPort_ports, upd_get]
    split
    · next e => subst e; exact hb
    · exact Iff.rfl
  relay _ := (modPort_touches_barred s p hr).relay (by decide)

/-- A port's entry changed, with its admission left. -/
theorem modPort_touches (p : Port) {f : PortRec → PortRec} (ha : (f s.ports[p]).admission = s.ports[p].admission)
    (hr : (f s.ports[p]).relay.length ≤ s.ports[p].relay.length) : Touches [] s (modPort p f s) where
  __ := Touches.refl _ _
  admission _ q := by
    rw [modPort_ports, upd_get]
    split
    · next e => subst e; exact ha
    · rfl
  barred _ := (modPort_touches_admission s p (by rw [ha]) hr).barred (by decide)
  relay _ := (modPort_touches_barred s p hr).relay (by decide)

/-- FCO's feeds, claims and notes changed, with no port holding more or newly in need of being ADMITTED. -/
theorem fco_touches {c : Fco} (h : s.fco.Shrinks c) : Touches [.feeds] s { s with fco := c } where
  __ := Touches.refl _ _
  feeds hv := absurd (by decide) hv
  places _ := h.1
  needs _ := h

theorem sendStation_touches (p : Port) (f : StationOut) : Touches [] s (sendStation p f s) := by
  unfold sendStation
  split
  · exact modPort_touches s p rfl le_rfl
  · exact .refl _ s

theorem refuse_touches (p : Port) (w : Reason) (k : Byte) : Touches [] s (refuse p w k s) := sendStation_touches s p _

theorem sendReader_touches (f : ReaderOut) : Touches [] s (sendReader f s) := by
  unfold sendReader
  split
  · exact { Touches.refl _ _ with }
  · exact .refl _ s

theorem askTrk_touches (m : FillRequest) : Touches [] s (askTrk m s) := { Touches.refl _ _ with }

theorem tellFco_touches (m : TrkMessage) : Touches [] s (tellFco m s) := { Touches.refl _ _ with }

/-! ### Meters and service status -/

theorem raiseService_touches (p : Port) (n : Service) : Touches [] s (raiseService p n s) := by
  cases n
  · exact .refl _ s
  · exact raise_touches s _
  · exact raise_touches s _

theorem evalService_touches (p : Port) : Touches [] s (evalService p s) := by
  unfold evalService
  dsimp only
  split
  · exact .refl _ s
  · exact Touches.after (raiseService_touches _ p _) { Touches.refl _ _ with } (by decide)

theorem evalServiceAfresh_touches : Touches [] s (evalServiceAfresh s) :=
  Touches.after (forEach_touches (fun p s => evalService_touches s p) _ _) { Touches.refl _ _ with } (by decide)

theorem evalMeter_touches (m : Meter) : Touches [] s (evalMeter m s) := by
  unfold evalMeter
  split
  · exact .refl _ s
  · split
    · exact evalService_touches s _
    · exact .refl _ s

theorem meterInc_touches (m : Meter) : Touches [] s (meterInc m s) := by
  unfold meterInc
  dsimp only
  split
  · exact .refl _ s
  · split
    · exact Touches.after (raise_touches _ _) { Touches.refl _ _ with } (by decide)
    · exact Touches.after (evalMeter_touches _ m) { Touches.refl _ _ with } (by decide)

/-! ### Waking, draining and sessions -/

theorem wakeUp_touches (c : WokenCause) : Touches [] s (wakeUp c s) := by
  unfold wakeUp
  split
  · next h =>
    refine Touches.after (raise_touches _ _) { Touches.refl _ _ with supply := fun _ => ?_ } (by decide)
    simp [h]
  · exact .refl _ s

theorem settleLockouts_touches (p : Port) : Touches [] s (settleLockouts p s) :=
  Touches.after (forEach_touches (fun (k : Lockout) s => reply_touches s k.request .done) _ _) { Touches.refl _ _ with } (by decide)

theorem drainBegins_touches (p : Port) : Touches [] s (drainBegins p s) := { Touches.refl _ _ with }

theorem drainEnds_touches (p : Port) : Touches [] s (drainEnds p s) := Touches.after (settleLockouts_touches _ p) { Touches.refl _ _ with } (by decide)

/-- The sessions changed one by one, numbers and badges left. -/
theorem map_sessions_touches {g : Session → Session} (hn : ∀ x, (g x).num = x.num) (hb : ∀ x, (g x).badge = x.badge) :
    Touches [] s { s with sva.sessions := s.sva.sessions.map g } where
  __ := Touches.refl _ _
  sessions _ := by
    have : (fun x : Session => (x.num, x.badge)) ∘ g = fun x => (x.num, x.badge) := by
      funext x
      simp [hn, hb]
    rw [List.map_map, this]

theorem restartIdle_touches (num : Byte) : Touches [] s (restartIdle num s) :=
  map_sessions_touches s (fun x => by split <;> rfl) (fun x => by split <;> rfl)

end

/-! ### Checks of requests -/

section
variable {V : List View}

theorem check_touches {go : Part → Part} {ok : Bool} (s : Part) (h : Nat) (c : Code) (hg : ok = true → Touches V s (go s)) :
    Touches V s (check h ok c go s) := by
  cases ok with
  | true => exact hg rfl
  | false => exact (reply_touches s h c).mono (List.nil_subset V)

theorem orBadValue_touches {α : Type} {go : α → Part → Part} {a : Option α} (s : Part) (h : Nat)
    (hg : ∀ x, a = some x → Touches V s (go x s)) : Touches V s (orBadValue h a go s) := by
  cases a with
  | none => exact (reply_touches s h .badValue).mono (List.nil_subset V)
  | some x => exact hg x rfl

theorem withSession_touches {go : Session → Part → Part} (s : Part) (h : Nat) (num : Byte) (ok : BadgeRole → Bool)
    (hg : ∀ x s, Touches V s (go x s)) : Touches V s (withSession h num ok go s) := by
  have replied (c : Code) : Touches V s (reply h c s) := (reply_touches s h c).mono (List.nil_subset V)
  unfold withSession
  split
  · exact replied _
  · split
    · exact ((restartIdle_touches s num).mono (List.nil_subset V)).trans (hg _ _)
    · exact replied _

end

/-! ### The taking of a host frame -/

/-- The receiver changes, and nothing else. -/
theorem receiver_touches (s : Part) (r : Receiver) : Touches [] s { s with hlc.receiver := r } where
  __ := Touches.refl _ _
  hlc _ hs := hs

theorem immediate_touches (s : Part) (k tag : Byte) (c : Code) : Touches [] s (immediate k tag c s) := by
  unfold immediate
  split
  · next room =>
    refine { Touches.refl _ _ with hlc := fun _ hs => ?_ }
    obtain ⟨table, below, distinct, -, rest⟩ := hs
    refine ⟨table, below, distinct, ?_, rest⟩
    simp only [List.countP_append, List.countP_singleton, Option.isNone_none, if_true]
    omega
  · exact .refl _ s

theorem enterRequest_touches {s : Part} (room : s.hlc.table.length < Config.tableSize) (k : ReqKind) (tag : Byte) (d : List Byte) :
    Touches [.names] s (enterRequest k tag d s) where
  __ := Touches.refl _ _
  names hv := absurd (by decide) hv
  hlc _ hs := by
    obtain ⟨-, below, distinct, immediates, notices, gap, mask⟩ := hs
    refine ⟨?_, ?_, ?_, immediates, notices, gap, mask⟩
    · simp only [enterRequest, List.length_append, List.length_singleton]
      omega
    · intro e he
      rcases List.mem_append.mp he with he | he
      · exact Nat.lt_succ_of_lt (below e he)
      · rw [List.mem_singleton] at he
        subst he
        exact Nat.lt_succ_self _
    · simp only [enterRequest, List.map_append, List.map_cons, List.map_nil]
      refine List.nodup_append.mpr ⟨distinct, List.nodup_singleton _, ?_⟩
      intro a ha b hb
      obtain ⟨e, he, rfl⟩ := List.mem_map.mp ha
      rw [List.mem_singleton] at hb
      subst hb
      exact Nat.ne_of_lt (below e he)

theorem takeFrame_touches {V : List View} (s : Part) (k tag : Byte) (d : List Byte) {good : Part → Part}
    (hg : s.hostReceives = true → Touches V s (good s)) : Touches V s (takeFrame k tag d good s) := by
  unfold takeFrame
  split
  · next h =>
    obtain ⟨hr, -⟩ := Bool.and_eq_true_iff.mp h
    split
    · exact hg hr
    · exact (receiver_touches s _).mono (List.nil_subset V)
  · exact .refl V s

/-- A request touches nothing the invariants look at, or it is entered and goes to its owner, in RUN or QUIET. -/
theorem takeRequest_cases (s : Part) (k : ReqKind) (tag : Byte) (d : List Byte) (serve : Nat → Part → Part) :
    Touches [.names] s (takeRequest k tag d serve s) ∨ ∃ t, Touches [.names] s t ∧ t.active = true ∧ t.psc.restart = none ∧
      takeRequest k tag d serve s = serve s.hlc.nextHandle t := by
  unfold takeRequest takeFrame
  split
  · next h =>
    obtain ⟨hr, -⟩ := Bool.and_eq_true_iff.mp h
    split
    · unfold checkRequest
      split
      · exact .inl (immediate_touches s _ _ _ |>.mono (by decide))
      · split
        · exact .inl (immediate_touches s _ _ _ |>.mono (by decide))
        · next notSave =>
          split
          · exact .inl (immediate_touches s _ _ _ |>.mono (by decide))
          · split
            · exact .inl (immediate_touches s _ _ _ |>.mono (by decide))
            · next full =>
              have entered := enterRequest_touches (s := s) (Nat.not_le.mp full) k tag d
              split
              · exact .inl entered
              · next free =>
                refine .inr ⟨_, entered, ?_, ?_, rfl⟩
                · simp only [Part.hostReceives, Bool.or_eq_true, beq_iff_eq, notSave, or_false] at hr
                  exact hr
                · simpa using free
    · exact .inl ((receiver_touches s _).mono (by decide))
  · exact .inl (.refl _ s)

/-- A request touches the table and what its owner's rule touches, in any part that is in RUN or QUIET. -/
theorem takeRequest_touches {V : List View} (s : Part) (k : ReqKind) (tag : Byte) (d : List Byte) {serve : Nat → Part → Part}
    (hs : ∀ h t, t.active = true → t.psc.restart = none → Touches V t (serve h t)) :
    Touches (.names :: V) s (takeRequest k tag d serve s) := by
  have entry {t : Part} (h : Touches [.names] s t) : Touches (.names :: V) s t := h.mono (by simp)
  rcases takeRequest_cases s k tag d serve with h | ⟨t, h, active, free, e⟩
  · exact entry h
  · rw [e]
    exact (entry h).then (hs _ t active free) (List.subset_cons_self _ _)

end Sys2Proof.Machine
end

section
/-! What FCO's and PRV's operations leave alone, and the admission of ports. -/

namespace Sys2Proof.Machine

/-! ### A feed with no more held -/

/-- A feed went from `r` to `q` with no port holding more, newly in need of being ADMITTED, or newly with a grant or lease. -/
def FeedRec.Shrinks (r q : FeedRec) : Prop :=
  (∀ p, q.places p ≤ r.places p) ∧ (∀ p, q.needs p → r.needs p) ∧ ∀ p, q.servesPort p = true → r.servesPort p = true

section
variable {r : FeedRec}

theorem FeedRec.servesPort_of {st : FeedState} {l : Lease} (h : st.lease? = some l) {r : FeedRec} (hr : r.state = st) (p : Port) :
    r.servesPort p = (l.port == p) := by rw [FeedRec.servesPort, hr, h, Option.any_some]

/-- A lease ends. -/
theorem FeedRec.Shrinks.ended {st : FeedState} (h : st.lease? = none) {q : List QueueEntry} (hq : q.Sublist r.queue) :
    r.Shrinks { r with state := st, queue := q } := by
  have free (p : Port) : ({ r with state := st, queue := q } : FeedRec).servesPort p = false := by simp [FeedRec.servesPort, h]
  refine ⟨fun p => ?_, fun p needs => ?_, fun p serves => ?_⟩
  · simp only [FeedRec.places, free]
    exact Nat.le_add_right_of_le hq.countP_le
  · rcases needs with ⟨e, he, hp⟩ | ⟨l, hl, -⟩
    · exact .inl ⟨e, hq.subset he, hp⟩
    · simp only at hl
      simp [hl, FeedState.lease?] at h
  · simp [free p] at serves

/-- A lease changes, for the same port, and is no new grant. -/
theorem FeedRec.Shrinks.leased {st : FeedState} {l k : Lease} (hl : r.state.lease? = some l) (hk : st.lease? = some k)
    (port : k.port = l.port) (granted : ∀ x, st = .granted x → ∃ y, r.state = .granted y ∧ y.port = x.port) :
    r.Shrinks { r with state := st } := by
  have serves (p : Port) : ({ r with state := st } : FeedRec).servesPort p = r.servesPort p := by
    rw [FeedRec.servesPort_of hk rfl, FeedRec.servesPort_of hl rfl, port]
  refine ⟨fun p => ?_, fun p needs => ?_, fun p h => serves p ▸ h⟩
  · simp only [FeedRec.places, serves]
    exact le_rfl
  · rcases needs with queued | ⟨x, hx, hp⟩
    · exact .inl queued
    · obtain ⟨y, hy, port⟩ := granted x hx
      exact .inr ⟨y, hy, port.trans hp⟩

theorem FeedRec.Shrinks.queued {q : List QueueEntry} (hq : q.Sublist r.queue) : r.Shrinks { r with queue := q } := by
  refine ⟨fun p => ?_, fun p needs => ?_, fun _ h => h⟩
  · exact Nat.add_le_add_right hq.countP_le _
  · rcases needs with ⟨e, he, hp⟩ | granted
    · exact .inl ⟨e, hq.subset he, hp⟩
    · exact .inr granted

/-- Closing marks and settings hold nothing. -/
theorem FeedRec.Shrinks.same {q : FeedRec} (state : q.state = r.state) (queue : q.queue = r.queue) : r.Shrinks q := by
  refine ⟨fun p => ?_, fun p needs => ?_, fun p h => ?_⟩
  · rw [FeedRec.places, FeedRec.places, FeedRec.servesPort, FeedRec.servesPort, state, queue]
  · rwa [FeedRec.needs, state, queue] at needs
  · rwa [FeedRec.servesPort, state] at h

/-- R59: an entry of the queue becomes the grant. -/
theorem FeedRec.Shrinks.granted {l : Lease} {e : QueueEntry} {rest : List QueueEntry}
    (hq : (e :: rest).Sublist r.queue) (port : l.port = e.port) :
    (∀ p, ({ r with state := .granted l, queue := rest } : FeedRec).places p ≤ r.places p) ∧
      ∀ p, ({ r with state := .granted l, queue := rest } : FeedRec).needs p → r.needs p := by
  refine ⟨fun p => ?_, fun p needs => ?_⟩
  · have le := hq.countP_le (p := fun x => x.port == p)
    rw [List.countP_cons] at le
    simpa [FeedRec.places, FeedRec.servesPort, FeedState.lease?, port] using Nat.le_add_right_of_le le
  · rcases needs with ⟨x, hx, hp⟩ | ⟨k, hk, hp⟩
    · exact .inl ⟨x, hq.subset (List.mem_cons_of_mem e hx), hp⟩
    · obtain rfl : l = k := FeedState.granted.inj hk
      exact .inl ⟨e, hq.subset List.mem_cons_self, port ▸ hp⟩

/-- An entry at the tail of the queue takes one place. -/
theorem FeedRec.joined_places (e : QueueEntry) (p : Port) :
    ({ r with queue := r.queue ++ [e] } : FeedRec).places p = r.places p + if e.port = p then 1 else 0 := by
  have same : ({ r with queue := r.queue ++ [e] } : FeedRec).servesPort p = r.servesPort p := rfl
  simp only [FeedRec.places, same, List.countP_append, List.countP_singleton, beq_iff_eq]
  omega

theorem FeedRec.Shrinks.trans {q u : FeedRec} (h : r.Shrinks q) (k : q.Shrinks u) : r.Shrinks u := by
  obtain ⟨h1, h2, h3⟩ := h
  obtain ⟨k1, k2, k3⟩ := k
  exact ⟨fun p => (k1 p).trans (h1 p), fun p n => h2 p (k2 p n), fun p n => h3 p (k3 p n)⟩

/-- R47, R76: the end target changes, and the timers. -/
theorem FeedRec.Shrinks.mapped (g : FeedState → FeedState) (h : ∀ st, (g st).lease?.map (·.port) = st.lease?.map (·.port))
    (granted : ∀ st x, g st = .granted x → ∃ y, st = .granted y ∧ y.port = x.port) : r.Shrinks { r with state := g r.state } := by
  cases hl : r.state.lease? with
  | none => exact .ended (by simpa [hl] using h r.state) (List.Sublist.refl _)
  | some l =>
    have h := h r.state
    rw [hl, Option.map_some, Option.map_eq_some_iff] at h
    obtain ⟨k, hk, port⟩ := h
    exact .leased hl hk port (granted r.state)

theorem FeedRec.Shrinks.closing : r.Shrinks { r with state := r.state.closing } :=
  .mapped FeedState.closing (fun st => by cases st <;> rfl)
    fun st x h => by cases st <;> cases h; exact ⟨_, rfl, rfl⟩

theorem FeedRec.Shrinks.mapTimer (g : Timer → Timer) : r.Shrinks { r with state := r.state.mapTimer g } :=
  .mapped (FeedState.mapTimer g) (fun st => by cases st <;> rfl)
    fun st x h => by cases st <;> cases h; exact ⟨_, rfl, rfl⟩

end

section
variable {c : Fco} {f : Feed}

/-- The feeds change one by one. -/
theorem Fco.Shrinks.feeds {v : Vector FeedRec 4} (h : ∀ g : Feed, c.feeds[g].Shrinks v[g]) : c.Shrinks { c with feeds := v } := by
  refine ⟨fun g p => Nat.add_le_add_right ((h g).1 p) _, fun p needs => ?_, fun _ clear g p serves => clear g p ((h g).2.2 p serves)⟩
  rcases needs with ⟨g, needs⟩ | claim
  · exact .inl ⟨g, (h g).2.1 p needs⟩
  · exact .inr claim

theorem Fco.Shrinks.feed {g : FeedRec → FeedRec} (h : c.feeds[f].Shrinks (g c.feeds[f])) :
    c.Shrinks { c with feeds := upd c.feeds f g } := by
  refine .feeds fun k => ?_
  rw [upd_get]
  split
  · next e =>
    subst e
    exact h
  · exact .same rfl rfl

/-- The claims change one by one: removed, or void. -/
theorem Fco.Shrinks.claims {v : Vector (Option Claim) 12} (h : ∀ p : Port, v[p] = none ∨ ∃ k d, c.claims[p] = some k ∧
    v[p] = some d ∧ d.feed = k.feed ∧ (d.void = none → k.void = none)) : c.Shrinks { c with claims := v } := by
  refine ⟨fun g p => Nat.add_le_add_left ?_ _, fun p needs => ?_, fun _ clear => clear⟩
  · rcases h p with none | ⟨k, d, hk, hd, feed, -⟩
    · simp only [none]
      exact Nat.zero_le _
    · simp only [hk, hd, Option.any_some, feed]
      exact le_rfl
  · rcases needs with ⟨g, needs⟩ | ⟨d, hd, void⟩
    · exact .inl ⟨g, needs⟩
    · rcases h p with none | ⟨k, d', hk, hd', -, open_⟩
      · rw [show v[p] = some d from hd] at none
        cases none
      · obtain rfl : d' = d := Option.some.inj (hd'.symm.trans hd)
        exact .inr ⟨k, hk, open_ void⟩

/-- Late notes are removed. -/
theorem Fco.Shrinks.notes {v : Vector (Option LateNote) 12} (h : ∀ p : Port, v[p] = none ∨ v[p] = c.notes[p]) :
    c.Shrinks { c with notes := v } := by
  refine ⟨fun _ _ => le_rfl, fun _ => id, fun _ clear g p serves => ?_⟩
  rcases h p with none | same
  · exact none
  · exact same.trans (clear g p serves)

theorem Fco.serves_places {p : Port} (h : c.feeds[f].servesPort p = true) : 0 < c.places f p := by
  simp only [Fco.places, FeedRec.places, h, if_true]
  omega

/-- R59: an entry leaves the queue and is granted, and its port's late note is cleared. -/
theorem Fco.Shrinks.granted {l : Lease} {e : QueueEntry} {rest : List QueueEntry}
    (hq : (e :: rest).Sublist c.feeds[f].queue) (port : l.port = e.port) :
    c.Shrinks { c with
      feeds := upd c.feeds f fun r => { r with state := .granted l, queue := rest }
      notes := c.notes.set e.port none } := by
  obtain ⟨places, needing⟩ := FeedRec.Shrinks.granted hq port
  refine ⟨fun g p => Nat.add_le_add_right ?_ _, fun p needs => ?_, fun _ clear g p serves => ?_⟩
  · rw [upd_get]
    split
    · next e' => exact e' ▸ places p
    · exact le_rfl
  · rcases needs with ⟨g, needs⟩ | claim
    · simp only at needs
      rw [upd_get] at needs
      split at needs
      · exact .inl ⟨f, needing p (by simpa [*] using needs)⟩
      · exact .inl ⟨g, needs⟩
    · exact .inr claim
  · simp only at serves ⊢
    rw [upd_get] at serves
    rw [set_get]
    split
    · rfl
    · next other =>
      split at serves
      · rw [FeedRec.servesPort_of (l := l) rfl rfl, beq_iff_eq, port] at serves
        exact absurd serves other
      · exact clear g p serves

/-- R62, R69: a grant or lease ends and leaves a late note: its port has no other. -/
theorem Fco.Shrinks.noted {l : Lease} {st : FeedState} {n : LateNote} (leased : c.feeds[f].state.lease? = some l)
    (free : st.lease? = none) : c.Shrinks { c with
      feeds := upd c.feeds f fun r => { r with state := st }, notes := c.notes.set l.port (some n) } := by
  have ended : c.feeds[f].Shrinks { c.feeds[f] with state := st } := .ended free (List.Sublist.refl _)
  obtain ⟨places, needs, -⟩ := Fco.Shrinks.feed (c := c) (f := f) (g := fun r => { r with state := st }) ended
  refine ⟨places, needs, fun single clear g p serves => ?_⟩
  simp only at serves ⊢
  rw [upd_get] at serves
  split at serves
  · simp [FeedRec.servesPort, free] at serves
  · next other =>
    rw [set_get]
    split
    · next e =>
      subst e
      have here : c.feeds[f].servesPort l.port = true := by simp [-Fin.getElem_fin, FeedRec.servesPort, leased]
      have := single l.port f g other (Fco.serves_places here)
      have := Fco.serves_places serves
      omega
    · exact clear g p serves

/-- R54: an answered claim joins the queue of its feed. -/
theorem Fco.Shrinks.joined {p : Port} {k : Claim} {e : QueueEntry} (claim : c.claims[p] = some k) (valid : k.void = none)
    (port : e.port = p) : c.Shrinks { c with
      claims := c.claims.set p none, feeds := upd c.feeds k.feed fun r => { r with queue := r.queue ++ [e] } } := by
  refine ⟨fun g q => ?_, fun q needs => ?_, fun _ clear g q serves => ?_⟩
  · simp only [Fco.places, upd_get, set_get]
    by_cases hg : k.feed = g
    · subst hg
      rw [if_pos rfl, FeedRec.joined_places, port]
      by_cases hq : p = q
      · subst hq
        simp [-Fin.getElem_fin, claim]
      · simp [-Fin.getElem_fin, hq]
    · rw [if_neg hg]
      by_cases hq : p = q
      · subst hq
        simp
      · simp [-Fin.getElem_fin, hq]
  · rcases needs with ⟨g, needs⟩ | ⟨d, hd, void⟩
    · simp only at needs
      rw [upd_get] at needs
      split at needs
      · next hg =>
        subst hg
        rcases needs with ⟨x, hx, hp⟩ | granted
        · rcases List.mem_append.mp hx with hx | hx
          · exact .inl ⟨_, .inl ⟨x, hx, hp⟩⟩
          · rw [List.mem_singleton.mp hx, port] at hp
            exact .inr ⟨k, hp ▸ claim, valid⟩
        · exact .inl ⟨_, .inr granted⟩
      · exact .inl ⟨g, needs⟩
    · simp only at hd
      rw [set_get] at hd
      split at hd
      · cases hd
      · exact .inr ⟨d, hd, void⟩
  · simp only at serves
    rw [upd_get] at serves
    split at serves
    · next hg =>
      subst hg
      exact clear _ q serves
    · exact clear g q serves

end

/-! ### FCO's operations -/

section
variable (s : Part)

theorem modFeed_touches (f : Feed) {g : FeedRec → FeedRec} (h : s.fco.feeds[f].Shrinks (g s.fco.feeds[f])) :
    Touches [.feeds] s (modFeed f g s) := fco_touches s (.feed h)

/-- A feed is set FREE or CLOSED. -/
theorem endFeed_touches (f : Feed) {st : FeedState} (free : st.lease? = none) : Touches [.feeds] s (setFeed f st s) :=
  modFeed_touches s f (.ended free (List.Sublist.refl _))

theorem EndTarget.state_lease (t : EndTarget) : t.state.lease? = none := by cases t <;> rfl

/-- The lease of a feed changes, for the same port. -/
theorem holdFeed_touches (f : Feed) {l k : Lease} (leased : s.fco.feeds[f].state.lease? = some l) (port : k.port = l.port) :
    Touches [.feeds] s (setFeed f (.held k) s) := modFeed_touches s f (.leased leased rfl port fun x h => by cases h)

theorem drainFeed_touches (f : Feed) {l k : Lease} (leased : s.fco.feeds[f].state.lease? = some l) (port : k.port = l.port) :
    Touches [.feeds] s (setFeed f (.draining k) s) := modFeed_touches s f (.leased leased rfl port fun x h => by cases h)

theorem setQueue_touches (f : Feed) {q : List QueueEntry} (hq : q.Sublist s.fco.feeds[f].queue) :
    Touches [.feeds] s (setQueue f q s) := modFeed_touches s f (.queued hq)

theorem clearNote_touches (p : Port) : Touches [.feeds] s (setNote p none s) :=
  fco_touches s (.notes fun q => by
    rw [set_get]
    split
    · exact .inl rfl
    · exact .inr rfl)

theorem grantEntry_touches (f : Feed) (e : QueueEntry) {rest : List QueueEntry}
    (hq : (e :: rest).Sublist s.fco.feeds[f].queue) : Touches [.feeds] s (grantEntry f e (setQueue f rest s)) := by
  have same : setNote e.port none (setFeed f (.granted ((setQueue f rest s).newGrant f e)) (setQueue f rest s)) =
      { s with fco := { s.fco with
          feeds := upd s.fco.feeds f fun r => { r with state := .granted ((setQueue f rest s).newGrant f e), queue := rest }
          notes := s.fco.notes.set e.port none } } := by
    simp only [setNote, setFeed, setQueue, modFeed, upd]
    simp
  have granted : Touches [.feeds] s
      (setNote e.port none (setFeed f (.granted ((setQueue f rest s).newGrant f e)) (setQueue f rest s))) := by
    rw [same]
    exact fco_touches s (.granted hq rfl)
  exact granted.then (sendStation_touches _ e.port _) (by decide)

theorem offer_touches (f : Feed) {q : List QueueEntry} (hq : q.Sublist s.fco.feeds[f].queue) : Touches [.feeds] s (offer f q s) := by
  induction q generalizing s with
  | nil => exact setQueue_touches s f hq
  | cons e rest ih =>
    have tail := (List.sublist_cons_self e rest).trans hq
    have released : Touches [] s (releaseEntry f e s) := askTrk_touches s _
    have passed {t : Part} (h : Touches [] s t) : Touches [.feeds] s (offer f rest t) := by
      obtain ⟨feeds, -, -⟩ := h.feeds (by decide)
      exact (h.mono (by decide)).trans (ih t (by rwa [feeds]))
    unfold offer
    split
    · exact passed (released.trans (sendStation_touches _ e.port _))
    · split
      · exact passed (released.trans (refuse_touches _ e.port _ _))
      · exact grantEntry_touches s f e hq

theorem arbitrate_touches (f : Feed) : Touches [.feeds] s (arbitrate f s) := by
  unfold arbitrate
  split
  · exact offer_touches s f (List.Sublist.refl _)
  · exact .refl _ s

theorem settleClose_touches (f : Feed) : Touches [.feeds] s (settleClose f s) := by
  unfold settleClose
  split
  · exact .refl _ s
  · split
    · exact (modFeed_touches s f (.same rfl rfl)).then (reply_touches _ _ _) (by decide)
    · exact .refl _ s

/-- What follows the end of a lease: SVA is told, and a pending FEED CLOSE is answered. -/
theorem leaseEnded_touches (f : Feed) (p : Port) (drained : Bool) :
    Touches [.feeds] s (settleClose f (if drained then drainEnds p s else s)) := by
  cases drained with
  | true => exact ((drainEnds_touches s p).mono (by decide)).trans (settleClose_touches _ f)
  | false => exact settleClose_touches s f

theorem finishLease_touches (f : Feed) (l : Lease) (drained : Bool) : Touches [.feeds] s (finishLease f l drained s) :=
  (endFeed_touches s f l.target.state_lease).trans (leaseEnded_touches _ f l.port drained)

theorem endGrant_touches (f : Feed) (l : Lease) : Touches [.feeds] s (endGrant f l s) :=
  ((endFeed_touches s f l.target.state_lease).then (askTrk_touches _ _) (by decide)).trans (arbitrate_touches _ f)

/-- A grant or lease ends and leaves a late note. -/
theorem noteFeed_touches (f : Feed) {l : Lease} (leased : s.fco.feeds[f].state.lease? = some l) {st : FeedState}
    (free : st.lease? = none) (n : LateNote) : Touches [.feeds] s (setNote l.port (some n) (setFeed f st s)) :=
  fco_touches s (.noted leased free)

theorem lapse_touches (f : Feed) {l : Lease} (leased : s.fco.feeds[f].state.lease? = some l) : Touches [.feeds] s (lapse f l s) := by
  have told := sendStation_touches s l.port (.lapse f)
  obtain ⟨feeds, -, -⟩ := told.feeds (by decide)
  have noted := noteFeed_touches (sendStation l.port (.lapse f) s) f (by rwa [feeds]) l.target.state_lease (.take f)
  have released := ((told.mono (by decide)).trans noted).then
    (askTrk_touches _ (releaseRequest f l.port l.container l.remnant)) (by decide)
  exact released.trans (arbitrate_touches _ f)

theorem cut_touches (f : Feed) (why : CutCause) : Touches [.feeds] s (cut f why s) := by
  unfold cut
  split
  · next l granted =>
    split
    · exact endGrant_touches s f _
    · exact lapse_touches s f (by rw [granted]; rfl)
  · next l held =>
    have told : Touches [] s (if why = .isolation then s else sendStation l.port (.withdrawFeed f) s) := by
      split
      · exact .refl _ s
      · exact sendStation_touches s l.port _
    obtain ⟨feeds, -, -⟩ := told.feeds (by decide)
    dsimp only
    generalize (if why = .isolation then s else sendStation l.port (.withdrawFeed f) s) = t at *
    have told : Touches [.feeds] s t := told.mono (by decide)
    split
    · exact (told.trans (drainFeed_touches t f (l := l) (by rw [feeds, held]; rfl) rfl)).then (drainBegins_touches _ l.port) (by decide)
    · exact ((told.then (askTrk_touches _ _) (by decide)).trans (finishLease_touches _ f l false)).trans (arbitrate_touches _ f)
  · exact .refl _ s

theorem voidClaim_touches (p : Port) (v : Void) : Touches [.feeds] s (voidClaim p v s) :=
  fco_touches s (.claims fun q => by
    rw [upd_get]
    cases h : s.fco.claims[q] with
    | none => split <;> exact .inl rfl
    | some k =>
      split
      · exact .inr ⟨k, _, rfl, rfl, rfl, by cases e : k.void <;> simp [e]⟩
      · exact .inr ⟨k, k, rfl, rfl, rfl, id⟩)

theorem releaseEntries_touches (f : Feed) (q : List QueueEntry) : Touches [] s (forEach q (releaseEntry f) s) :=
  forEach_touches (fun _ s => askTrk_touches s _) q s

theorem dropQueued_touches (p : Port) : Touches [.feeds] s (dropQueued p s) := by
  unfold dropQueued
  split
  · exact .refl _ s
  · exact (setQueue_touches s _ List.filter_sublist).then (releaseEntries_touches _ _ _) (by decide)

theorem withGrant_touches (p : Port) {go : Feed → Lease → Part → Part}
    (hg : ∀ f l s, s.fco.feeds[f].state.lease? = some l → Touches [.feeds] s (go f l s)) : Touches [.feeds] s (withGrant p go s) := by
  unfold withGrant
  split
  · exact .refl _ s
  · split
    · next granted => exact hg _ _ s (by rw [granted]; rfl)
    · exact .refl _ s

theorem portLeft_touches (p : Port) : Touches [.feeds] s (portLeft p s) :=
  ((voidClaim_touches s p _).trans (dropQueued_touches _ p)).trans (withGrant_touches _ p fun f l s _ => endGrant_touches s f l)

theorem robotUnready_touches (p : Port) : Touches [.feeds] s (robotUnready p s) :=
  ((voidClaim_touches s p _).trans (dropQueued_touches _ p)).trans (withGrant_touches _ p fun f _ s leased => lapse_touches s f leased)

theorem isolateRobot_touches (p : Port) : Touches [.feeds] s (isolateRobot p s) := by
  unfold isolateRobot
  dsimp only
  split
  · exact portLeft_touches s p
  · exact (portLeft_touches s p).trans (cut_touches _ _ _)

theorem takeClaim_touches (p : Port) (feed : Byte) (c : Half) (doses : Byte) :
    Touches [.feeds, .places, .needs] s (takeClaim p feed c doses s) := by
  unfold takeClaim
  split
  · exact (refuse_touches s p _ _).mono (by decide)
  · next f _ =>
    have claimed : Touches [.feeds, .places, .needs] s
        { s with fco.claims := s.fco.claims.set p (some ⟨f, c, doses.toNat, none⟩) } := { Touches.refl _ _ with
      feeds := fun hv => absurd (by decide) hv
      places := fun hv => absurd (by decide) hv
      needs := fun hv => absurd (by decide) hv }
    exact claimed.then (askTrk_touches _ _) (by decide)

/-- R54: the claim answered is removed. -/
theorem endClaim_touches (p : Port) : Touches [.feeds] s { s with fco.claims := s.fco.claims.set p none } :=
  fco_touches s (.claims fun q => by
    rw [set_get]
    split
    · exact .inl rfl
    · cases h : s.fco.claims[q] with
      | none => exact .inl rfl
      | some k => exact .inr ⟨k, k, rfl, rfl, rfl, id⟩)

theorem answerClaim_touches (p : Port) {k : Claim} (claim : s.fco.claims[p] = some k) (a : ReserveAnswer) :
    Touches [.feeds] s (answerClaim p k a { s with fco.claims := s.fco.claims.set p none }) := by
  have ended := endClaim_touches s p
  have refused (w : Reason) (s : Part) : Touches [.feeds] s (refuse p w claimKind s) :=
    (refuse_touches s p w claimKind).mono (by decide)
  have cleared := ended.then (askTrk_touches _ (.clear k.container p)) (by decide)
  unfold answerClaim
  split
  · next valid =>
    have joined : Touches [.feeds] s { s with fco := { s.fco with
        claims := s.fco.claims.set p none
        feeds := upd s.fco.feeds k.feed fun r => { r with queue := r.queue ++ [⟨p, k.container, k.doses, false⟩] } } } :=
      fco_touches s (.joined claim valid rfl)
    exact joined.trans (arbitrate_touches _ k.feed)
  · dsimp only
    split
    · exact cleared
    · exact cleared.trans (refused _ _)
  · exact ended.trans (refused _ _)
  · split
    · exact ended.trans (refused _ _)
    · exact ended

theorem takeAnswer_touches (p : Port) (a : ReserveAnswer) : Touches [.feeds] s (takeAnswer p a s) := by
  unfold takeAnswer
  split
  · have taken : Touches [.feeds] s { s with fco.toFco := s.fco.toFco.erase (.answer p a) } := { Touches.refl _ _ with }
    dsimp only
    split
    · exact taken
    · next k claim =>
      exact taken.trans (answerClaim_touches { s with fco.toFco := s.fco.toFco.erase (.answer p a) } p claim a)
  · exact .refl _ s

theorem takeCancel_touches (p : Port) : Touches [.feeds] s (takeCancel p s) := by
  have refused (w : Reason) : Touches [.feeds] s (refuse p w cancelKind s) := (refuse_touches s p w cancelKind).mono (by decide)
  unfold takeCancel
  split
  · exact refused _
  · split
    · exact dropQueued_touches s p
    · split
      · exact voidClaim_touches s p _
      · split
        · exact refused _
        · split
          · exact endGrant_touches s _ _
          · exact refused _

theorem takeTake_touches (p : Port) (feed : Byte) : Touches [.feeds] s (takeTake p feed s) := by
  have refused (w : Reason) (s : Part) : Touches [.feeds] s (refuse p w takeKind s) :=
    (refuse_touches s p w takeKind).mono (by decide)
  have late (f : Feed) : Touches [.feeds] s (lateTake p f s) := by
    unfold lateTake
    split
    · exact (clearNote_touches s p).trans (refused _ _)
    · exact refused _ s
  unfold takeTake
  split
  · exact refused _ s
  · split
    · exact refused _ s
    · split
      · next l granted =>
        split
        · exact holdFeed_touches s _ (l := l) (by rw [granted]; rfl) rfl
        · exact late _
      · exact late _

theorem takeExpiry_touches (f : Feed) : Touches [.feeds] s (takeExpiry f s) := by
  unfold takeExpiry
  split
  · next granted =>
    split
    · exact lapse_touches s f (by rw [granted]; rfl)
    · exact .refl _ s
  · exact .refl _ s

/-- R64: the lease that a DOSE START names is the one the feed is HELD under. -/
theorem startable_eq {k : Fco} {p : Port} {c : Half} {i : Byte} {f : Feed} {l : Lease} (h : k.startable p c i = some (f, l)) :
    k.feedServing p = some f ∧ k.feeds[f].state = .held l ∧ l.inFlight = false ∧ l.names c i = true := by
  obtain ⟨g, serving, named⟩ := Option.bind_eq_some_iff.mp h
  split at named
  · next x held =>
    split at named
    · next ok =>
      obtain ⟨rfl, rfl⟩ := Prod.mk.inj (Option.some.inj named)
      simpa [-Fin.getElem_fin, held, serving] using ok
    · cases named
  · cases named

/-- R65: the lease that a DOSE END names is the one the feed is HELD or DRAINING under. -/
theorem endable_eq {k : Fco} {p : Port} {c : Half} {i : Byte} {f : Feed} {l : Lease} {draining : Bool}
    (h : k.endable p c i = some (f, l, draining)) : k.feedServing p = some f ∧
      k.feeds[f].state = (if draining then .draining l else .held l) ∧ l.inFlight = true ∧ l.names c i = true := by
  obtain ⟨g, serving, named⟩ := Option.bind_eq_some_iff.mp h
  split at named
  · next x held =>
    split at named
    · next ok =>
      obtain ⟨rfl, rest⟩ := Prod.mk.inj (Option.some.inj named)
      obtain ⟨rfl, rfl⟩ := Prod.mk.inj rest
      simpa [-Fin.getElem_fin, held, serving] using ok
    · cases named
  · next x held =>
    split at named
    · next ok =>
      obtain ⟨rfl, rest⟩ := Prod.mk.inj (Option.some.inj named)
      obtain ⟨rfl, rfl⟩ := Prod.mk.inj rest
      simpa [-Fin.getElem_fin, held, serving] using ok
    · cases named
  · cases named

/-- The lease that serves a port is for that port. -/
theorem feedServing_port {k : Fco} {p : Port} {f : Feed} {l : Lease} (h : k.feedServing p = some f)
    (leased : k.feeds[f].state.lease? = some l) : l.port = p := by
  have serves := List.find?_some h
  rw [FeedRec.servesPort_of leased rfl] at serves
  exact eq_of_beq serves

theorem takeDoseStart_touches (p : Port) (c : Half) (i : Byte) : Touches [.feeds] s (takeDoseStart p c i s) := by
  have refused (w : Reason) : Touches [.feeds] s (refuse p w doseStartKind s) :=
    (refuse_touches s p w doseStartKind).mono (by decide)
  unfold takeDoseStart
  split
  · exact refused _
  · split
    · exact refused _
    · next f l found =>
      obtain ⟨-, held, -⟩ := startable_eq found
      split
      · exact (refused _).trans (cut_touches _ _ _)
      · exact holdFeed_touches s _ (l := l) (by rw [held]; rfl) rfl

/-- R66, R70: the last dose of a lease: its remnant takes the place at the feed that the lease leaves. -/
theorem remnant_places {c : Fco} {f : Feed} {l : Lease} {e : QueueEntry} {st : FeedState} (leased : c.feeds[f].state.lease? = some l)
    (free : st.lease? = none) (port : e.port = l.port) (g : Feed) (p : Port) :
    ({ c with feeds := upd c.feeds f fun r => { r with queue := e :: r.queue, state := st } } : Fco).places g p ≤ c.places g p := by
  refine Nat.add_le_add_right ?_ _
  simp only
  rw [upd_get]
  split
  · next e' =>
    subst e'
    simp only [FeedRec.places, FeedRec.servesPort, leased, free, List.countP_cons, port, Option.any_some, Option.any_none,
      Bool.false_eq_true, if_false, Nat.add_zero]
    exact le_rfl
  · exact le_rfl

/-- R66, R70: the end of a lease whose remnant is placed at the head of the queue. -/
theorem placeRemnant_eq (f : Feed) (l : Lease) (more : l.after ≠ 0) (st : FeedState) :
    setFeed f st (placeRemnant f l s) = { s with fco := { s.fco with feeds := upd s.fco.feeds f fun r =>
      { r with queue := ⟨l.port, l.container, l.after, true⟩ :: r.queue, state := st } } } := by
  simp only [placeRemnant, if_neg more, setQueue, setFeed, modFeed, upd]
  simp

theorem remnantPlaced_touches (f : Feed) {l k : Lease} (leased : s.fco.feeds[f].state.lease? = some l) (port : k.port = l.port) :
    Touches [.feeds, .needs] s (setFeed f k.target.state (placeRemnant f k s)) := by
  by_cases none : k.after = 0
  · simp only [placeRemnant, none, if_true]
    exact (endFeed_touches s f k.target.state_lease).mono (by decide)
  · rw [placeRemnant_eq s f k none]
    exact { Touches.refl _ _ with
      feeds := fun hv => absurd (by decide) hv
      needs := fun hv => absurd (by decide) hv
      places := fun _ => remnant_places leased k.target.state_lease port }

theorem doseOk_touches (f : Feed) {l : Lease} (leased : s.fco.feeds[f].state.lease? = some l) :
    Touches [.feeds, .needs] s (doseOk f l s) := by
  have told : Touches [.feeds, .needs] s (askTrk (.doseDone l.container l.port f) s) := (askTrk_touches s _).mono (by decide)
  unfold doseOk
  dsimp only
  split
  · exact told.then (holdFeed_touches _ f (l := l) leased rfl) (by decide)
  · exact ((told.trans (remnantPlaced_touches _ f leased rfl)).then (leaseEnded_touches _ f l.port false) (by decide)).then
      (arbitrate_touches _ f) (by decide)

theorem doseFailed_touches (f : Feed) (l : Lease) (e : EndResult) : Touches [.feeds] s (doseFailed f l e s) := by
  have told : Touches [.feeds] s (failFill f l e s) := (askTrk_touches s _).mono (by decide)
  exact (told.trans (finishLease_touches _ f l false)).trans (arbitrate_touches _ f)

theorem doseRetry_touches (f : Feed) {l : Lease} (leased : s.fco.feeds[f].state.lease? = some l) :
    Touches [.feeds] s (doseRetry f l s) := by
  unfold doseRetry
  split
  · exact holdFeed_touches s f leased rfl
  · exact doseFailed_touches s f l .fault

theorem doseEndHeld_touches (f : Feed) {l : Lease} (leased : s.fco.feeds[f].state.lease? = some l) (r : DoseResult) :
    Touches [.feeds, .needs] s (doseEndHeld f l r s) := by
  cases r with
  | ok => exact doseOk_touches s f leased
  | short => exact (doseFailed_touches s f l .short).mono (by decide)
  | retry => exact (doseRetry_touches s f leased).mono (by decide)
  | fault => exact (doseFailed_touches s f l .fault).mono (by decide)

theorem doseEndDraining_touches (f : Feed) (l : Lease) (r : DoseResult) : Touches [.feeds] s (doseEndDraining f l r s) := by
  have told : Touches [.feeds] s (forEach (drainRequests f l r) askTrk s) :=
    forEach_touches (fun m s => (askTrk_touches s m).mono (by decide)) _ s
  exact (told.trans (finishLease_touches _ f l true)).trans (arbitrate_touches _ f)

/-- A feed that is set to a state has it. -/
theorem setFeed_state (f : Feed) (st : FeedState) : (setFeed f st s).fco.feeds[f].state = st := by
  simp only [setFeed, modFeed, upd_self]

theorem acceptDoseEnd_touches (f : Feed) {l : Lease} (leased : s.fco.feeds[f].state.lease? = some l) (draining : Bool)
    (r : DoseResult) : Touches [.feeds, .needs] s (acceptDoseEnd f l draining r s) := by
  have counted := meterInc_touches s (meterA l.port)
  obtain ⟨feeds, -, -⟩ := counted.feeds (by decide)
  have leased : (meterInc (meterA l.port) s).fco.feeds[f].state.lease? = some l := by rwa [feeds]
  unfold acceptDoseEnd
  dsimp only
  generalize meterInc (meterA l.port) s = t at *
  have counted : Touches [.feeds, .needs] s t := counted.mono (by decide)
  cases draining with
  | true =>
    exact (counted.then (drainFeed_touches t f (k := { l with inFlight := false }) leased rfl) (by decide)).then
      (doseEndDraining_touches _ f _ r) (by decide)
  | false =>
    exact (counted.then (holdFeed_touches t f (k := { l with inFlight := false }) leased rfl) (by decide)).trans
      (doseEndHeld_touches _ f (by rw [setFeed_state]; rfl) r)

theorem takeDoseEnd_touches (p : Port) (c : Half) (i result : Byte) :
    Touches [.feeds, .needs] s (takeDoseEnd p c i result s) := by
  have refused (w : Reason) (s : Part) : Touches [.feeds, .needs] s (refuse p w doseEndKind s) :=
    (refuse_touches s p w doseEndKind).mono (by decide)
  unfold takeDoseEnd
  split
  · exact refused _ s
  · split
    · next f l draining found =>
      obtain ⟨-, leased, -⟩ := endable_eq found
      exact acceptDoseEnd_touches s f (by rw [leased]; cases draining <;> rfl) draining _
    · split
      · exact (((clearNote_touches s p).mono (by decide)).trans (refused _ _)).then (meterInc_touches _ _) (by decide)
      · exact refused _ s

theorem leaseTimeout_touches (f : Feed) {l : Lease} (leased : s.fco.feeds[f].state.lease? = some l) (draining : Bool) :
    Touches [.feeds] s (leaseTimeout f l draining s) := by
  have told : Touches [.feeds] s (failFill f l .timeout s) := (askTrk_touches s _).mono (by decide)
  have noted : Touches [.feeds] (failFill f l .timeout s)
      (setFeed f l.target.state (setNote l.port (some (.doseEnd l.container l.index)) (failFill f l .timeout s))) :=
    noteFeed_touches (failFill f l .timeout s) f leased l.target.state_lease (.doseEnd l.container l.index)
  have finished := (told.trans noted).trans (leaseEnded_touches _ f l.port draining)
  exact (finished.then (raise_touches _ (.feedTimeout f l.port l.container l.index)) (by decide)).trans (arbitrate_touches _ f)

theorem holdExpiry_touches (f : Feed) : Touches [.feeds] s (holdExpiry f s) := by
  unfold holdExpiry
  split
  · next held =>
    split
    · exact leaseTimeout_touches s f (by rw [held]; rfl) _
    · exact .refl _ s
  · next draining =>
    split
    · exact leaseTimeout_touches s f (by rw [draining]; rfl) _
    · exact .refl _ s
  · exact .refl _ s

theorem windowLeft_touches (c : Half) (p : Port) (f : Feed) : Touches [.feeds] s (windowLeft c p f s) := by
  unfold windowLeft
  split
  · exact cut_touches s f .departure
  · exact .refl _ s

theorem openFeed_touches (h : Nat) (f : Feed) : Touches [.feeds] s (openFeed h f s) :=
  check_touches s h _ fun _ =>
    (modFeed_touches s f (.trans (.ended (st := .free) rfl (List.Sublist.refl _)) (.same rfl rfl))).then (reply_touches _ h .done) (by decide)

/-- R76 step 3. -/
theorem voidFeedClaims_touches (f : Feed) : Touches [.feeds] s (voidFeedClaims f s) :=
  fco_touches s (.claims fun q => by
    rw [each_get]
    cases h : s.fco.claims[q] with
    | none => exact .inl rfl
    | some k =>
      rw [Option.map_some]
      by_cases own : k.feed = f
      · rw [if_pos own]
        exact .inr ⟨k, _, rfl, rfl, rfl, by cases k.void <;> simp⟩
      · rw [if_neg own]
        exact .inr ⟨k, k, rfl, rfl, rfl, id⟩)

theorem shutFeed_touches (f : Feed) : Touches [.feeds] s (shutFeed f s) := by
  have emptied (q : List QueueEntry) (s : Part) :
      Touches [.feeds] s (forEach q (fun e s => releaseEntry f e (refuse e.port .feedClosed claimKind s)) s) :=
    forEach_touches (fun e s => (((refuse_touches s e.port _ _).then (askTrk_touches _ _) (by decide)).mono (by decide))) q s
  have shutting : Touches [.feeds] s (modFeed f (fun r => { r with state := r.state.closing, queue := [] }) s) :=
    modFeed_touches s f (.trans .closing (.queued (List.nil_sublist _)))
  have shut := ((shutting.trans (emptied s.fco.feeds[f].queue _)).trans (voidFeedClaims_touches _ f)).trans (cut_touches _ f .close)
  unfold shutFeed
  dsimp only
  split
  · exact shut.trans (endFeed_touches _ f rfl)
  · exact shut

theorem closeFeed_touches (h : Nat) (f : Feed) : Touches [.feeds] s (closeFeed h f s) := by
  have replied (c : Code) (s : Part) : Touches [.feeds] s (reply h c s) := (reply_touches s h c).mono (by decide)
  unfold closeFeed
  dsimp only
  split
  · exact replied _ s
  · split
    · exact replied _ s
    · split
      · exact (shutFeed_touches s f).trans (replied _ _)
      · exact (shutFeed_touches s f).trans (modFeed_touches _ f (.same rfl rfl))

theorem restartFeed_touches (f : Feed) : Touches [.feeds] s (restartFeed f s) := by
  have ended : Touches [.feeds] s (forEach (restartRequest f s.fco.feeds[f].state) askTrk s) :=
    forEach_touches (fun m s => (askTrk_touches s m).mono (by decide)) _ s
  have emptied := ((ended.then (releaseEntries_touches _ f s.fco.feeds[f].queue) (by decide)).trans
    (setQueue_touches _ f (List.nil_sublist _))).trans (endFeed_touches _ f (st := .closed) rfl)
  have loaded (t : Part) : Touches [.feeds] t (modFeed f (fun r => { r with closing := none, cfg := t.nvs.feeds[f] }) t) :=
    modFeed_touches t f (.same rfl rfl)
  unfold restartFeed
  dsimp only
  split
  · exact ((emptied.then (drainEnds_touches _ _) (by decide)).then (replyAll_touches _ _ _) (by decide)).trans (loaded _)
  · exact (emptied.then (replyAll_touches _ _ _) (by decide)).trans (loaded _)

/-- R79 steps 3 and 4: every claim void, no late note. -/
theorem claimsAndNotes_touches : Touches [.feeds] s { s with
    fco.claims := each s.fco.claims fun _ k => k.map fun k => { k with void := some .silent }
    fco.notes := Vector.replicate 12 none } := by
  have voided : s.fco.Shrinks { s.fco with
      claims := each s.fco.claims fun _ k => k.map fun k => { k with void := some .silent } } := .claims fun q => by
    rw [each_get]
    cases h : s.fco.claims[q] with
    | none => exact .inl rfl
    | some k => exact .inr ⟨k, _, rfl, rfl, rfl, fun h => by cases h⟩
  exact fco_touches s (voided.trans (.notes fun q => .inl (by simp)))

theorem restartFco_touches : Touches [.feeds] s (restartFco s) := by
  have ended := forEach_touches (fun f s => restartFeed_touches s f) (List.finRange 4) s
  unfold restartFco
  generalize forEach (List.finRange 4) restartFeed s = u at *
  exact ended.trans (claimsAndNotes_touches u)

/-- The timers of grants and leases change. -/
theorem feedTimers_shrinks (c : Fco) (g : Timer → Timer) :
    c.Shrinks { c with feeds := each c.feeds fun _ r => { r with state := r.state.mapTimer g } } :=
  .feeds fun f => by
    rw [each_get]
    exact .mapTimer g

/-- Nothing is held. -/
def Fco.empty (d : Fco) : Prop :=
  (∀ f : Feed, d.feeds[f].state.lease? = none ∧ d.feeds[f].queue = []) ∧ ∀ p : Port, d.claims[p] = none

section
variable {d : Fco} (h : d.empty)
include h

theorem Fco.empty.serves (f : Feed) (p : Port) : d.feeds[f].servesPort p = false := by
  rw [FeedRec.servesPort, (h.1 f).1, Option.any_none]

theorem Fco.empty.places (f : Feed) (p : Port) : d.places f p = 0 := by
  simp [-Fin.getElem_fin, Fco.places, FeedRec.places, h.serves, h.2 p, (h.1 f).2]

theorem Fco.empty.needs (p : Port) : ¬ d.needs p := by
  rintro (⟨f, ⟨e, he, -⟩ | ⟨l, hl, -⟩⟩ | ⟨k, hk, -⟩)
  · rw [(h.1 f).2] at he
    cases he
  · have none := (h.1 f).1
    rw [hl] at none
    cases none
  · rw [h.2] at hk
    cases hk

theorem Fco.empty.notesClear : d.notesClear := fun f p serves => by
  rw [h.serves] at serves
  cases serves

theorem Fco.Shrinks.emptied (c : Fco) : c.Shrinks d :=
  ⟨fun f p => by rw [h.places]; exact Nat.zero_le _, fun p needs => absurd needs (h.needs p), fun _ _ => h.notesClear⟩

end

theorem bootFco_empty (n : Nvs) : (bootFco n).empty :=
  ⟨fun f => by simp [bootFco, FeedState.lease?], fun p => by simp [bootFco, Fco.atReset]⟩

/-! ### Admission and barring -/

theorem setAdmission_touches (p : Port) (a : Admission) : Touches [.admission, .barred] s (setAdmission p a s) :=
  modPort_touches_barred s p le_rfl

/-- A port that is not BARRED, and will not be, moves. -/
theorem setAdmission_touches_free (p : Port) {a : Admission} (dest : a ≠ .barred) (free : s.ports[p].admission ≠ .barred) :
    Touches [.admission] s (setAdmission p a s) :=
  modPort_touches_admission s p (iff_of_false dest free) le_rfl

theorem dropRelay_touches (p : Port) : Touches [] s (dropRelay p s) := by
  unfold dropRelay
  dsimp only
  split
  · exact .refl _ s
  · exact (modPort_touches s p rfl (Nat.zero_le _)).then (raise_touches _ _) (by decide)

/-- R88 steps 1 to 3: FCO is told, the relay queue discarded, PORT STATE raised. -/
theorem left_touches (p : Port) (dest : Admission) (why : LeaveCause) :
    Touches [.feeds] s (raise (.portState p dest why) (dropRelay p (portLeft p s))) :=
  (portLeft_touches s p).then ((dropRelay_touches _ p).trans (raise_touches _ _)) (by decide)

theorem leaveAdmitted_touches (p : Port) (dest : Admission) (why : LeaveCause) :
    Touches [.feeds, .admission, .barred] s (leaveAdmitted p dest why s) :=
  ((setAdmission_touches s p dest).mono (by decide)).then (left_touches _ p dest why) (by decide)

theorem leaveAdmitted_touches_free (p : Port) {dest : Admission} (why : LeaveCause) (unbarred : dest ≠ .barred)
    (free : s.ports[p].admission ≠ .barred) : Touches [.feeds, .admission] s (leaveAdmitted p dest why s) :=
  ((setAdmission_touches_free s p unbarred free).mono (by decide)).then (left_touches _ p dest why) (by decide)

theorem endContext_touches (p : Port) : Touches [] s (endContext p s) where
  __ := Touches.refl _ _
  contexts _ q hq := by
    by_cases e : p = q
    · subst e; simp [endContext] at hq
    · simpa [endContext, set_get, e, -Fin.getElem_fin] using hq

theorem endContexts_touches : Touches [] s (endContexts s) where
  __ := Touches.refl _ _
  contexts _ q hq := by simp [endContexts] at hq

theorem barPort_touches (p : Port) : Touches [.feeds, .admission, .barred] s (barPort p s) := by
  have ended : Touches [.feeds, .admission, .barred] s (endContext p s) := (endContext_touches s p).mono (by decide)
  unfold barPort
  dsimp only
  split
  · exact (ended.trans (leaveAdmitted_touches _ p _ _)).then (raise_touches _ _) (by decide)
  · exact (ended.then (setAdmission_touches _ p _) (by decide)).then (raise_touches _ _) (by decide)

theorem unbarPort_touches (p : Port) : Touches [.admission, .barred] s (unbarPort p s) := modPort_touches_barred s p le_rfl

theorem evalPort_touches (p : Port) : Touches [.feeds, .admission, .barred] s (evalPort p s) := by
  unfold evalPort
  split
  · exact .refl _ s
  · split
    · exact barPort_touches s p
    · split
      · exact (unbarPort_touches s p).mono (by decide)
      · exact .refl _ s

theorem barReader_touches : Touches [.reader] s (barReader s) := by
  have barred (s : Part) (t : Timer) : Touches [.reader] s { s with prv.barTimer := t, sva.reader := .barred } :=
    { Touches.refl _ _ with reader := fun hv => absurd (by decide) hv }
  have ended : Touches [.reader] s { s with prv.readerContext := none } := { Touches.refl _ _ with }
  unfold barReader
  dsimp only
  split
  · exact ((ended.then (sendReader_touches _ _) (by decide)).trans (barred _ _)).then (raise_touches _ _) (by decide)
  · exact (barred s _).then (raise_touches _ _) (by decide)

theorem unbarReader_touches : Touches [.reader] s (unbarReader s) where
  __ := Touches.refl _ _
  reader hv := absurd (by decide) hv

theorem evalReader_touches : Touches [.reader] s (evalReader s) := by
  unfold evalReader
  split
  · exact .refl _ s
  · split
    · exact barReader_touches s
    · split
      · exact unbarReader_touches s
      · exact .refl _ s

theorem evalAll_touches : Touches [.feeds, .admission, .barred, .reader] s (evalAll s) :=
  (forEach_touches (fun p s => (evalPort_touches s p).mono (by decide)) _ s).then (evalReader_touches _) (by decide)

/-- What the evaluation of a subject may change. -/
def Subject.views : Subject → List View
  | .port _ => [.feeds, .admission, .barred]
  | .reader => [.reader]

theorem evalSubject_touches (w : Subject) : Touches w.views s (evalSubject w s) := by
  cases w with
  | port p => exact evalPort_touches s p
  | reader => exact evalReader_touches s

end

/-! ### Changes of store jobs -/

/-- A change of jobs that writes the same LINE contents and holds. -/
def KeepsBodies (g : Job → Job) : Prop := ∀ j, (g j).line? = j.line? ∧ (g j).holdBody? = j.holdBody?

theorem KeepsBodies.lines {g : Job → Job} (hg : KeepsBodies g) (l : List Job) :
    (l.map g).filterMap Job.line? = l.filterMap Job.line? := by
  rw [List.filterMap_map]
  exact List.filterMap_congr fun j _ => (hg j).1

theorem KeepsBodies.holds {g : Job → Job} (hg : KeepsBodies g) (l : List Job) :
    (l.map g).filterMap Job.holdBody? = l.filterMap Job.holdBody? := by
  rw [List.filterMap_map]
  exact List.filterMap_congr fun j _ => (hg j).2

theorem withCount_keepsBodies (who : Subject) (value : Nat) (lifts : Bool) (extra : List Nat) :
    KeepsBodies fun j => if j.countsFor who then ⟨j.body.withCount value lifts, j.origin ++ extra⟩ else j := by
  intro j
  dsimp only
  split
  · obtain ⟨body, origin⟩ := j
    cases body <;> exact ⟨rfl, rfl⟩
  · exact ⟨rfl, rfl⟩

theorem marked_keepsBodies : KeepsBodies fun j => { j with body := j.body.marked } := by
  rintro ⟨body, origin⟩
  cases body <;> exact ⟨rfl, rfl⟩

section
variable (s : Part)

/-- The waiting jobs changed one by one, what they write left. -/
theorem mapQueue_touches {g : Job → Job} (hg : KeepsBodies g) : Touches [.store] s { s with nvs.queue := s.nvs.queue.map g } where
  __ := Touches.refl _ _
  store hv := absurd (by decide) hv
  queue _ hq := by simpa using hq
  lines _ := ⟨rfl, by simp [Nvs.lines, Nvs.jobs, hg.lines]⟩
  holds _ := ⟨rfl, by simp only [Nvs.holdBodies, Nvs.jobs, List.filterMap_append, hg.holds]; exact .refl _⟩

/-- The job in flight changed, what it writes left. -/
theorem mapInFlight_touches {g : Job → Job} (hg : KeepsBodies g) :
    Touches [.store] s { s with nvs.inFlight := s.nvs.inFlight.map g } where
  __ := Touches.refl _ _
  store hv := absurd (by decide) hv
  lines _ := ⟨rfl, by
    have : (s.nvs.inFlight.map g).toList = s.nvs.inFlight.toList.map g := by cases s.nvs.inFlight <;> rfl
    simp [Nvs.lines, Nvs.jobs, this, hg.lines]⟩
  holds _ := ⟨rfl, by
    have : (s.nvs.inFlight.map g).toList = s.nvs.inFlight.toList.map g := by cases s.nvs.inFlight <;> rfl
    simp only [Nvs.holdBodies, Nvs.jobs, List.filterMap_append, this, hg.holds]; exact .refl _⟩

/-- A job that writes no LINE content joins a queue that has room. -/
theorem queueJob_touches_holds {b : JobBody} {o : List Nat} (hl : Job.line? ⟨b, o⟩ = none) (room : s.nvs.hasRoom = true) :
    Touches [.store, .holds] s (queueJob b o s) where
  __ := Touches.refl _ _
  store hv := absurd (by decide) hv
  queue _ _ := by
    have : s.nvs.queue.length < Config.storeSize := of_decide_eq_true room
    simp only [queueJob, List.length_append, List.length_singleton]
    omega
  lines _ := ⟨rfl, by simp [Nvs.lines, Nvs.jobs, queueJob, hl]⟩
  holds hv := absurd (by decide) hv

/-- A job that writes no hold joins a queue that has room. -/
theorem queueJob_touches_lines {b : JobBody} {o : List Nat} (hh : Job.holdBody? ⟨b, o⟩ = none) (room : s.nvs.hasRoom = true) :
    Touches [.store, .lines] s (queueJob b o s) where
  __ := Touches.refl _ _
  store hv := absurd (by decide) hv
  queue _ _ := by
    have : s.nvs.queue.length < Config.storeSize := of_decide_eq_true room
    simp only [queueJob, List.length_append, List.length_singleton]
    omega
  lines hv := absurd (by decide) hv
  holds _ := ⟨rfl, by simp [Nvs.holdBodies, Nvs.jobs, queueJob, hh, List.Subperm.refl]⟩

/-- A job that writes no LINE content and no hold joins a queue that has room. -/
theorem queueJob_touches {b : JobBody} {o : List Nat} (hl : Job.line? ⟨b, o⟩ = none) (hh : Job.holdBody? ⟨b, o⟩ = none)
    (room : s.nvs.hasRoom = true) : Touches [.store] s (queueJob b o s) where
  __ := Touches.refl _ _
  store hv := absurd (by decide) hv
  queue _ := (queueJob_touches_holds s hl room).queue (by decide)
  lines _ := (queueJob_touches_holds s hl room).lines (by decide)
  holds _ := (queueJob_touches_lines s hh room).holds (by decide)

theorem queueOrFull_touches (h : Nat) {b : JobBody} (hl : Job.line? ⟨b, [h]⟩ = none) (hh : Job.holdBody? ⟨b, [h]⟩ = none) :
    Touches [.store] s (queueOrFull h b s) := check_touches s h _ fun room => queueJob_touches s hl hh room

theorem askCheckpoint_touches : Touches [.store] s (askCheckpoint s) := by
  unfold askCheckpoint
  split
  · exact .refl _ s
  · split
    · next room => exact queueJob_touches s rfl rfl room
    · split
      · exact .refl _ s
      · exact { Touches.refl _ _ with store := fun hv => absurd (by decide) hv }

theorem convertDeferred_touches : Touches [.store] s (convertDeferred s) := by
  unfold convertDeferred
  split
  · exact .refl _ s
  · next d rest _ =>
    split
    · next room =>
      have dropped : Touches [.store] s { s with nvs.deferred := rest } := { Touches.refl _ _ with store := fun hv => absurd (by decide) hv }
      refine dropped.trans (queueJob_touches _ ?_ ?_ room) <;> cases d <;> rfl
    · exact .refl _ s

/-! ### Counts and their jobs -/

theorem queueCount_touches (w : Subject) (v : Nat) : Touches [.store] s (queueCount w v s) := by
  have marked : Touches [.store] s (if s.nvs.liftInFlight w then
      { s with nvs.inFlight := s.nvs.inFlight.map fun j => { j with body := j.body.marked } } else s) := by
    split
    · exact mapInFlight_touches s marked_keepsBodies
    · exact .refl _ s
  unfold queueCount
  dsimp only
  generalize (if s.nvs.liftInFlight w then
      { s with nvs.inFlight := s.nvs.inFlight.map fun j => { j with body := j.body.marked } } else s) = u at *
  split
  · have retaken := withCount_keepsBodies w v (s.nvs.liftInFlight w) []
    simp only [List.append_nil] at retaken
    exact marked.trans (mapQueue_touches u retaken)
  · split
    · next room => exact marked.trans (queueJob_touches u rfl rfl room)
    · exact marked.trans { Touches.refl _ _ with store := fun hv => absurd (by decide) hv }

theorem putCount_touches (w : Subject) (v : Nat) : Touches [.counts] s (putCount w v s) := by
  cases w <;> exact { Touches.refl _ _ with counts := fun hv => absurd (by decide) hv }

theorem setCount_touches (w : Subject) (v : Nat) : Touches [.counts, .store] s (setCount w v s) := by
  unfold setCount
  split
  · exact .refl _ s
  · exact ((putCount_touches s w v).mono (by decide)).then (queueCount_touches _ w v) (by decide)

theorem retakeCount_touches (w : Subject) (v : Nat) : Touches [.store] s (retakeCount w v s) := by
  have retaken := withCount_keepsBodies w v false []
  simp only [List.append_nil] at retaken
  exact mapQueue_touches s retaken

theorem countFailure_touches (w : Subject) : Touches (.counts :: .store :: w.views) s (countFailure w s) := by
  have evaluated (s : Part) : Touches (.counts :: .store :: w.views) s (evalSubject w s) :=
    (evalSubject_touches s w).mono (fun _ m => List.mem_cons_of_mem _ (List.mem_cons_of_mem _ m))
  unfold countFailure
  dsimp only
  split
  · exact ((retakeCount_touches s w _).mono (by simp)).trans (evaluated _)
  · exact ((setCount_touches s w _).mono (by simp)).trans (evaluated _)

theorem queueLift_touches (w : Subject) (h : Nat) (room : (s.nvs.hasRoom || s.nvs.queue.any (·.countsFor w)) = true) :
    Touches [.store] s (queueLift w h s) := by
  unfold queueLift
  split
  · exact mapQueue_touches s (withCount_keepsBodies w 0 true [h])
  · next none =>
    rw [Bool.not_eq_true] at none
    rw [none, Bool.or_false] at room
    exact queueJob_touches s rfl rfl room

/-! ### The exchange with a station -/

theorem challengeStation_touches (p : Port) : Touches [.contexts, .admission, .barred] s (challengeStation p s) := by
  have drawn : Touches [.contexts, .admission, .barred] s { s with
      prv.contexts := s.prv.contexts.set p (some ⟨s.nonce, s.prv.keys[s.ports[p].cfg.slot], s.timer Config.proofTime⟩)
      prv.draws := s.prv.draws + 1 } := { Touches.refl _ _ with contexts := fun hv => absurd (by decide) hv }
  exact (drawn.then (sendStation_touches _ p _) (by decide)).then (setAdmission_touches _ p _) (by decide)

theorem admitPort_touches (p : Port) (k : Context) (nb : Block) : Touches [.counts, .store, .admission, .barred] s (admitPort p k nb s) := by
  have ended : Touches [.counts, .store, .admission, .barred] s (endContext p s) := (endContext_touches s p).mono (by decide)
  have admitted := (ended.then (sendStation_touches _ p (.welcome (proofValue k.key nb k.nonce) s.mtu.hall)) (by decide)).then
    (setAdmission_touches _ p .admitted) (by decide)
  exact (admitted.then (setCount_touches _ (.port p) 0) (by decide)).then (raise_touches _ _) (by decide)

/-- R87: where a port whose exchange has failed waits. -/
theorem waits_touches (p : Port) :
    Touches [.admission, .barred] s (modPort p (fun r => { r with admission := waitingState r }) s) :=
  modPort_touches_barred s p le_rfl

theorem failExchange_touches (p : Port) : Touches [.counts, .store, .feeds, .admission, .barred] s (failExchange p s) := by
  have ended : Touches [.counts, .store, .feeds, .admission, .barred] s (endContext p s) := (endContext_touches s p).mono (by decide)
  exact (ended.then (waits_touches _ p) (by decide)).trans (countFailure_touches _ (.port p))

theorem proofExpiry_touches (p : Port) : Touches [.counts, .store, .feeds, .admission, .barred] s (proofExpiry p s) := by
  unfold proofExpiry
  split
  · exact .refl _ s
  · split
    · exact failExchange_touches s p
    · exact .refl _ s

theorem barExpiry_touches : Touches [.counts, .store, .reader] s (barExpiry s) := by
  unfold barExpiry
  split
  · exact ((setCount_touches s .reader 0).mono (by decide)).then (unbarReader_touches _) (by decide)
  · exact .refl _ s

theorem loadAttemptLimits_touches : Touches [.counts] s (loadAttemptLimits s) where
  __ := Touches.refl _ _
  counts hv := absurd (by decide) hv

theorem restartPrv_touches : Touches [.counts, .feeds, .admission, .barred, .reader] s (restartPrv s) := by
  have ended : Touches [.counts, .feeds, .admission, .barred, .reader] s (endContexts s) := (endContexts_touches s).mono (by decide)
  have loaded (k : Vector Block 8) : Touches [.counts, .feeds, .admission, .barred, .reader] (endContexts s)
    { endContexts s with prv.keys := k } := { Touches.refl _ _ with }
  exact ((ended.trans (loaded s.nvs.keys)).then (loadAttemptLimits_touches _) (by decide)).then (evalAll_touches _) (by decide)

end

end Sys2Proof.Machine
end

section
/-! What the operations of SPX, SVA, MTU, NVS, TRK, PSC and HLC leave alone, and with them what every command leaves alone. -/

namespace Sys2Proof.Machine

/-! ### SPX's operations -/

section
variable (s : Part)

theorem waitingState_ne_barred (r : PortRec) : waitingState r ≠ .barred := by
  unfold waitingState
  split <;> decide

theorem heard_touches (p : Port) : Touches [.admission] s (heard p s) := by
  have timed : Touches [.admission] s (modPort p (fun r => { r with linkTimer := s.timer Config.linkTime }) s) :=
    (modPort_touches s p rfl le_rfl).mono (by decide)
  unfold heard
  dsimp only
  generalize modPort p (fun r => { r with linkTimer := s.timer Config.linkTime }) s = t at *
  have waiting (u : Part) (dark : u.ports[p].admission = .dark) : Touches [.admission] u
      (modPort p (fun r => { r with link := true, admission := waitingState r }) u) :=
    modPort_touches_admission u p (iff_of_false (waitingState_ne_barred _) (by rw [dark]; decide)) le_rfl
  split
  · next dark =>
    split
    · have awake := wakeUp_touches t (.port p)
      exact (timed.then awake (by decide)).trans (waiting _ ((awake.admission (by decide) p).trans dark))
    · exact timed.trans (waiting t dark)
  · exact timed.then (modPort_touches t p rfl le_rfl) (by decide)
  · exact timed

theorem idleMarker_touches (p : Port) : Touches [.admission] s (idleMarker p s) := by
  unfold idleMarker
  split
  · exact Touches.after (heard_touches _ p) ((modPort_touches s p rfl le_rfl).mono (by decide)) (by decide)
  · exact .refl _ s

theorem discardFrame_touches (p : Port) : Touches [] s (discardFrame p s) := by
  unfold discardFrame
  split
  · exact modPort_touches s p rfl le_rfl
  · exact .refl _ s

theorem linkDown_touches (p : Port) : Touches [.feeds, .admission] s (linkDown p s) := by
  have down : Touches [.feeds, .admission] s
      (modPort p (fun r => { r with link := false, linkTimer := none, status := none }) s) :=
    (modPort_touches s p rfl le_rfl).mono (by decide)
  unfold linkDown
  dsimp only
  generalize modPort p (fun r => { r with link := false, linkTimer := none, status := none }) s = t at *
  split
  · exact down
  · next admitted => exact down.trans (leaveAdmitted_touches_free t p _ (by decide) (by rw [admitted]; decide))
  · next free _ =>
    exact (down.then (endContext_touches t p) (by decide)).then (setAdmission_touches_free _ p (by decide) free) (by decide)

theorem linkExpiry_touches (p : Port) : Touches [.feeds, .admission] s (linkExpiry p s) := by
  unfold linkExpiry
  split
  · exact linkDown_touches s p
  · exact .refl _ s

theorem refuseIfListening_touches (p : Port) (k : Byte) : Touches [] s (refuseIfListening p k s) := by
  unfold refuseIfListening
  split
  · exact refuse_touches s p _ k
  · exact .refl _ s

theorem unexpected_touches (p : Port) (k : Byte) : Touches [.counts, .store, .feeds, .admission, .barred] s (unexpected p k s) := by
  unfold unexpected
  split
  · exact (refuse_touches s p _ k).mono (by decide)
  · split
    · exact (failExchange_touches s p).then (refuseIfListening_touches _ p k) (by decide)
    · exact ((waits_touches s p).mono (by decide)).then (refuseIfListening_touches _ p k) (by decide)
  · exact ((leaveAdmitted_touches s p _ _).mono (by decide)).then (refuseIfListening_touches _ p k) (by decide)
  · exact .refl _ s

/-- A station frame touches what its rule touches, or what an unexpected frame does. -/
theorem stationFrameIn_touches {V : List View} (p : Port) (k : Byte) (accepts : Part → Bool) {serve : Part → Part}
    (hs : ∀ t, Touches V t (serve t)) (hv : [.counts, .store, .feeds, .admission, .barred] ⊆ V) :
    Touches V s (stationFrameIn p k accepts serve s) := by
  have h : Touches V s (heard p s) := (heard_touches s p).mono fun _ m => by
    rw [List.mem_singleton] at m
    subst m
    exact hv (by decide)
  unfold stationFrameIn routeFrame
  split
  · split
    · exact h.trans (hs _)
    · exact h.trans ((unexpected_touches _ p k).mono hv)
  · exact .refl _ s

theorem takeHello_touches (p : Port) (identity : Identity) (role : Byte) :
    Touches [.contexts, .admission, .barred] s (takeHello p identity role s) := by
  have refused (w : Reason) (s : Part) : Touches [.contexts, .admission, .barred] s (refuse p w 0x01 s) :=
    (refuse_touches s p w _).mono (by decide)
  have loaded : Touches [.contexts, .admission, .barred] s (loadBinding p s) := (modPort_touches s p rfl le_rfl).mono (by decide)
  unfold takeHello
  split
  · exact refused _ s
  · split
    · exact refused _ s
    · dsimp only
      split
      · exact loaded.trans (refused _ _)
      · exact loaded.trans (challengeStation_touches _ p)

theorem takeProof_touches (p : Port) (nb proof : Block) : Touches [.counts, .store, .feeds, .admission, .barred] s (takeProof p nb proof s) := by
  unfold takeProof
  split
  · exact unexpected_touches s p _
  · split
    · exact (admitPort_touches s p _ nb).mono (by decide)
    · exact failExchange_touches s p

theorem releaseRelay_touches (p : Port) : Touches [] s (releaseRelay p s) := by
  unfold releaseRelay
  split
  · split
    · exact .refl _ s
    · next hr => exact (modPort_touches s p rfl (by rw [hr]; exact Nat.le_succ _)).then (sendStation_touches _ p _) (by decide)
  · exact .refl _ s

theorem takeReport_touches (p : Port) (b : Byte) : Touches [.feeds] s (takeReport p b s) := by
  have told (p : Port) (old : Option Status) (new : Status) (s : Part) : Touches [.feeds] s (tellStatus p old new s) := by
    unfold tellStatus
    split
    · exact robotUnready_touches s p
    · exact .refl _ s
  have noted : Touches [.feeds] s (modPort p (fun r => { r with status := some (statusOf b) }) s) :=
    (modPort_touches s p rfl le_rfl).mono (by decide)
  exact (noted.trans (told p _ _ _)).then (releaseRelay_touches _ p) (by decide)

/-- R98: a message joins a relay queue. -/
theorem relayJoined_touches (p : Port) (data : List Byte) :
    Touches [.relay] s (modPort p (fun r => { r with relay := r.relay ++ [data] }) s) := by
  have admission (q : Port) :
      (modPort p (fun r => { r with relay := r.relay ++ [data] }) s).ports[q].admission = s.ports[q].admission := by
    rw [modPort_ports, upd_get]
    split
    · next e => subst e; rfl
    · rfl
  exact { Touches.refl _ _ with
    relay := fun hv => absurd (by decide) hv
    admission := fun _ => admission
    barred := fun _ q => by rw [admission] }

theorem relayTo_touches (h : Nat) (data : List Byte) (p : Port) : Touches [.relay] s (relayTo h data p s) :=
  check_touches s h _ fun _ => check_touches s h _ fun _ => (relayJoined_touches s p data).then (reply_touches _ h .done) (by decide)

theorem parkPort_touches (p : Port) (why : LeaveCause) (admitted : s.ports[p].admission = .admitted) :
    Touches [.feeds, .admission] s (parkPort p why s) := by
  have told := (sendStation_touches s p .park).trans
    (modPort_touches (sendStation p .park s) p (f := fun r => { r with parked := true }) rfl le_rfl)
  have free := (told.admission (by decide) p).trans admitted
  exact (told.mono (by decide)).trans (leaveAdmitted_touches_free _ p why (by decide) (by rw [free]; decide))

theorem parkRequest_touches (h : Nat) (p : Port) : Touches [.feeds, .admission] s (parkRequest h p s) :=
  check_touches s h _ fun admitted => check_touches s h _ fun _ =>
    (parkPort_touches s p _ (eq_of_beq admitted)).then (reply_touches _ h .done) (by decide)

theorem wakePort_touches (p : Port) : Touches [.admission] s (wakePort p s) :=
  modPort_touches_admission s p (by
    dsimp only
    split
    · next parked => simp [-Fin.getElem_fin, parked]
    · exact Iff.rfl) le_rfl

theorem isolatePort_touches (p : Port) : Touches [.feeds, .admission] s (isolatePort p s) := by
  have told : Touches [.feeds, .admission] s (sendStation p .isolate (modPort p (fun r => { r with parked := false }) s)) :=
    ((modPort_touches s p rfl le_rfl).then (sendStation_touches _ p _) (by decide)).mono (by decide)
  have set (s : Part) (free : s.ports[p].admission ≠ .barred) : Touches [.feeds, .admission] s (setAdmission p .listening s) :=
    (setAdmission_touches_free s p (by decide) free).mono (by decide)
  unfold isolatePort
  dsimp only
  generalize sendStation p .isolate (modPort p (fun r => { r with parked := false }) s) = t at *
  split
  · next a => exact told.trans (leaveAdmitted_touches_free t p _ (by decide) (by rw [a]; decide))
  · next a => exact (told.then (endContext_touches t p) (by decide)).trans (set (endContext p t) (ne_of_eq_of_ne a (by decide)))
  · next a => exact (told.then (endContext_touches t p) (by decide)).trans (set (endContext p t) (ne_of_eq_of_ne a (by decide)))
  · next a => exact told.trans (set t (by rw [a]; decide))
  · exact told

/-- R104: the ports as a restart leaves them, their proof contexts ended. -/
theorem restartedPorts_touches (t : Timer) : Touches [.admission] s { s with
    ports := each s.ports fun p r => r.restarted s.nvs.ports[p] t, prv.contexts := Vector.replicate 12 none } where
  __ := Touches.refl _ _
  admission hv := absurd (by decide) hv
  barred _ q := by
    rw [each_get]
    unfold PortRec.restarted
    dsimp only
    split
    · next barred => exact iff_of_true rfl barred
    · next free => exact iff_of_false (by decide) free
  relay _ q := by simp [PortRec.restarted]
  contexts _ q hq := by simp at hq

theorem restartSpx_touches : Touches [.feeds, .admission] s (restartSpx s) :=
  ((restartedPorts_touches s _).mono (by decide)).trans
    (forEach_touches (fun p s => (portLeft_touches s p).mono (by decide)) _ _)

theorem quietPort_touches (p : Port) : Touches [.feeds, .admission] s (quietPort p s) := by
  unfold quietPort
  split
  · next admitted => exact parkPort_touches s p _ admitted
  · next a =>
    exact ((endContext_touches s p).mono (by decide)).then
      (setAdmission_touches_free (endContext p s) p (by decide) (ne_of_eq_of_ne a (by decide))) (by decide)
  · exact .refl _ s

/-- The link timers changed. -/
theorem linkTimers_touches (g : Timer → Timer) :
    Touches [] s { s with ports := each s.ports fun _ r => { r with linkTimer := g r.linkTimer } } where
  __ := Touches.refl _ _
  admission _ q := by simp
  barred _ q := by simp
  relay _ q := by simp

/-! ### SVA's operations -/

theorem denyBadge_touches : Touches [.counts, .store, .reader] s (denyBadge s) := by
  have ended : Touches [.counts, .store, .reader] s { s with sva.reader := .ready, prv.readerContext := none } :=
    { Touches.refl _ _ with reader := fun hv => absurd (by decide) hv }
  exact (ended.then (sendReader_touches _ _) (by decide)).trans (countFailure_touches _ .reader)

theorem challengeBadge_touches (r : BadgeRec) : Touches [.reader] s (challengeBadge r s) := by
  have begun : Touches [.reader] s { s with
      sva.reader := .challenging r.badge r.role
      prv.readerContext := some ⟨s.nonce, s.prv.keys[r.slot], r.badge, s.timer Config.proofTime⟩
      prv.draws := s.prv.draws + 1 } := { Touches.refl _ _ with reader := fun hv => absurd (by decide) hv }
  exact begun.then (sendReader_touches _ _) (by decide)

theorem presentReady_touches (badge : Word) : Touches [.counts, .store, .reader] s (presentReady badge s) := by
  unfold presentReady
  split
  · exact (sendReader_touches s _).mono (by decide)
  · split
    · exact (sendReader_touches s _).mono (by decide)
    · split
      · exact denyBadge_touches s
      · exact (challengeBadge_touches s _).mono (by decide)

theorem takePresent_touches (badge : Word) : Touches [.counts, .store, .reader] s (takePresent badge s) := by
  have woken : Touches [.counts, .store, .reader] s (wakeUp .reader s) := (wakeUp_touches s _).mono (by decide)
  unfold takePresent servePresent
  split
  · split
    · exact woken.trans (presentReady_touches _ badge)
    · exact woken.trans (denyBadge_touches _)
    · exact woken.then (sendReader_touches _ _) (by decide)
  · exact .refl _ s

theorem openSession_touches (badge : Word) (role : BadgeRole) (proof : Block) :
    Touches [.counts, .store, .reader, .sessions] s (openSession badge role proof s) := by
  let n := s.sva.newSession
  let x : Session := ⟨n, badge, role, s.mtu.hall, s.timer (s.sva.timeout * Config.minute)⟩
  have opened : Touches [.counts, .store, .reader, .sessions] s { s with
      sva.sessions := s.sva.sessions ++ [x], sva.lastSession := n, sva.reader := .ready, prv.readerContext := none } :=
    { Touches.refl _ _ with
      reader := fun hv => absurd (by decide) hv, sessions := fun hv => absurd (by decide) hv }
  exact ((opened.then (sendReader_touches _ _) (by decide)).then (setCount_touches _ .reader 0) (by decide)).then (raise_touches _ _) (by decide)

theorem takeReaderProof_touches (nb proof : Block) : Touches [.counts, .store, .reader, .sessions] s (takeReaderProof nb proof s) := by
  have woken : Touches [.counts, .store, .reader, .sessions] s (wakeUp .reader s) := (wakeUp_touches s _).mono (by decide)
  have ended (s : Part) : Touches [.counts, .store, .reader, .sessions] s { s with sva.reader := .ready } :=
    { Touches.refl _ _ with reader := fun hv => absurd (by decide) hv }
  unfold takeReaderProof badgeProof
  split
  · split
    · split
      · exact (woken.trans (ended _)).then (sendReader_touches _ _) (by decide)
      · split
        · exact woken.trans (openSession_touches _ _ _ _)
        · exact woken.then (denyBadge_touches _) (by decide)
    · exact (sendReader_touches s _).mono (by decide)
  · exact .refl _ s

theorem readerProofExpiry_touches : Touches [.counts, .store, .reader] s (readerProofExpiry s) := by
  unfold readerProofExpiry
  split
  · exact .refl _ s
  · split
    · exact denyBadge_touches s
    · exact .refl _ s

theorem closeSession_touches (x : Session) (idle : Bool) : Touches [] s (closeSession x idle s) := by
  have closed : Touches [] s { s with sva.sessions := s.sva.sessions.filter (·.num != x.num) } :=
    { Touches.refl _ _ with sessions := fun _ => List.filter_sublist.map _ }
  exact closed.then (raise_touches _ _) (by decide)

theorem idleExpiry_touches (num : Byte) : Touches [] s (idleExpiry num s) := by
  unfold idleExpiry
  split
  · exact .refl _ s
  · split
    · exact closeSession_touches s _ _
    · exact .refl _ s

/-- The holds of a port changed. -/
theorem holders_touches (h : Vector (List Hold) 12) : Touches [.holders] s { s with sva.holders := h } where
  __ := Touches.refl _ _
  holders hv := absurd (by decide) hv

/-- R134: the robot and its port isolated. -/
theorem isolated_touches (p : Port) : Touches [.feeds, .admission] s (isolateRobot p (isolatePort p s)) :=
  (isolatePort_touches s p).then (isolateRobot_touches _ p) (by decide)

/-- R134: a placed hold's job is queued, and its request waits. -/
theorem awaitsHold_touches (h : Nat) (p : Port) (x : Session) (placed : Stamp) (room : s.nvs.hasRoom = true) :
    Touches [.store, .holds] s (s.awaitsHold h p x placed) :=
  ((queueJob_touches_holds s rfl room).mono (by decide)).trans { Touches.refl _ _ with }

theorem placeHold_touches (h : Nat) (x : Session) (p : Port) (room : s.nvs.hasRoom = true) :
    Touches [.holders, .feeds, .admission, .store, .holds] s (placeHold h x p s) := by
  have added := holders_touches s (upd s.sva.holders p (· ++ [⟨x.badge, x.num, s.mtu.hall, false, false⟩]))
  rw [placeHold_eq]
  split
  · have isolated := isolated_touches (addHold p ⟨x.badge, x.num, s.mtu.hall, false, false⟩ s) p
    have kept := isolated.store (by decide)
    exact ((added.mono (by decide)).then isolated (by decide)).then (awaitsHold_touches _ h p x _ (by rw [kept]; exact room)) (by decide)
  · exact (added.mono (by decide)).then (awaitsHold_touches _ h p x _ room) (by decide)

theorem lockoutPort_touches (h : Nat) (x : Session) (p : Port) :
    Touches [.holders, .feeds, .admission, .store, .holds] s (lockoutPort h x p s) :=
  check_touches s h _ fun _ => check_touches s h _ fun _ => check_touches s h _ fun room => placeHold_touches s h x p room

theorem modHold_touches (p : Port) (badge : Word) (f : Hold → Hold) : Touches [.holders] s (modHold p badge f s) :=
  holders_touches s _

theorem startRelease_touches (h : Nat) (p : Port) (badge : Word) (room : s.nvs.hasRoom = true) :
    Touches [.holders, .store, .holds] s (startRelease h p badge s) :=
  ((modHold_touches s p badge _).mono (by decide)).then (queueJob_touches_holds _ rfl room) (by decide)

theorem releaseHold_touches (h : Nat) (badge : Word) (p : Port) :
    Touches [.holders, .store, .holds] s (releaseHold h badge p s) := by
  unfold releaseHold
  split
  · exact (reply_touches s h _).mono (by decide)
  · exact check_touches s h _ fun _ => check_touches s h _ fun room => startRelease_touches s h p badge room

theorem signOffPort_touches (h : Nat) (x : Session) (p : Port) : Touches [.store] s (signOffPort h x p s) :=
  check_touches s h _ fun _ => check_touches s h _ fun _ => queueOrFull_touches s h rfl rfl

theorem unbarRequest_touches (h : Nat) (w : Subject) : Touches [.store] s (unbarRequest h w s) :=
  check_touches s h _ fun room => queueLift_touches s w h room

theorem restartSva_touches : Touches [.reader] s (restartSva s) where
  __ := Touches.refl _ _
  reader hv := absurd (by decide) hv
  sessions _ := List.nil_sublist _

/-! ### MTU's operations -/

theorem tick_touches : Touches [] s (tick s) := by
  unfold tick
  split
  · exact .refl _ s
  · exact { Touches.refl _ _ with }

theorem secondBoundary_touches : Touches [] s (secondBoundary s) := by
  have counted (s : Part) : Touches [] s (countSeconds s) := forEach_touches (fun p s => meterInc_touches s (meterB p)) _ s
  unfold secondBoundary
  dsimp only
  split
  · split
    · exact Touches.after (counted _) { Touches.refl _ _ with } (by decide)
    · exact { Touches.refl _ _ with }
  · exact .refl _ s

theorem addToMeter_touches (h : Nat) (amount : Word) (m : Meter) : Touches [] s (addToMeter h amount m s) := by
  have set (v : Vector MeterRec 28) : Touches [] s { s with mtu.meters := v } := { Touches.refl _ _ with }
  unfold addToMeter
  dsimp only
  split
  · exact reply_touches s h _
  · split
    · exact reply_touches s h _
    · split
      · exact ((set _).trans (raise_touches _ _)).trans (reply_touches _ h _)
      · exact ((set _).trans (evalMeter_touches _ m)).trans (reply_touches _ h _)

theorem checkpointExpiry_touches : Touches [.store] s (checkpointExpiry s) := by
  unfold checkpointExpiry
  split
  · exact Touches.after (askCheckpoint_touches _) { Touches.refl _ _ with } (by decide)
  · exact .refl _ s

theorem zeroUptime_touches : Touches [.trk, .feeds] s (zeroUptime s) where
  __ := Touches.refl _ _
  trk hv := absurd (by decide) hv
  feeds hv := absurd (by decide) hv
  places _ := (feedTimers_shrinks s.fco s.rebased).1
  needs _ := feedTimers_shrinks s.fco s.rebased
  admission _ q := by simp [zeroUptime]
  barred _ q := by simp [zeroUptime]
  relay _ q := by simp [zeroUptime]
  contexts _ q hq := by simpa [zeroUptime] using hq
  sessions _ := (map_sessions_touches s (g := fun x => { x with idle := s.rebased x.idle })
    (fun _ => rfl) (fun _ => rfl)).sessions (by decide)

theorem restartMtu_touches : Touches [.trk, .feeds] s (restartMtu s) := by
  have set (t : Part) (cfg : Vector MeterCfg 12) (period : Nat) : Touches [.trk, .feeds] t
    (startCheckpointTimer { t with mtu.cfg := cfg, mtu.checkpointPeriod := period }) := { Touches.refl _ _ with }
  exact ((zeroUptime_touches s).trans (set _ _ _)).then (evalServiceAfresh_touches _) (by decide)

/-! ### NVS's operations -/

theorem serveSettingRead_touches (payload : List Byte) (h : Nat) : Touches [] s (serveSettingRead payload h s) := by
  unfold serveSettingRead
  split
  · exact orBadValue_touches s h fun _ _ => replyWith_touches s h _
  · exact replyWith_touches s h _
  · exact reply_touches s h _

theorem writeUnit_touches (h : Nat) (r : UnitRef) (unit : List Byte) : Touches [.store, .lines] s (writeUnit h r unit s) :=
  orBadValue_touches s h fun _ _ => check_touches s h _ fun _ => check_touches s h _ fun room =>
    (queueJob_touches_lines s rfl room).mono (by decide)

theorem serveSettingWrite_touches (payload : List Byte) (h : Nat) :
    Touches [.store, .lines] s (serveSettingWrite payload h s) := by
  unfold serveSettingWrite
  dsimp only
  split
  · exact orBadValue_touches s h fun r _ => check_touches s h _ fun _ => writeUnit_touches s h r _
  · exact withSession_touches s h _ _ fun _ s => orBadValue_touches s h fun r _ => writeUnit_touches s h r _

theorem lockTarget_touches (h : Nat) (t : LockTarget) : Touches [.store] s (lockTarget h t s) := by
  unfold lockTarget
  split
  · exact (reply_touches s h _).mono (by decide)
  · exact check_touches s h _ fun _ => queueOrFull_touches s h rfl rfl

theorem serveSectionLock_touches (payload : List Byte) (h : Nat) : Touches [.store] s (serveSectionLock payload h s) :=
  withSession_touches s h _ _ fun _ s => orBadValue_touches s h fun t _ => lockTarget_touches s h t

theorem freezeLocks_touches (h : Nat) : Touches [.store] s (freezeLocks h s) := by
  unfold freezeLocks
  split
  · exact (reply_touches s h _).mono (by decide)
  · exact check_touches s h _ fun _ => queueOrFull_touches s h rfl rfl

theorem setBoundary_touches (h v : Nat) : Touches [.store] s (setBoundary h v s) :=
  check_touches s h _ fun _ => check_touches s h _ fun _ => queueOrFull_touches s h rfl rfl

end

/-! ### The start of a store job -/

/-- The job chosen leaves its place, and no other does. -/
theorem arbiterChoice_perm {q : List Job} {j : Job} (h : arbiterChoice q = some j) : (j :: withoutChoice q).Perm q := by
  unfold arbiterChoice at h
  unfold withoutChoice
  cases hf : q.find? (·.isHold) with
  | some k =>
    rw [hf] at h
    obtain rfl : k = j := by simpa using h
    obtain ⟨hold, a, b, rfl, before⟩ := List.find?_eq_some_iff_append.mp hf
    have any : (a ++ k :: b).any (·.isHold) = true := List.any_eq_true.mpr ⟨k, by simp, hold⟩
    rw [if_pos any, List.eraseP_append_right _ (fun x hx => by simpa using before x hx), List.eraseP_cons_of_pos hold]
    exact List.perm_middle.symm
  | none =>
    rw [hf] at h
    have none : ¬ q.any (·.isHold) = true := by simpa using hf
    rw [if_neg none]
    cases q with
    | nil => simp at h
    | cons k q =>
      obtain rfl : k = j := by simpa using h
      exact .refl _

section
variable {s t : Part}

/-- What is left to say of an operation on the store's jobs. -/
theorem Touches.keepsJobs (h : Touches [.store, .lines, .holds] s t) (hl : t.nvs.line = s.nvs.line ∧ t.nvs.lines ⊆ s.nvs.lines)
    (hh : t.nvs.holds = s.nvs.holds ∧ t.nvs.holdBodies.Subperm s.nvs.holdBodies) : Touches [.store] s t where
  hlc _ := h.hlc (by decide)
  names _ := h.names (by decide)
  supply _ := h.supply (by decide)
  trk _ := h.trk (by decide)
  feeds _ := h.feeds (by decide)
  places _ := h.places (by decide)
  needs _ := h.needs (by decide)
  admission _ := h.admission (by decide)
  barred _ := h.barred (by decide)
  relay _ := h.relay (by decide)
  contexts _ := h.contexts (by decide)
  counts _ := h.counts (by decide)
  reader _ := h.reader (by decide)
  sessions _ := h.sessions (by decide)
  holders _ := h.holders (by decide)
  store hv := absurd (by decide) hv
  queue _ := h.queue (by decide)
  lines _ := hl
  holds _ := hh

/-- Jobs that leave the queue. -/
theorem shorterQueue_touches {q : List Job} (hq : q.Subperm s.nvs.queue) : Touches [.store] s { s with nvs.queue := q } where
  __ := Touches.refl _ _
  store hv := absurd (by decide) hv
  queue _ hs := hq.length_le.trans hs
  lines _ := by
    refine ⟨rfl, List.filterMap_subset _ fun j hj => ?_⟩
    rcases List.mem_append.mp hj with hj | hj
    · exact List.mem_append_left _ hj
    · exact List.mem_append_right _ (hq.subset hj)
  holds _ := by
    obtain ⟨l, perm, sub⟩ := hq
    refine ⟨rfl, ?_⟩
    unfold Nvs.holdBodies Nvs.jobs
    rw [List.filterMap_append, List.filterMap_append]
    exact List.Subperm.append (.refl _) ⟨_, perm.filterMap _, sub.filterMap _⟩

/-- The job chosen goes into flight, with what it writes. -/
theorem chosen_touches {u : Part} {j j' : Job} (idle : s.nvs.inFlight = none) (chosen : arbiterChoice s.nvs.queue = some j)
    (kept : Touches [.store] { s with nvs.queue := withoutChoice s.nvs.queue } u) (hu : u.nvs.inFlight = none)
    (hl : j'.line? = j.line?) (hh : j'.holdBody? = j.holdBody?) : Touches [.store] s (setInFlight j' u) := by
  have perm := arbiterChoice_perm chosen
  have dropped : Touches [.store] s { s with nvs.queue := withoutChoice s.nvs.queue } :=
    shorterQueue_touches ((List.sublist_cons_self j _).subperm.trans perm.subperm)
  have flies : Touches [.store, .lines, .holds] u (setInFlight j' u) :=
    { Touches.refl _ _ with
      store := fun hv => absurd (by decide) hv, lines := fun hv => absurd (by decide) hv
      holds := fun hv => absurd (by decide) hv }
  have jobs : (setInFlight j' u).nvs.jobs = j' :: u.nvs.jobs := by simp [setInFlight, Nvs.jobs, hu]
  have old : s.nvs.jobs = s.nvs.queue := by simp [Nvs.jobs, idle]
  have waiting : ({ s with nvs.queue := withoutChoice s.nvs.queue } : Part).nvs.jobs = withoutChoice s.nvs.queue := by
    simp [Nvs.jobs, idle]
  obtain ⟨line, lines⟩ := kept.lines (by decide)
  obtain ⟨holds, bodies⟩ := kept.holds (by decide)
  refine Touches.keepsJobs (((dropped.trans kept).mono (by decide)).trans flies) ⟨line, ?_⟩ ⟨holds, ?_⟩
  · have all : (j :: withoutChoice s.nvs.queue).filterMap Job.line? ⊆ s.nvs.lines := by
      unfold Nvs.lines
      rw [old]
      exact (perm.filterMap _).subset
    refine List.Subset.trans ?_ all
    unfold Nvs.lines at lines ⊢
    rw [waiting] at lines
    rw [jobs, List.filterMap_cons, List.filterMap_cons, hl]
    cases j.line? with
    | none => exact lines
    | some g => exact List.cons_subset_cons g lines
  · have all : ((j :: withoutChoice s.nvs.queue).filterMap Job.holdBody?).Perm s.nvs.holdBodies := by
      unfold Nvs.holdBodies
      rw [old]
      exact perm.filterMap _
    refine all.subperm_left.mp ?_
    unfold Nvs.holdBodies at bodies ⊢
    rw [waiting] at bodies
    rw [jobs, List.filterMap_cons, List.filterMap_cons, hh]
    cases j.holdBody? with
    | none => exact bodies
    | some b => exact (List.subperm_cons b).mpr bodies

theorem convertDeferred_inFlight (s : Part) : (convertDeferred s).nvs.inFlight = s.nvs.inFlight := by
  unfold convertDeferred
  split
  · rfl
  · split <;> rfl

theorem startChosen_touches (idle : s.nvs.inFlight = none) : Touches [.store] s (startChosen s) := by
  unfold startChosen
  split
  · exact .refl _ s
  · next j chosen =>
    have perm := arbiterChoice_perm chosen
    have dropped : Touches [.store] s { s with nvs.queue := withoutChoice s.nvs.queue } :=
      shorterQueue_touches ((List.sublist_cons_self j _).subperm.trans perm.subperm)
    have kept := convertDeferred_touches { s with nvs.queue := withoutChoice s.nvs.queue }
    have hu := (convertDeferred_inFlight { s with nvs.queue := withoutChoice s.nvs.queue }).trans idle
    generalize convertDeferred { s with nvs.queue := withoutChoice s.nvs.queue } = u at kept hu
    have replied (c : Code) : Touches [.store] s (replyAll j.origin c u) := (dropped.trans kept).then (replyAll_touches u _ c) (by decide)
    have flies : Touches [.store] s (setInFlight j u) := chosen_touches idle chosen kept hu rfl rfl
    unfold beginJob
    split
    · split
      · exact replied _
      · split
        · exact replied _
        · exact flies
    · split
      · exact replied _
      · exact flies
    · next b save body => exact chosen_touches idle chosen kept hu (by simp [Job.line?, body]) (by simp [Job.holdBody?, body])
    · exact flies

theorem startJob_touches (s : Part) : Touches [.store] s (startJob s) := by
  unfold startJob
  split
  · exact .refl _ s
  · next idle =>
    have idle : s.nvs.inFlight = none := by simpa using idle
    split
    · exact { Touches.refl _ _ with
        store := fun hv => absurd (by decide) hv
        lines := fun _ => ⟨rfl, by simp [Nvs.lines, Nvs.jobs, beginSaveCheckpoint, idle, List.filterMap_cons, Job.line?]⟩
        holds := fun _ => ⟨rfl, by simp [Nvs.holdBodies, Nvs.jobs, beginSaveCheckpoint, idle, List.filterMap_cons,
          Job.holdBody?, List.Subperm.refl]⟩ }
    · split
      · exact startChosen_touches idle
      · exact .refl _ s

/-! ### The end of a store job -/

theorem jobEnded_touches (s : Part) : Touches [.store] s s.jobEnded where
  __ := Touches.refl _ _
  store hv := absurd (by decide) hv
  lines _ := ⟨rfl, List.filterMap_subset _ (List.subset_append_right _ _)⟩
  holds _ := ⟨rfl, ((List.sublist_append_right _ _).filterMap _).subperm⟩

/-- What the end of a job writes leaves the store's jobs, and for most kinds the LINE content and the stored holds. -/
theorem commit_touches (s : Part) {b : JobBody} (hl : (s.nvs.commit b).line = s.nvs.line)
    (hh : (s.nvs.commit b).holds = s.nvs.holds) (hq : (s.nvs.commit b).queue = s.nvs.queue)
    (hf : (s.nvs.commit b).inFlight = s.nvs.inFlight) : Touches [.store] s { s with nvs := s.nvs.commit b } where
  __ := Touches.refl _ _
  store hv := absurd (by decide) hv
  queue _ := by rw [hq]; exact id
  lines _ := ⟨hl, by simp [Nvs.lines, Nvs.jobs, hq, hf]⟩
  holds _ := ⟨hh, by simp [Nvs.holdBodies, Nvs.jobs, hq, hf, List.Subperm.refl]⟩

theorem commit_queue (n : Nvs) (b : JobBody) : (n.commit b).queue = n.queue := by
  cases b with
  | setting c => cases c <;> rfl
  | lock t => cases t <;> rfl
  | failcount w _ _ _ => cases w <;> rfl
  | checkpoint m _ => cases m <;> rfl
  | _ => rfl

theorem commit_inFlight (n : Nvs) (b : JobBody) : (n.commit b).inFlight = n.inFlight := by
  cases b with
  | setting c => cases c <;> rfl
  | lock t => cases t <;> rfl
  | failcount w _ _ _ => cases w <;> rfl
  | checkpoint m _ => cases m <;> rfl
  | _ => rfl

theorem commit_line (n : Nvs) {b : JobBody} (h : ∀ g, b ≠ .setting (.line g)) : (n.commit b).line = n.line := by
  cases b with
  | setting c =>
    cases c with
    | line g => exact absurd rfl (h g)
    | _ => rfl
  | lock t => cases t <;> rfl
  | failcount w _ _ _ => cases w <;> rfl
  | checkpoint m _ => cases m <;> rfl
  | _ => rfl

theorem commit_holds (n : Nvs) {b : JobBody} (ha : ∀ h, b ≠ .holdAdd h) (hr : ∀ p k, b ≠ .holdRemove p k) :
    (n.commit b).holds = n.holds := by
  cases b with
  | setting c => cases c <;> rfl
  | lock t => cases t <;> rfl
  | holdAdd h => exact absurd rfl (ha h)
  | holdRemove p k => exact absurd rfl (hr p k)
  | failcount w _ _ _ => cases w <;> rfl
  | checkpoint m _ => cases m <;> rfl
  | _ => rfl

/-- The end of a job that is not of a LINE section and no hold job. -/
theorem endJob_touches {α : Type} {V : List View} {pick : JobBody → Option α} (written : Bool)
    {ok bad : α → List Nat → Part → Part} (s : Part) (hl : ∀ g, pick (.setting (.line g)) = none)
    (ha : ∀ h, pick (.holdAdd h) = none) (hr : ∀ p k, pick (.holdRemove p k) = none)
    (hok : ∀ a o s, Touches V s (ok a o s)) (hbad : ∀ a o s, Touches V s (bad a o s)) (hv : [.store] ⊆ V) :
    Touches V s (endJob pick written ok bad s) := by
  unfold endJob
  split
  · exact .refl V s
  · next j _ =>
    split
    · exact .refl V s
    · next a picked =>
      have other {b : JobBody} (h : pick b = none) : j.body ≠ b := fun e => by rw [e, h] at picked; cases picked
      have ended : Touches V s s.jobEnded := (jobEnded_touches s).mono hv
      split
      · dsimp only
        split
        · have wrote : Touches V s.jobEnded { s.jobEnded with nvs := s.jobEnded.nvs.commit j.body } :=
            (commit_touches s.jobEnded (commit_line _ fun g => other (hl g))
              (commit_holds _ (fun h => other (ha h)) (fun p k => other (hr p k))) (commit_queue _ _) (commit_inFlight _ _)).mono hv
          exact (ended.trans wrote).trans (hok a _ _)
        · exact (ended.trans ((raise_touches _ _).mono (List.nil_subset V))).trans (hbad a _ _)
      · exact .refl V s

section
variable (s : Part)

theorem replyDone_touches {α : Type} (a : α) (o : List Nat) : Touches [] s (replyDone a o s) := replyAll_touches s o .done

theorem replyFault_touches {α : Type} (a : α) (o : List Nat) : Touches [] s (replyFault a o s) := replyAll_touches s o .storeFault

theorem loadLimits_touches : Touches [.counts, .feeds, .admission, .barred, .reader] s (loadLimits s) := by
  have loaded : Touches [.counts, .feeds, .admission, .barred, .reader] s
    { s with sva.timeout := s.nvs.limits.sessionTimeout, mtu.checkpointPeriod := s.nvs.limits.checkpointPeriod } := { Touches.refl _ _ with }
  exact (loaded.then (loadAttemptLimits_touches _) (by decide)).then (evalAll_touches _) (by decide)

theorem tellUser_touches (c : Setting) : Touches [.trk, .counts, .feeds, .admission, .barred, .reader] s (tellUser c s) := by
  cases c with
  | line g => exact { Touches.refl _ _ with trk := fun hv => absurd (by decide) hv }
  | meter p c => exact Touches.after (evalService_touches _ p) { Touches.refl _ _ with } (by decide)
  | badge i c => exact { Touches.refl _ _ with }
  | key k c => exact { Touches.refl _ _ with }
  | limits c => exact (loadLimits_touches s).mono (by decide)
  | _ => exact .refl _ s

theorem settingJobEnd_touches (written : Bool) : Touches [.trk, .counts, .store, .feeds, .admission, .barred, .reader, .lines] s
    (endJob JobBody.setting? written (fun c o s => replyAll o .done (tellUser c s)) replyFault s) := by
  unfold endJob
  split
  · exact .refl _ s
  · next j _ =>
    split
    · exact .refl _ s
    · next c picked =>
      have body : j.body = .setting c := by
        unfold JobBody.setting? at picked
        split at picked
        · next h => rw [h, Option.some.inj picked]
        · cases picked
      have ended : Touches [.trk, .counts, .store, .feeds, .admission, .barred, .reader, .lines] s s.jobEnded :=
        (jobEnded_touches s).mono (by decide)
      have wrote : Touches [.store, .lines] s.jobEnded { s.jobEnded with nvs := s.jobEnded.nvs.commit j.body } := { Touches.refl _ _ with
        store := fun hv => absurd (by decide) hv
        queue := fun _ => by rw [commit_queue]; exact id
        lines := fun hv => absurd (by decide) hv
        holds := fun _ => ⟨commit_holds _ (by simp [body]) (by simp [body]), by
          simp [Nvs.holdBodies, Nvs.jobs, commit_queue, commit_inFlight, List.Subperm.refl]⟩ }
      split
      · dsimp only
        split
        · exact ((ended.then wrote (by decide)).then (tellUser_touches _ c) (by decide)).then (replyAll_touches _ _ _) (by decide)
        · exact (ended.then (raise_touches _ _) (by decide)).then (replyFault_touches _ c _) (by decide)
      · exact .refl _ s

/-- The end of a hold job, as far as its effects on the holds themselves. -/
theorem holdJobEnd_touches {α : Type} {pick : JobBody → Option α} (written : Bool) {ok bad : α → List Nat → Part → Part}
    (hs : ∀ c, pick (.setting c) = none) (hok : ∀ a o s, Touches [.holders] s (ok a o s))
    (hbad : ∀ a o s, Touches [.holders] s (bad a o s)) : Touches [.holders, .store, .holds] s (endJob pick written ok bad s) := by
  unfold endJob
  split
  · exact .refl _ s
  · next j _ =>
    split
    · exact .refl _ s
    · next a picked =>
      have noLine : ∀ g, j.body ≠ .setting (.line g) := fun g e => by rw [e, hs] at picked; cases picked
      have ended : Touches [.holders, .store, .holds] s s.jobEnded := (jobEnded_touches s).mono (by decide)
      have wrote : Touches [.store, .holds] s.jobEnded { s.jobEnded with nvs := s.jobEnded.nvs.commit j.body } := { Touches.refl _ _ with
        store := fun hv => absurd (by decide) hv
        queue := fun _ => by rw [commit_queue]; exact id
        lines := fun _ => ⟨commit_line _ noLine, by simp [Nvs.lines, Nvs.jobs, commit_queue, commit_inFlight]⟩
        holds := fun hv => absurd (by decide) hv }
      split
      · dsimp only
        split
        · exact (ended.then wrote (by decide)).then (hok a _ _) (by decide)
        · exact (ended.then (raise_touches _ _) (by decide)).then (hbad a _ _) (by decide)
      · exact .refl _ s

theorem holdAdded_touches (h : StoredHold) (o : List Nat) : Touches [.holders] s (holdAdded h o s) := by
  have dropped (s : Part) : Touches [.holders] s (dropLockouts o s) := { Touches.refl _ _ with }
  unfold holdAdded
  dsimp only
  split
  · exact ((modHold_touches s _ _ _).trans (dropped _)).then (replyAll_touches _ o _) (by decide)
  · exact modHold_touches s _ _ _

theorem holdRemoved_touches (k : Port × Word) (o : List Nat) : Touches [.holders] s (holdRemoved k o s) := by
  have removed (l : List Lockout) : Touches [.holders] s
      { s with sva.holders := upd s.sva.holders k.1 fun l => l.filter (·.badge != k.2), sva.lockouts := l } :=
    { Touches.refl _ _ with holders := fun hv => absurd (by decide) hv }
  exact ((removed _).then (replyAll_touches _ o _) (by decide)).then (forEach_touches (fun (x : Lockout) s => reply_touches s x.request _) _ _) (by decide)

theorem thresholdSet_touches (k : Port × Word) (o : List Nat) : Touches [] s (thresholdSet k o s) := by
  have set : Touches [] s { s with mtu.cfg := upd s.mtu.cfg k.1 fun c => { c with threshold := k.2 } } := { Touches.refl _ _ with }
  exact (set.trans (evalService_touches _ k.1)).trans (replyAll_touches _ o _)

theorem failcountWritten_touches (k : Subject × Nat × Bool × Bool) (o : List Nat) :
    Touches [.counts, .feeds, .admission, .barred, .reader] s (failcountWritten k o s) := by
  have evaluated (s : Part) : Touches [.counts, .feeds, .admission, .barred, .reader] s (evalSubject k.1 s) :=
    (evalSubject_touches s k.1).mono (by cases k.1 <;> simp [Subject.views])
  have put : Touches [.counts, .feeds, .admission, .barred, .reader] s (if k.2.2.2 then s else putCount k.1 k.2.1 s) := by
    split
    · exact .refl _ s
    · exact (putCount_touches s _ _).mono (by decide)
  unfold failcountWritten
  split
  · exact (put.trans (evaluated _)).then (replyAll_touches _ o _) (by decide)
  · exact .refl _ s

theorem dropLinks_touches : Touches [] s (dropLinks s) := by
  unfold dropLinks startSaveHold
  dsimp only
  split <;> exact { Touches.refl _ _ with }

theorem checkpointDone_touches (save : Bool) (o : List Nat) : Touches [] s (checkpointDone save o s) := by
  unfold checkpointDone
  dsimp only
  split
  · exact Touches.after (dropLinks_touches _) { Touches.refl _ _ with } (by decide)
  · exact { Touches.refl _ _ with }

theorem checkpointFailed_touches (save : Bool) (o : List Nat) : Touches [] s (checkpointFailed save o s) := by
  unfold checkpointFailed
  split
  · exact dropLinks_touches s
  · exact .refl _ s

theorem restartNvs_touches : Touches [.store] s (restartNvs s) := by
  have kept : Touches [.store] s { s with nvs.queue := s.nvs.queue.filter fun j => !j.discarded } :=
    shorterQueue_touches List.filter_sublist.subperm
  exact (kept.then (forEach_touches (fun (j : Job) s => replyAll_touches s j.origin _) _ _) (by decide)).trans
    (forEach_touches (fun _ s => convertDeferred_touches s) _ _)

theorem saveNvs_touches : Touches [.store] s (saveNvs s) where
  __ := Touches.refl _ _
  store hv := absurd (by decide) hv
  queue _ _ := Nat.zero_le _
  lines _ := ⟨rfl, List.filterMap_subset _ (by simp [saveNvs, Nvs.jobs])⟩
  holds _ := ⟨rfl, (List.Sublist.filterMap _ (by simp [saveNvs, Nvs.jobs])).subperm⟩

end

end

end Sys2Proof.Machine
end

section
/-! What the operations of TRK, PSC and HLC leave alone, and with them what every command leaves alone. -/

namespace Sys2Proof.Machine

/-! ### TRK's operations -/

section
variable (s : Part)

/-- TRK changes, and nothing else. -/
theorem trk_touches (t : Trk) : Touches [.trk] s { s with trk := t } where
  __ := Touches.refl _ _
  trk hv := absurd (by decide) hv

theorem recordDecision_touches (r : Record) (c : Causes) : Touches [.trk] s (recordDecision r c s) :=
  (trk_touches s _).then (meterInc_touches _ _) (by decide)

theorem decideAtGate_touches (r : Record) : Touches [.trk] s (decideAtGate r s) := by
  have driven (d : Decision) (s : Part) : Touches [.trk] s (driveGate d s) := by
    cases d <;> exact trk_touches s _
  exact (recordDecision_touches s r _).trans (driven _ _)

theorem gateExpiry_touches : Touches [.trk] s (gateExpiry s) := by
  unfold gateExpiry
  split
  · exact trk_touches s _
  · exact .refl _ s

theorem takeVerdict_touches (p : Port) (c : Half) (result reason : Byte) :
    Touches [.trk] s (takeVerdict p c result reason s) := by
  have refused (w : Reason) (s : Part) : Touches [.trk] s (refuse p w verdictKind s) := (refuse_touches s p w _).mono (by decide)
  unfold takeVerdict
  dsimp only
  split
  · exact refused _ s
  · split
    · exact refused _ s
    · split
      · exact refused _ s
      · split
        · unfold verdictOnTrack
          split
          · exact refused _ s
          · split
            · exact refused _ s
            · exact (trk_touches s _).then (meterInc_touches _ _) (by decide)
        · split
          · next e _ =>
            have late (v : Verdict) : Touches [.trk] s (s.lateTaken p e.record.container v) :=
              ((trk_touches s _).trans (refused _ _)).then (raise_touches _ _) (by decide)
            by_cases dup : hasVerdict (e.record.verdicts ++ e.late) p = true
            · rw [verdictLate_duplicate dup]
              exact refused _ s
            · rw [verdictLate_taken (by simpa using dup)]
              dsimp only
              split
              · exact ((late _).then (meterInc_touches _ _) (by decide)).then (raise_touches _ _) (by decide)
              · exact late _
          · exact refused _ s

theorem serveTrackRead_touches (payload : List Byte) (h : Nat) : Touches [] s (serveTrackRead payload h s) := by
  unfold serveTrackRead
  split
  · exact check_touches s h _ fun _ => replyWith_touches s h _
  · unfold trackRecord
    split
    · exact reply_touches s h _
    · exact replyWith_touches s h _
  · exact reply_touches s h _

theorem fullRead_touches (h : Nat) (e : Option ExitEntry) : Touches [.trk] s (fullRead h e s) := by
  cases e with
  | none => exact (reply_touches s h _).mono (by decide)
  | some e => exact (trk_touches s _).then (replyWith_touches _ h _) (by decide)

theorem serveExitRead_touches (payload : List Byte) (h : Nat) : Touches [.trk] s (serveExitRead payload h s) := by
  unfold serveExitRead
  split
  · exact (replyWith_touches s h _).mono (by decide)
  · exact check_touches s h _ fun _ => fullRead_touches s h _
  · exact fullRead_touches s h _
  · exact fullRead_touches s h _
  · exact (reply_touches s h _).mono (by decide)

theorem loadGeometry_touches : Touches [.trk] s (loadGeometry s) := by
  unfold loadGeometry
  split
  · exact trk_touches s _
  · exact .refl _ s

theorem serveLineStart_touches (h : Nat) : Touches [.trk] s (serveLineStart h s) :=
  check_touches s h _ fun _ => ((loadGeometry_touches s).trans (trk_touches _ _)).then (reply_touches _ h _) (by decide)

theorem serveLineStop_touches (h : Nat) : Touches [.trk] s (serveLineStop h s) :=
  check_touches s h _ fun _ => (trk_touches s _).then (reply_touches _ h _) (by decide)

theorem countPulse_touches : Touches [.trk] s (countPulse s) := by
  unfold countPulse
  split
  · exact .refl _ s
  · split
    · split <;> exact trk_touches s _
    · split <;> exact trk_touches s _

theorem ignorePitch_touches : Touches [.trk] s (ignorePitch s) := by
  unfold ignorePitch
  split
  · exact (trk_touches s _).then (raise_touches _ _) (by decide)
  · exact .refl _ s

theorem ignoredPitch_touches : Touches [.trk] s (ignoredPitch s) := by
  unfold ignoredPitch
  split
  · split
    · exact (trk_touches s _).trans (ignorePitch_touches _)
    · split
      · exact (trk_touches s _).trans (ignorePitch_touches _)
      · exact .refl _ s
  · exact .refl _ s

theorem departWindows_touches : Touches [.trk] s (departWindows s) where
  __ := Touches.refl _ _
  trk hv := absurd (by decide) hv

theorem passGate_touches : Touches [.trk] s (passGate s) :=
  (trk_touches s _).trans (forEach_touches (fun r s => decideAtGate_touches s r) _ _)

theorem takePitch_touches (infeed : Bool) : Touches [.trk] s (takePitch infeed s) := by
  have entered (s : Part) : Touches [.trk] s (enterContainer s) := (trk_touches s _).then (meterInc_touches _ _) (by decide)
  have passed := ((trk_touches s { s.trk with pitch := s.trk.pitch + 1 }).trans (departWindows_touches _)).trans
    (passGate_touches _)
  unfold takePitch
  dsimp only
  split
  · exact passed.trans (entered _)
  · exact passed

theorem pitchEvent_touches (infeed : Bool) : Touches [.trk] s (pitchEvent infeed s) := by
  unfold pitchEvent
  split
  · split
    · exact (trk_touches s _).trans (takePitch_touches _ infeed)
    · split
      · exact (trk_touches s _).trans (takePitch_touches _ infeed)
      · exact .refl _ s
  · exact .refl _ s

theorem takeFillRequest_touches {V : List View} (m : FillRequest) {go : Part → Part} (hg : ∀ s, Touches V s (go s)) :
    Touches V s (takeFillRequest m go s) := by
  have taken : Touches V s { s with fco.toTrk := s.fco.toTrk.tail } := { Touches.refl _ _ with }
  unfold takeFillRequest
  split
  · exact taken.trans (hg _)
  · exact .refl _ s

theorem modRecord_touches (c : Half) (f : Record → Record) : Touches [.trk] s (modRecord c f s) := trk_touches s _

theorem takeReserve_touches (c : Half) (p : Port) (f : Feed) (doses : Nat) : Touches [.trk] s (takeReserve c p f doses s) := by
  unfold takeReserve
  dsimp only
  split
  · exact (modRecord_touches s c _).then (tellFco_touches _ _) (by decide)
  · exact (tellFco_touches s _).mono (by decide)

theorem restartTrk_touches : Touches [.trk] s (restartTrk s) := (trk_touches s _).trans (loadGeometry_touches _)

theorem saveTrk_touches : Touches [.trk] s (saveTrk s) := by
  have emptied : Touches [.trk] s { s with trk.gate := false, trk.gateTimer := none, trk.track := [] } := trk_touches s _
  exact emptied.trans (forEach_touches (fun r s => recordDecision_touches s r _) _ _)

/-! ### PSC's operations -/

theorem carryOut_touches (h : Nat) : Touches [.trk, .feeds] s (carryOut h s) := by
  have aborted := forEach_touches (fun (e : Entry) s => reply_touches s e.handle .aborted) (abortedEntries h s.hlc) s
  have emptied (s : Part) : Touches [] s (emptyNotices s) := { Touches.refl _ _ with
    hlc := fun _ hs => by
      obtain ⟨table, below, distinct, immediates, -, -, -⟩ := hs
      exact ⟨table, below, distinct, immediates, Nat.zero_le _, Nat.zero_le _, Nat.zero_le _⟩ }
  have noticed := (((aborted.trans (reply_touches _ h .done)).trans (emptied _)).trans (raise_touches _ (.restarted .request))).mono
    (List.nil_subset [.trk, .feeds])
  exact (noticed.trans (zeroUptime_touches _)).trans { Touches.refl _ _ with }

theorem restartCarryOut_touches : Touches [.trk, .feeds] s (restartCarryOut s) := by
  unfold restartCarryOut
  split
  · exact .refl _ s
  · split
    · exact carryOut_touches s _
    · exact .refl _ s

theorem serveQuiet_touches (h : Nat) (active : s.active = true) : Touches [.feeds, .admission] s (serveQuiet h s) := by
  have quiet : Touches [.feeds, .admission] s { s with psc.state := .quiet } := { Touches.refl _ _ with
    supply := fun _ => by
      rcases Bool.or_eq_true_iff.mp active with h | h <;> simp [eq_of_beq h] }
  exact check_touches s h _ fun _ =>
    (quiet.trans (forEach_touches (fun p s => quietPort_touches s p) _ _)).then (reply_touches _ h _) (by decide)

theorem serveWake_touches (h : Nat) : Touches [] s (serveWake h s) := (wakeUp_touches s _).trans (reply_touches _ h _)

theorem assertSupwarn_touches : Touches [] s (assertSupwarn s) := by
  unfold assertSupwarn
  split
  · exact .refl _ s
  · exact { Touches.refl _ _ with }

theorem deassertSupwarn_touches : Touches [] s (deassertSupwarn s) := by
  unfold deassertSupwarn
  dsimp only
  split
  · split <;> exact { Touches.refl _ _ with }
  · exact .refl _ s

theorem saveFco_touches : Touches [.feeds] s (saveFco s) := fco_touches s (feedTimers_shrinks s.fco _)

theorem savePrv_touches : Touches [] s (savePrv s) := (endContexts_touches s).trans { Touches.refl _ _ with }

theorem saveSva_touches : Touches [] s (saveSva s) :=
  map_sessions_touches s (g := fun x => { x with idle := none }) (fun _ => rfl) (fun _ => rfl)

/-- R195: the units at entry to SAVE. -/
theorem saveUnits_touches :
    Touches [.trk, .feeds, .store] s (saveNvs (saveMtu (saveSva (savePrv (saveSpx (saveFco (saveTrk s))))))) := by
  have mtu (s : Part) : Touches [] s (saveMtu s) := { Touches.refl _ _ with }
  have spx (s : Part) : Touches [] s (saveSpx s) := linkTimers_touches s fun _ => none
  have trk : Touches [.trk, .feeds, .store] s (saveTrk s) := (saveTrk_touches s).mono (by decide)
  have saved := (trk.then (saveFco_touches _) (by decide)).then (spx _) (by decide)
  have saved := (saved.then (savePrv_touches _) (by decide)).then (saveSva_touches _) (by decide)
  exact (saved.then (mtu _) (by decide)).then (saveNvs_touches _) (by decide)

theorem enterSave_touches : Touches [.supply, .trk, .feeds, .store] s (enterSave s) := by
  have entered : Touches [.supply, .trk, .feeds, .store] s { s with
      psc.state := .save, psc.supplyLowTimer := none, psc.saveHold := none, psc.restart := none, psc.owed := Owed.none } :=
    { Touches.refl _ _ with supply := fun hv => absurd (by decide) hv }
  exact entered.then (saveUnits_touches _) (by decide)

theorem enterSave_state (s : Part) : (enterSave s).psc.state = .save := by
  have saved := (saveUnits_touches { s with
    psc.state := .save, psc.supplyLowTimer := none, psc.saveHold := none, psc.restart := none, psc.owed := Owed.none }).supply (by decide)
  exact saved.1.mpr rfl

theorem supplyLowExpiry_touches : Touches [.supply, .trk, .feeds, .store] s (supplyLowExpiry s) := by
  unfold supplyLowExpiry
  split
  · exact enterSave_touches s
  · exact .refl _ s

theorem losePower_state (written : Bool) (s : Part) : (losePower written s).psc.state = .off := by
  unfold losePower
  split
  · next off => exact off
  · rfl

/-- Power-on begins again everywhere but in the stored holds and LINE section. -/
theorem boot_touches (cause : RestartCause) (strap : Bool) :
    Touches [.names, .supply, .trk, .feeds, .admission, .barred, .counts, .reader, .holders, .store] s (boot cause strap s) where
  names hv := absurd (by decide) hv
  hlc _ _ := ⟨Nat.zero_le _, nofun, List.nodup_nil, Nat.zero_le _, Nat.zero_le _, Nat.zero_le _, Nat.zero_le _⟩
  supply hv := absurd (by decide) hv
  trk hv := absurd (by decide) hv
  feeds hv := absurd (by decide) hv
  places _ := (Fco.Shrinks.emptied (bootFco_empty s.nvs) s.fco).1
  needs _ := .emptied (bootFco_empty s.nvs) s.fco
  admission hv := absurd (by decide) hv
  barred hv := absurd (by decide) hv
  relay _ q := by simp [boot, bootPort]
  contexts _ q hq := by simp [boot, bootPrv] at hq
  counts hv := absurd (by decide) hv
  reader hv := absurd (by decide) hv
  sessions _ := List.nil_sublist _
  holders hv := absurd (by decide) hv
  store hv := absurd (by decide) hv
  queue _ _ := Nat.zero_le _
  lines _ := ⟨rfl, List.nil_subset _⟩
  holds _ := ⟨rfl, (List.nil_sublist _).subperm⟩

theorem losePower_touches (written : Bool) : Touches [.supply, .store, .lines, .holds] s (losePower written s) := by
  unfold losePower
  split
  · exact .refl _ s
  · exact { Touches.refl _ _ with
      supply := fun hv => absurd (by decide) hv
      store := fun hv => absurd (by decide) hv
      queue := fun _ _ => Nat.zero_le _
      lines := fun hv => absurd (by decide) hv
      holds := fun hv => absurd (by decide) hv }

theorem enterRun_touches (start : s.psc.state = .startUp) : Touches [] s (enterRun s) := by
  have running : Touches [] s { s with psc.state := .run } := { Touches.refl _ _ with supply := fun _ => by simp [start] }
  have linked (s : Part) : Touches [] s (startLinks s) := linkTimers_touches s fun _ => s.timer Config.linkTime
  have timed (s : Part) : Touches [] s (startCheckpointTimer s) := { Touches.refl _ _ with }
  have ports (s : Part) : Touches [] s (announceBarredPorts s) := forEach_touches (fun _ s => raise_touches s _) _ s
  have reader (s : Part) : Touches [] s (announceBarredReader s) := by
    unfold announceBarredReader
    split
    · exact raise_touches s _
    · exact .refl _ s
  have begun := running.trans (raise_touches _ (.restarted s.psc.cause))
  have announced := (((begun.trans (linked _)).trans (timed _)).trans (ports _)).trans (reader _)
  exact announced.trans (evalServiceAfresh_touches _)

/-! ### HLC's operations -/

theorem serveMask_touches (payload : List Byte) (h : Nat) : Touches [] s (serveMask payload h s) := by
  unfold serveMask
  refine check_touches s h _ fun ok => ?_
  have set : Touches [] s { s with hlc.mask := (byteAt payload 0).toNat } := { Touches.refl _ _ with
      hlc := fun _ hs => by
        obtain ⟨table, below, distinct, immediates, notices, gap, -⟩ := hs
        exact ⟨table, below, distinct, immediates, notices, gap, of_decide_eq_true ok⟩ }
  exact set.trans (reply_touches _ h _)

theorem unknownFrame_touches (kind tag : Byte) (payload : List Byte) : Touches [] s (unknownFrame kind tag payload s) := by
  unfold unknownFrame
  split
  · exact .refl _ s
  · exact takeFrame_touches s _ _ _ fun _ => immediate_touches s _ _ _

theorem discardHostFrame_touches (l : List Character) : Touches [] s (discardHostFrame l s) := by
  unfold discardHostFrame
  split
  · exact receiver_touches s _
  · exact .refl _ s

theorem hostGap_touches : Touches [] s (hostGap s) := by
  unfold hostGap
  split
  · exact receiver_touches s _
  · exact .refl _ s

theorem finishFrame_touches : Touches [.names] s (finishFrame s) := by
  unfold finishFrame
  split
  · exact .refl _ s
  · next f _ =>
    refine { Touches.refl _ _ with hlc := fun _ hs => ?_, names := fun hv => absurd (by decide) hv }
    cases f with
    | notice n => exact hs
    | reply r =>
      obtain ⟨table, below, distinct, rest⟩ := hs
      have sub : (s.hlc.table.filter fun e => some e.handle != r.entry).Sublist s.hlc.table := List.filter_sublist
      exact ⟨sub.length_le.trans table, fun e he => below e (sub.subset he), distinct.sublist (sub.map _), rest⟩

theorem beginReply_touches : Touches [] s (beginReply s) := by
  unfold beginReply
  split
  · exact .refl _ s
  · next r rest hr =>
    refine { Touches.refl _ _ with hlc := fun _ hs => ?_ }
    obtain ⟨table, below, distinct, immediates, others⟩ := hs
    refine ⟨table, below, distinct, ?_, others⟩
    rw [hr, List.countP_cons] at immediates
    exact (Nat.le_add_right _ _).trans immediates

theorem beginNotice_touches : Touches [] s (beginNotice s) := by
  unfold beginNotice
  split
  · exact .refl _ s
  · next n found =>
    have sends := List.find?_some found
    have shorter := List.length_eraseP_of_mem (List.mem_of_find?_eq_some found) sends
    unfold gapAfterFree
    split
    · refine { Touches.refl _ _ with hlc := fun _ hs => ?_ }
      obtain ⟨table, below, distinct, immediates, notices, others⟩ := hs
      refine ⟨table, below, distinct, immediates, ?_, others⟩
      have : (s.hlc.notices.eraseP s.hlc.sendable).length ≤ s.hlc.notices.length := List.length_eraseP_le
      exact this.trans notices
    · refine { Touches.refl _ _ with hlc := fun _ hs => ?_ }
      obtain ⟨table, below, distinct, immediates, notices, gap, mask⟩ := hs
      refine ⟨table, below, distinct, immediates, ?_, Nat.zero_le _, mask⟩
      have : 0 < s.hlc.notices.length := List.length_pos_of_mem (List.mem_of_find?_eq_some found)
      simp only [List.length_append, List.length_singleton]
      omega

theorem transmitterEvent_touches : Touches [.names] s (transmitterEvent s) := by
  unfold transmitterEvent chooseFrame
  split
  · split
    · exact (finishFrame_touches s).then (beginNotice_touches _) (by decide)
    · exact (finishFrame_touches s).then (beginReply_touches _) (by decide)
  · exact .refl _ s

end

/-! ### Every command -/

/-- The views a command may change. -/
def viewsOf : Instr → List View
  | .exitReadSummary .. | .exitReadIndex .. | .exitReadContainer .. | .exitReadNextEscape .. => [.trk]
  | .lineStart .. | .lineStop .. | .trkRestart | .encoderPulse | .pitchEvent _ | .ignoredPitch | .gateTimerExpiry => [.trk]
  | .reserve .. | .clear .. | .doseDone .. | .fillEnd .. => [.trk]
  | .restartCarryOut | .mtuRestart => [.trk, .feeds]
  | .feedOpen .. | .feedClose .. | .fcoRestart | .reserveAnswer .. | .windowLeft .. | .takeTimerExpiry _ | .holdTimerExpiry _ =>
    [.feeds]
  | .portPark .. | .quiet .. | .spxRestart | .linkTimerExpiry _ => [.feeds, .admission]
  | .portWake .. | .idleMarker _ => [.admission]
  | .relay .. => [.relay]
  | .hello .. => [.counts, .store, .feeds, .admission, .barred, .contexts]
  | .verdict .. => [.counts, .store, .feeds, .admission, .barred, .trk]
  | .proof .. | .proofTimerExpiry _ | .disown _ | .report .. | .undefinedKind .. | .cancel _ | .take .. | .doseStart ..
  | .stationRelay .. => [.counts, .store, .feeds, .admission, .barred]
  | .claim .. => [.counts, .store, .feeds, .admission, .barred, .places, .needs]
  | .doseEnd .. => [.counts, .store, .feeds, .admission, .barred, .needs]
  | .prvRestart => [.counts, .feeds, .admission, .barred, .reader]
  | .present _ | .readerProofTimerExpiry | .barTimerExpiry => [.counts, .store, .reader]
  | .readerProof .. => [.counts, .store, .reader, .sessions]
  | .svaRestart => [.reader]
  | .lockout .. => [.holders, .feeds, .admission, .store, .holds]
  | .release .. | .removeHold .. | .holdAddJobEnd _ | .holdRemoveJobEnd _ => [.holders, .store, .holds]
  | .settingWrite .. => [.store, .lines]
  | .signOff .. | .unbar .. | .sectionLockSection .. | .sectionLockKeySlot .. | .locksFreeze .. | .boundarySet .. | .nvsRestart
  | .storeJobStart | .checkpointTimerExpiry | .lockJobEnd _ | .freezeJobEnd _ | .boundaryJobEnd _ | .thresholdJobEnd _
  | .checkpointJobEnd _ => [.store]
  | .settingJobEnd _ => [.trk, .counts, .store, .feeds, .admission, .barred, .reader, .lines]
  | .failcountJobEnd _ => [.counts, .store, .feeds, .admission, .barred, .reader]
  | .supplyLowTimerExpiry => [.supply, .trk, .feeds, .store]
  | .saveHoldExpiry _ | .powerOn _ => [.names, .supply, .trk, .feeds, .admission, .barred, .counts, .reader, .holders, .store]
  | .powerLoss _ => [.supply, .store, .lines, .holds]
  | .transmitterFrameEnd => [.names]
  | _ => []

section
variable {V : List View} (s : Part)

/-- A guarded operation. -/
theorem ite_touches {c : Prop} [Decidable c] {t : Part} (h : c → Touches V s t) : Touches V s (if c then t else s) := by
  split
  · next hc => exact h hc
  · exact .refl V s

end

theorem stationRelay_touches (s : Part) (p : Port) (d : List Byte) : Touches [.counts, .store, .feeds, .admission, .barred] s
    ((if d.length ≤ Config.relayBytes then stationFrameIn p 0x0B (portIn p [.admitted]) (raise (.relay p d)) else discardFrame p)
      s) := by
  split
  · exact stationFrameIn_touches s p _ _ (fun t => (raise_touches t _).mono (by decide)) (by decide)
  · exact (discardFrame_touches s p).mono (by decide)

/-- What a block restart that is owed touches: what its operation does. -/
theorem owed_touches {V : List View} {s : Part} {owed : Bool} {o : Owed} {f : Part → Part} (hf : ∀ s, Touches V s (f s)) :
    Touches V s (if owed then f { s with psc.owed := o } else s) := by
  have cleared : Touches V s { s with psc.owed := o } := { Touches.refl _ _ with }
  split
  · exact cleared.trans (hf _)
  · exact .refl V s

/-- A host request is the taking of its frame with its owner's rule, which touches the views of the command. -/
theorem exec_request (c : Instr) {k : ReqKind} {tag : Byte} {d : List Byte} (h : requestOf c = some (k, tag, d)) :
    ∃ serve : Nat → Part → Part, (∀ s, exec c s = act (takeRequest k tag d serve) s) ∧
      ∀ n t, t.active = true → t.psc.restart = none → Touches (viewsOf c) t (serve n t) := by
  have viewed {V W : List View} (h : decide (V ⊆ W) = true := by rfl) : V ⊆ W := of_decide_eq_true h
  cases c
  case identify =>
    cases h
    exact ⟨_, fun _ => rfl, fun h t _ _ => replyWith_touches t h _⟩
  case status =>
    cases h
    exact ⟨_, fun _ => rfl, fun h t _ _ => replyWith_touches t h _⟩
  case restart =>
    cases h
    exact ⟨_, fun _ => rfl, fun h t _ _ => { Touches.refl _ _ with }⟩
  case mask =>
    cases h
    exact ⟨_, fun _ => rfl, fun h t _ _ => serveMask_touches t _ h⟩
  case quiet =>
    cases h
    exact ⟨_, fun _ => rfl, fun h t active _ => serveQuiet_touches t h active⟩
  case wake =>
    cases h
    exact ⟨_, fun _ => rfl, fun h t _ _ => serveWake_touches t h⟩
  case lineStart =>
    cases h
    exact ⟨_, fun _ => rfl, fun h t _ _ => serveLineStart_touches t h⟩
  case lineStop =>
    cases h
    exact ⟨_, fun _ => rfl, fun h t _ _ => serveLineStop_touches t h⟩
  case trackReadList =>
    cases h
    exact ⟨_, fun _ => rfl, fun h t _ _ => serveTrackRead_touches t _ h⟩
  case trackReadRecord =>
    cases h
    exact ⟨_, fun _ => rfl, fun h t _ _ => serveTrackRead_touches t _ h⟩
  case exitReadSummary =>
    cases h
    exact ⟨_, fun _ => rfl, fun h t _ _ => serveExitRead_touches t _ h⟩
  case exitReadIndex =>
    cases h
    exact ⟨_, fun _ => rfl, fun h t _ _ => serveExitRead_touches t _ h⟩
  case exitReadContainer =>
    cases h
    exact ⟨_, fun _ => rfl, fun h t _ _ => serveExitRead_touches t _ h⟩
  case exitReadNextEscape =>
    cases h
    exact ⟨_, fun _ => rfl, fun h t _ _ => serveExitRead_touches t _ h⟩
  case feedOpen =>
    cases h
    exact ⟨_, fun _ => rfl, fun h t _ _ => orBadValue_touches t h fun f _ => openFeed_touches t h f⟩
  case feedClose =>
    cases h
    exact ⟨_, fun _ => rfl, fun h t _ _ => orBadValue_touches t h fun f _ => closeFeed_touches t h f⟩
  case feedRead =>
    cases h
    exact ⟨_, fun _ => rfl, fun h t _ _ => orBadValue_touches t h fun f _ => replyWith_touches t h _⟩
  case portRead =>
    cases h
    exact ⟨_, fun _ => rfl, fun h t _ _ => orBadValue_touches t h fun p _ => replyWith_touches t h _⟩
  case portPark =>
    cases h
    exact ⟨_, fun _ => rfl, fun h t _ _ => orBadValue_touches t h fun p _ => parkRequest_touches t h p⟩
  case portWake =>
    cases h
    exact ⟨_, fun _ => rfl, fun h t _ _ => orBadValue_touches t h fun p _ =>
      (wakePort_touches t p).then (reply_touches _ h _) (by decide)⟩
  case relay =>
    cases h
    exact ⟨_, fun _ => rfl, fun h t _ _ => orBadValue_touches t h fun p _ => relayTo_touches t h _ p⟩
  case sessionRead =>
    cases h
    exact ⟨_, fun _ => rfl, fun h t _ _ => replyWith_touches t h _⟩
  case holdList =>
    cases h
    exact ⟨_, fun _ => rfl, fun h t _ _ => orBadValue_touches t h fun l _ => replyWith_touches t h l⟩
  case lockout =>
    cases h
    exact ⟨_, fun _ => rfl, fun h t _ _ => withSession_touches t h _ _ fun x t =>
      orBadValue_touches t h fun p _ => lockoutPort_touches t h x p⟩
  case release =>
    cases h
    exact ⟨_, fun _ => rfl, fun h t _ _ => withSession_touches t h _ _ fun x t =>
      orBadValue_touches t h fun p _ => releaseHold_touches t h x.badge p⟩
  case removeHold =>
    cases h
    exact ⟨_, fun _ => rfl, fun h t _ _ => withSession_touches t h _ _ fun x t =>
      orBadValue_touches t h fun p _ => releaseHold_touches t h _ p⟩
  case signOff =>
    cases h
    exact ⟨_, fun _ => rfl, fun h t _ _ => withSession_touches t h _ _ fun x t =>
      orBadValue_touches t h fun p _ => signOffPort_touches t h x p⟩
  case sessionClose =>
    cases h
    exact ⟨_, fun _ => rfl, fun h t _ _ => withSession_touches t h _ _ fun x t =>
      (reply_touches t h _).trans (closeSession_touches _ x false)⟩
  case unbar =>
    cases h
    exact ⟨_, fun _ => rfl, fun h t _ _ => withSession_touches t h _ _ fun x t =>
      orBadValue_touches t h fun w _ => unbarRequest_touches t h w⟩
  case timeSet =>
    cases h
    exact ⟨_, fun _ => rfl, fun h t _ _ =>
      Touches.after (reply_touches _ h _) { Touches.refl _ _ with } viewed⟩
  case timeRead =>
    cases h
    exact ⟨_, fun _ => rfl, fun h t _ _ => replyWith_touches t h _⟩
  case meterRead =>
    cases h
    exact ⟨_, fun _ => rfl, fun h t _ _ => check_touches t h _ fun _ => replyWith_touches t h _⟩
  case meterAdd =>
    cases h
    exact ⟨_, fun _ => rfl, fun h t _ _ => withSession_touches t h _ _ fun x t =>
      orBadValue_touches t h fun m _ => addToMeter_touches t h _ m⟩
  case settingReadSection =>
    cases h
    exact ⟨_, fun _ => rfl, fun h t _ _ => serveSettingRead_touches t _ h⟩
  case settingReadProtection =>
    cases h
    exact ⟨_, fun _ => rfl, fun h t _ _ => serveSettingRead_touches t _ h⟩
  case settingWrite =>
    cases h
    exact ⟨_, fun _ => rfl, fun h t _ _ => serveSettingWrite_touches t _ h⟩
  case sectionLockSection =>
    cases h
    exact ⟨_, fun _ => rfl, fun h t _ _ => serveSectionLock_touches t _ h⟩
  case sectionLockKeySlot =>
    cases h
    exact ⟨_, fun _ => rfl, fun h t _ _ => serveSectionLock_touches t _ h⟩
  case locksFreeze =>
    cases h
    exact ⟨_, fun _ => rfl, fun h t _ _ => withSession_touches t h _ _ fun _ t => freezeLocks_touches t h⟩
  case boundarySet =>
    cases h
    exact ⟨_, fun _ => rfl, fun h t _ _ => withSession_touches t h _ _ fun _ t => setBoundary_touches t h _⟩
  all_goals cases h

/-- A command that is no request answers a next state, with every view outside its own kept. -/
theorem exec_event {c : Instr} (event : requestOf c = none) (s : State) : ∃ t, Gives c s t ∧ Touches (viewsOf c) s.part t := by
  have viewed {V W : List View} (h : decide (V ⊆ W) = true := by rfl) : V ⊆ W := of_decide_eq_true h
  cases c with
  | restartCarryOut => exact ⟨_, rfl, restartCarryOut_touches _⟩
  | trkRestart => exact ⟨_, rfl, owed_touches restartTrk_touches⟩
  | fcoRestart => exact ⟨_, rfl, owed_touches restartFco_touches⟩
  | spxRestart => exact ⟨_, rfl, owed_touches restartSpx_touches⟩
  | prvRestart => exact ⟨_, rfl, owed_touches restartPrv_touches⟩
  | svaRestart => exact ⟨_, rfl, owed_touches restartSva_touches⟩
  | mtuRestart => exact ⟨_, rfl, owed_touches restartMtu_touches⟩
  | nvsRestart => exact ⟨_, rfl, owed_touches restartNvs_touches⟩
  | unknownKind => exact ⟨_, rfl, unknownFrame_touches _ _ _ _⟩
  | transmitterFrameEnd => exact ⟨_, rfl, transmitterEvent_touches _⟩
  | encoderPulse => exact ⟨_, rfl, countPulse_touches _⟩
  | pitchEvent infeed => exact ⟨_, rfl, pitchEvent_touches _ infeed⟩
  | ignoredPitch => exact ⟨_, rfl, ignoredPitch_touches _⟩
  | gateTimerExpiry => exact ⟨_, rfl, gateExpiry_touches _⟩
  | reserve => exact ⟨_, rfl, takeFillRequest_touches _ _ fun t => takeReserve_touches t _ _ _ _⟩
  | reserveAnswer => exact ⟨_, rfl, takeAnswer_touches _ _ _⟩
  | clear => exact ⟨_, rfl, takeFillRequest_touches _ _ fun t => modRecord_touches t _ _⟩
  | doseDone => exact ⟨_, rfl, takeFillRequest_touches _ _ fun t => modRecord_touches t _ _⟩
  | fillEnd => exact ⟨_, rfl, takeFillRequest_touches _ _ fun t => modRecord_touches t _ _⟩
  | windowLeft => exact ⟨_, rfl, ite_touches _ fun _ =>
      Touches.after (windowLeft_touches _ _ _ _) { Touches.refl _ _ with } viewed⟩
  | idleMarker p => exact ⟨_, rfl, idleMarker_touches _ p⟩
  | linkTimerExpiry p => exact ⟨_, rfl, linkExpiry_touches _ p⟩
  | hello p => exact ⟨_, rfl, stationFrameIn_touches _ p _ _ (fun t => (takeHello_touches t p _ _).mono viewed) viewed⟩
  | proof p => exact ⟨_, rfl, stationFrameIn_touches _ p _ _ (fun t => takeProof_touches t p _ _) viewed⟩
  | proofTimerExpiry p => exact ⟨_, rfl, proofExpiry_touches _ p⟩
  | disown p => exact ⟨_, rfl, stationFrameIn_touches _ p _ _ (fun t => (leaveAdmitted_touches t p _ _).mono viewed) viewed⟩
  | report p => exact ⟨_, rfl, stationFrameIn_touches _ p _ _ (fun t => (takeReport_touches t p _).mono viewed) viewed⟩
  | undefinedKind p =>
    refine ⟨_, rfl, ?_⟩
    dsimp only
    split
    · exact .refl _ _
    · exact stationFrameIn_touches _ p _ _ (fun t => .refl _ t) viewed
  | claim p => exact ⟨_, rfl, stationFrameIn_touches _ p _ _ (fun t => (takeClaim_touches t p _ _ _).mono viewed) viewed⟩
  | cancel p => exact ⟨_, rfl, stationFrameIn_touches _ p _ _ (fun t => (takeCancel_touches t p).mono viewed) viewed⟩
  | take p => exact ⟨_, rfl, stationFrameIn_touches _ p _ _ (fun t => (takeTake_touches t p _).mono viewed) viewed⟩
  | doseStart p => exact ⟨_, rfl, stationFrameIn_touches _ p _ _ (fun t => (takeDoseStart_touches t p _ _).mono viewed) viewed⟩
  | doseEnd p => exact ⟨_, rfl, stationFrameIn_touches _ p _ _ (fun t => (takeDoseEnd_touches t p _ _ _).mono viewed) viewed⟩
  | takeTimerExpiry f => exact ⟨_, rfl, takeExpiry_touches _ f⟩
  | holdTimerExpiry f => exact ⟨_, rfl, holdExpiry_touches _ f⟩
  | verdict p => exact ⟨_, rfl, stationFrameIn_touches _ p _ _ (fun t => (takeVerdict_touches t p _ _ _).mono viewed) viewed⟩
  | stationRelay p d => exact ⟨_, rfl, stationRelay_touches _ p d⟩
  | secondBoundary => exact ⟨_, rfl, secondBoundary_touches _⟩
  | present badge => exact ⟨_, rfl, takePresent_touches _ badge⟩
  | readerProof => exact ⟨_, rfl, takeReaderProof_touches _ _ _⟩
  | readerProofTimerExpiry => exact ⟨_, rfl, readerProofExpiry_touches _⟩
  | barTimerExpiry => exact ⟨_, rfl, (barExpiry_touches _).mono viewed⟩
  | idleTimerExpiry num => exact ⟨_, rfl, idleExpiry_touches _ num⟩
  | storeJobStart => exact ⟨_, rfl, startJob_touches _⟩
  | settingJobEnd written => exact ⟨_, rfl, settingJobEnd_touches _ written⟩
  | lockJobEnd written =>
    exact ⟨_, rfl, endJob_touches written _ (fun _ => rfl) (fun _ => rfl) (fun _ _ => rfl)
      (fun a o t => (replyDone_touches t a o).mono viewed) (fun a o t => (replyFault_touches t a o).mono viewed) viewed⟩
  | freezeJobEnd written =>
    exact ⟨_, rfl, endJob_touches written _ (fun _ => rfl) (fun _ => rfl) (fun _ _ => rfl)
      (fun a o t => (replyDone_touches t a o).mono viewed) (fun a o t => (replyFault_touches t a o).mono viewed) viewed⟩
  | boundaryJobEnd written =>
    exact ⟨_, rfl, endJob_touches written _ (fun _ => rfl) (fun _ => rfl) (fun _ _ => rfl)
      (fun a o t => (replyDone_touches t a o).mono viewed) (fun a o t => (replyFault_touches t a o).mono viewed) viewed⟩
  | holdAddJobEnd written =>
    exact ⟨_, rfl, holdJobEnd_touches _ written (fun _ => rfl) (fun h o t => holdAdded_touches t h o)
      (fun h o t => Touches.after (replyFault_touches _ h o) { Touches.refl _ _ with } (by decide))⟩
  | holdRemoveJobEnd written =>
    exact ⟨_, rfl, holdJobEnd_touches _ written (fun _ => rfl) (fun k o t => holdRemoved_touches t k o)
      (fun k o t => (modHold_touches t _ _ _).then (replyFault_touches _ k o) (by decide))⟩
  | thresholdJobEnd written =>
    exact ⟨_, rfl, endJob_touches written _ (fun _ => rfl) (fun _ => rfl) (fun _ _ => rfl)
      (fun a o t => (thresholdSet_touches t a o).mono viewed) (fun a o t => (replyFault_touches t a o).mono viewed) viewed⟩
  | failcountJobEnd written =>
    exact ⟨_, rfl, endJob_touches written _ (fun _ => rfl) (fun _ => rfl) (fun _ _ => rfl)
      (fun a o t => (failcountWritten_touches t a o).mono viewed) (fun a o t => (replyFault_touches t a o).mono viewed) viewed⟩
  | checkpointJobEnd written =>
    exact ⟨_, rfl, endJob_touches written _ (fun _ => rfl) (fun _ => rfl) (fun _ _ => rfl)
      (fun a o t => (checkpointDone_touches t a o).mono viewed)
      (fun a o t => (checkpointFailed_touches t a o).mono viewed) viewed⟩
  | checkpointTimerExpiry => exact ⟨_, rfl, checkpointExpiry_touches _⟩
  | supwarnAssert => exact ⟨_, rfl, assertSupwarn_touches _⟩
  | supwarnDeassert => exact ⟨_, rfl, deassertSupwarn_touches _⟩
  | supplyLowTimerExpiry => exact ⟨_, rfl, supplyLowExpiry_touches _⟩
  | saveHoldExpiry strap => exact ⟨_, rfl, ite_touches _ fun _ => boot_touches _ _ strap⟩
  | powerOn strap => exact ⟨_, rfl, ite_touches _ fun _ => boot_touches _ _ strap⟩
  | powerLoss written => exact ⟨_, rfl, losePower_touches _ written⟩
  | enterRun =>
    exact ⟨_, rfl, ite_touches _ fun ⟨start, _⟩ => enterRun_touches _ start⟩
  | hostFrameDiscarded l => exact ⟨_, rfl, discardHostFrame_touches _ l⟩
  | hostIdleGap => exact ⟨_, rfl, hostGap_touches _⟩
  | stationFrameDiscarded p =>
    refine ⟨_, rfl, ?_⟩
    dsimp only
    split
    · exact .refl _ _
    · exact discardFrame_touches _ p
  | uptimeMillisecond => exact ⟨_, rfl, tick_touches _⟩
  | identify | status | restart | mask | quiet | wake | lineStart | lineStop | trackReadList
  | trackReadRecord | exitReadSummary | exitReadIndex | exitReadContainer | exitReadNextEscape | feedOpen | feedClose | feedRead | portRead
  | portPark | portWake | relay | sessionRead | holdList | lockout | release | removeHold | signOff
  | sessionClose | unbar | timeSet | timeRead | meterRead | meterAdd | settingReadSection | settingReadProtection | settingWrite
  | sectionLockSection | sectionLockKeySlot | locksFreeze | boundarySet => cases event

/-- Every command answers a next state, with every view outside its own and the request table kept. -/
theorem exec_touches (c : Instr) (s : State) : ∃ t, Gives c s t ∧ Touches (.names :: viewsOf c) s.part t := by
  cases request : requestOf c with
  | none =>
    obtain ⟨t, gives, touches⟩ := exec_event request s
    exact ⟨t, gives, touches.mono (List.subset_cons_self _ _)⟩
  | some r =>
    obtain ⟨k, tag, d⟩ := r
    obtain ⟨serve, taken, touches⟩ := exec_request c request
    exact ⟨_, taken s, takeRequest_touches s.part k tag d touches⟩

/-! ### Every step -/

/-- A step is idle, or the effect of the command at the front of the queue, with the views outside the command's own kept. -/
theorem step_cases {s t : State} (h : step s = .next t) :
    t = s ∨ ∃ c rest, s.pending = c :: rest ∧ t.pending = rest ∧ Gives c { s with pending := rest } t.part ∧
      Touches (.names :: viewsOf c) s.part t.part := by
  unfold step at h
  split at h
  · left
    exact (Host.Outcome.next.inj h).symm
  · next c rest hp =>
    right
    obtain ⟨u, gives, touches⟩ := exec_touches c { s with pending := rest }
    obtain rfl : ({ s with part := u, pending := rest } : State) = t := Host.Outcome.next.inj (gives.symm.trans h)
    exact ⟨c, rest, hp, rfl, gives, touches⟩

/-- An invariant that the commands keep is kept by every step. -/
theorem step_keeps {P : Part → Prop}
    (hP : ∀ (c : Instr) (s : State) (t : Part), P s.part → Gives c s t → Touches (.names :: viewsOf c) s.part t → P t)
    {s t : State} (hs : P s.part) (h : step s = .next t) : P t.part := by
  rcases step_cases h with rfl | ⟨c, rest, -, -, gives, touches⟩
  · exact hs
  · exact hP c { s with pending := rest } t.part hs gives touches

/-! ### The statements -/

/-- Settles O1: the step by its definition, and a next state for every command by `exec_touches`. -/
theorem stepTakesTheFrontCommand : Obligations.StepTakesTheFrontCommand := by
  unfold Obligations.StepTakesTheFrontCommand
  refine ⟨⟨fun c rest s front => ?_, fun s idle => ?_⟩, fun c s => ?_⟩
  · rw [step, front]
  · rw [step, idle]
  · obtain ⟨t, gives, -⟩ := exec_touches c s
    exact ⟨t, gives⟩

/-- Settles O6: no command touches the limits of the host link. -/
theorem stepKeepsHostLinkSound : Obligations.StepKeepsHostLinkSound := by
  unfold Obligations.StepKeepsHostLinkSound
  intro s t sound stepped
  refine step_keeps (P := fun p => p.hlc.sound) (fun c s t sound _ touches => touches.hlc ?_ sound) sound stepped
  cases c <;> exact of_decide_eq_true rfl

end Sys2Proof.Machine
end

section
/-! How an invariant passes the operations that many commands share: requests with their checks, station frames, fill requests, owed
restarts and the ends of store jobs. `Stable V P` says that `P` looks at none of the views of `V`. -/

namespace Sys2Proof.Machine

/-- What holds of a part holds after any operation that touches only the request table and the views of `V`. -/
def Stable (V : List View) (P : Part → Prop) : Prop := ∀ s t, Touches (.names :: V) s t → P s → P t

section
variable {V : List View} {P : Part → Prop} (hP : Stable V P) (s : Part)
include hP

theorem Stable.of {W : List View} {t : Part} (h : Touches W s t) (hw : W ⊆ .names :: V) (hs : P s) : P t := hP s t (h.mono hw) hs

theorem Stable.nil {t : Part} (h : Touches [] s t) (hs : P s) : P t := hP.of s h (List.nil_subset _) hs

theorem Stable.entry {t : Part} (h : Touches [.names] s t) (hs : P s) : P t := hP.of s h (by simp) hs

theorem check_keeps {go : Part → Part} {ok : Bool} (h : Nat) (c : Code) (hg : ok = true → P (go s)) (hs : P s) :
    P (check h ok c go s) := by
  cases ok with
  | true => exact hg rfl
  | false => exact hP.nil s (reply_touches s h c) hs

theorem orBadValue_keeps {α : Type} {go : α → Part → Part} {a : Option α} (h : Nat) (hg : ∀ x, a = some x → P (go x s)) (hs : P s) :
    P (orBadValue h a go s) := by
  cases a with
  | none => exact hP.nil s (reply_touches s h .badValue) hs
  | some x => exact hg x rfl

theorem withSession_keeps {go : Session → Part → Part} (h : Nat) (num : Byte) (ok : BadgeRole → Bool)
    (hg : ∀ x t, P t → P (go x t)) (hs : P s) : P (withSession h num ok go s) := by
  unfold withSession
  split
  · exact hP.nil s (reply_touches s h _) hs
  · split
    · exact hg _ _ (hP.nil s (restartIdle_touches s num) hs)
    · exact hP.nil s (reply_touches s h _) hs

/-- A request keeps what its owner's rule keeps in any part that is in RUN or QUIET. -/
theorem takeRequest_keeps (k : ReqKind) (tag : Byte) (d : List Byte) {serve : Nat → Part → Part}
    (hg : ∀ h t, t.active = true → t.psc.restart = none → P t → P (serve h t)) (hs : P s) : P (takeRequest k tag d serve s) := by
  rcases takeRequest_cases s k tag d serve with h | ⟨t, h, active, free, e⟩
  · exact hP.entry s h hs
  · rw [e]
    exact hg _ t active free (hP.entry s h hs)

theorem takeFillRequest_keeps (m : FillRequest) {go : Part → Part} (hg : ∀ t, P t → P (go t)) (hs : P s) :
    P (takeFillRequest m go s) := by
  unfold takeFillRequest
  split
  · exact hg _ (hP.nil s { Touches.refl _ _ with } hs)
  · exact hs

/-- A block restart that is owed keeps what its operation keeps. -/
theorem owed_keeps {owed : Bool} {o : Owed} {f : Part → Part} (hf : ∀ t, P t → P (f t)) (hs : P s) :
    P (if owed then f { s with psc.owed := o } else s) := by
  split
  · exact hf _ (hP.nil s { Touches.refl _ _ with } hs)
  · exact hs

end

section
variable {P : Part → Prop} (s : Part)

theorem ite_keeps {c : Prop} [Decidable c] {t : Part} (h : c → P t) (hs : P s) : P (if c then t else s) := by
  split
  · next hc => exact h hc
  · exact hs

/-- R81, R90: a station frame changes nothing, or it is heard and then served or unexpected. -/
theorem stationFrameIn_cases (p : Port) (k : Byte) (accepts : Part → Bool) (serve : Part → Part) :
    stationFrameIn p k accepts serve s = s ∨
      s.active = true ∧ s.ports[p].hunting = false ∧
        (accepts (heard p s) = true ∧ stationFrameIn p k accepts serve s = serve (heard p s) ∨
         accepts (heard p s) = false ∧ stationFrameIn p k accepts serve s = unexpected p k (heard p s)) := by
  unfold stationFrameIn routeFrame
  cases active : s.active
  · exact .inl rfl
  · cases hunting : s.ports[p].hunting
    · refine .inr ⟨rfl, rfl, ?_⟩
      cases accepted : accepts (heard p s)
      · exact .inr ⟨rfl, by simp⟩
      · exact .inl ⟨rfl, by simp⟩
    · exact .inl rfl

/-- A station frame keeps what hearing it, serving it and turning it away keep. -/
theorem stationFrameIn_keeps (p : Port) (k : Byte) (accepts : Part → Bool) {serve : Part → Part} (heard : P s → P (heard p s))
    (turned : ∀ t, P t → P (unexpected p k t)) (served : ∀ t, accepts t = true → P t → P (serve t)) (hs : P s) :
    P (stationFrameIn p k accepts serve s) := by
  rcases stationFrameIn_cases s p k accepts serve with e | ⟨-, -, ⟨accepted, e⟩ | ⟨-, e⟩⟩ <;> rw [e]
  · exact hs
  · exact served _ accepted (heard hs)
  · exact turned _ (heard hs)

/-- R176: a job end changes nothing, or the job in flight, of the kind the end is for, ends written or failed. -/
theorem endJob_cases {α : Type} (pick : JobBody → Option α) (written : Bool) (ok bad : α → List Nat → Part → Part) :
    endJob pick written ok bad s = s ∨ ∃ j a, s.nvs.inFlight = some j ∧ pick j.body = some a ∧ s.hostReceives = true ∧
      (written = true ∧
          endJob pick written ok bad s = ok a j.origin { s with nvs := { s.nvs with inFlight := none }.commit j.body } ∨
       written = false ∧
          endJob pick written ok bad s = bad a j.origin (raise (.storeFault j.body) { s with nvs.inFlight := none })) := by
  cases flying : s.nvs.inFlight with
  | none =>
    left
    simp only [endJob, flying]
  | some j =>
    cases picked : pick j.body with
    | none =>
      left
      simp only [endJob, flying, picked]
    | some a =>
      cases receives : s.hostReceives
      · left
        simp only [endJob, flying, picked, receives, Bool.false_eq_true, if_false]
      · refine .inr ⟨j, a, rfl, picked, rfl, ?_⟩
        cases written <;> simp [endJob, flying, picked, receives]

/-- A job end keeps what its two outcomes keep. -/
theorem endJob_keeps {α : Type} {pick : JobBody → Option α} {written : Bool} {ok bad : α → List Nat → Part → Part}
    (done : ∀ j a, s.nvs.inFlight = some j → pick j.body = some a → s.hostReceives = true →
      P (ok a j.origin { s with nvs := { s.nvs with inFlight := none }.commit j.body }))
    (failed : ∀ j a, s.nvs.inFlight = some j → pick j.body = some a → s.hostReceives = true →
      P (bad a j.origin (raise (.storeFault j.body) { s with nvs.inFlight := none })))
    (hs : P s) : P (endJob pick written ok bad s) := by
  rcases endJob_cases s pick written ok bad with e | ⟨j, a, flying, picked, receives, ⟨-, e⟩ | ⟨-, e⟩⟩ <;> rw [e]
  · exact hs
  · exact done j a flying picked receives
  · exact failed j a flying picked receives

end

end Sys2Proof.Machine
end

section
/-! TRK's invariants: the track and the exit list sound (`Trk.sound`), the track in entry order (`Part.trackOrdered`). Most commands
only alter TRK (`Trk.Alters`): records and exit entries one by one, no number issued, none removed. -/

namespace Sys2Proof.Machine

/-! ### Altered one by one -/

/-- A record altered: its number and its entry stay, and the doses still fit. -/
def Record.Alters (r x : Record) : Prop := x.container = r.container ∧ x.entry = r.entry ∧ (r.dosesFit = true → x.dosesFit = true)

/-- An exit entry altered: its record stays, and a sound entry stays sound. -/
def ExitEntry.Alters (e x : ExitEntry) : Prop := x.record = e.record ∧ (e.sound → x.sound)

/-- TRK went from `t` to `u` with the records and the exit entries altered one by one, and everything that numbers or places them left;
on an empty track the geometry may have been loaded from `line`. -/
structure Trk.Alters (line : Geometry) (t u : Trk) : Prop where
  next : u.nextContainer = t.nextContainer
  pitch : u.pitch = t.pitch
  geometry : u.geometry = t.geometry ∨ t.track = [] ∧ u.geometry = line
  gate : t.gate = t.gateTimer.isSome → u.gate = u.gateTimer.isSome
  track : ∃ f : Record → Record, (∀ r : Record, r.Alters (f r)) ∧ u.track = t.track.map f
  exits : ∃ g : ExitEntry → ExitEntry, (∀ e : ExitEntry, e.Alters (g e)) ∧ u.exits = t.exits.map g

section
variable {line : Geometry} {t u v : Trk}

theorem Trk.Alters.refl (line : Geometry) (t : Trk) : t.Alters line t where
  next := rfl
  pitch := rfl
  geometry := .inl rfl
  gate := id
  track := ⟨id, fun _ => ⟨rfl, rfl, id⟩, t.track.map_id.symm⟩
  exits := ⟨id, fun _ => ⟨rfl, id⟩, t.exits.map_id.symm⟩

theorem Trk.Alters.trans (h : t.Alters line u) (k : u.Alters line v) : t.Alters line v where
  next := k.next.trans h.next
  pitch := k.pitch.trans h.pitch
  geometry := by
    obtain ⟨f, -, hf⟩ := h.track
    rcases k.geometry with e | ⟨empty, e⟩
    · rw [e]
      exact h.geometry
    · exact .inr ⟨List.map_eq_nil_iff.mp (hf.symm.trans empty), e⟩
  gate := fun e => k.gate (h.gate e)
  track := by
    obtain ⟨f, hf, ef⟩ := h.track
    obtain ⟨g, hg, eg⟩ := k.track
    refine ⟨g ∘ f, fun r => ?_, by rw [eg, ef, List.map_map]⟩
    obtain ⟨f1, f2, f3⟩ := hf r
    obtain ⟨g1, g2, g3⟩ := hg (f r)
    exact ⟨g1.trans f1, g2.trans f2, fun e => g3 (f3 e)⟩
  exits := by
    obtain ⟨f, hf, ef⟩ := h.exits
    obtain ⟨g, hg, eg⟩ := k.exits
    refine ⟨g ∘ f, fun r => ?_, by rw [eg, ef, List.map_map]⟩
    obtain ⟨f1, f2⟩ := hf r
    obtain ⟨g1, g2⟩ := hg (f r)
    exact ⟨g1.trans f1, fun e => g2 (f2 e)⟩

theorem Trk.Alters.records (line : Geometry) (t : Trk) {f : Record → Record} (hf : ∀ r : Record, r.Alters (f r)) :
    t.Alters line { t with track := t.track.map f } := { Trk.Alters.refl line t with track := ⟨f, hf, rfl⟩ }

theorem Trk.Alters.entries (line : Geometry) (t : Trk) {g : ExitEntry → ExitEntry} (hg : ∀ e : ExitEntry, e.Alters (g e)) :
    t.Alters line { t with exits := t.exits.map g } := { Trk.Alters.refl line t with exits := ⟨g, hg, rfl⟩ }

/-- A record altered under a condition. -/
theorem Record.Alters.ite {r x : Record} (h : r.Alters x) (c : Prop) [Decidable c] : r.Alters (if c then x else r) := by
  split
  · exact h
  · exact ⟨rfl, rfl, id⟩

/-- An exit entry altered under a condition. -/
theorem ExitEntry.Alters.ite {e x : ExitEntry} (h : e.Alters x) (c : Prop) [Decidable c] : e.Alters (if c then x else e) := by
  split
  · exact h
  · exact ⟨rfl, id⟩

/-- A soundly altered TRK is sound. -/
theorem Trk.Alters.sound (h : t.Alters line u) (hs : t.sound) : u.sound := by
  obtain ⟨next, records, gate, length, entries⟩ := hs
  obtain ⟨f, hf, ef⟩ := h.track
  obtain ⟨g, hg, eg⟩ := h.exits
  refine ⟨by rwa [h.next], fun r hr => ?_, h.gate gate, by rwa [eg, List.length_map], fun e he => ?_⟩
  · obtain ⟨x, hx, rfl⟩ := List.mem_map.mp (ef ▸ hr)
    obtain ⟨number, -, doses⟩ := hf x
    exact ⟨by rw [number]; exact (records x hx).1, doses (records x hx).2⟩
  · obtain ⟨x, hx, rfl⟩ := List.mem_map.mp (eg ▸ he)
    exact (hg x).2 (entries x hx)

end

/-! ### What alters records and exit entries -/

theorem Record.overrun_alters (r : Record) : r.Alters r.overrun := by
  refine ⟨rfl, rfl, fun h => ?_⟩
  cases hf : r.fill with
  | none => simp [Record.overrun, Record.dosesFit, hf]
  | some x => simpa [Record.overrun, Record.dosesFit, hf] using h

theorem Record.clearFill_alters (p : Port) (r : Record) : r.Alters (r.clearFill p) :=
  Record.Alters.ite (r := r) (x := { r with fill := none }) ⟨rfl, rfl, fun _ => rfl⟩ _

/-- A fill altered without more doses done, against the doses planned. -/
theorem Record.mapFill_alters (r : Record) {f : Fill → Fill} (hf : ∀ x, x.done ≤ x.planned → (f x).done ≤ (f x).planned) :
    r.Alters { r with fill := r.fill.map f } := by
  refine ⟨rfl, rfl, fun h => ?_⟩
  cases e : r.fill with
  | none => simp [Record.dosesFit]
  | some x =>
    simp only [Record.dosesFit, e, Option.all_some, decide_eq_true_eq] at h
    simpa [Record.dosesFit] using hf x h

theorem Record.doseDone_alters (p : Port) (f : Feed) (r : Record) : r.Alters (r.doseDone p f) := by
  refine r.mapFill_alters fun x fits => ?_
  split
  · next h =>
    simp only [Bool.and_eq_true, decide_eq_true_eq] at h
    exact h.2
  · exact fits

theorem Record.fillEnd_alters (p : Port) (f : Feed) (e : EndResult) (r : Record) : r.Alters (r.fillEnd p f e) :=
  r.mapFill_alters fun x fits => by split <;> exact fits

theorem Record.cross_alters (r : Record) : r.Alters r.cross :=
  (Record.mapFill_alters r (f := fun f => if f.pending then { f with result := .fault } else f)
    fun x fits => by split <;> exact fits : r.Alters _)

theorem ExitEntry.addLate_alters (e : ExitEntry) (v : Verdict) : e.Alters (e.addLate v) := by
  refine ⟨rfl, fun ⟨decided, good, escaped⟩ => ⟨decided, good, fun h => ?_⟩⟩
  rcases Bool.or_eq_true_iff.mp h with h | h
  · exact escaped h
  · simp only [Verdict.escapes, Bool.and_eq_true, beq_iff_eq] at h
    exact h.1.2

/-! ### A part whose TRK is only altered -/

/-- The LINE section in store is that of `a`, and TRK has been altered since `a`. -/
def Part.TrackFrom (a s : Part) : Prop := s.nvs.line = a.nvs.line ∧ a.trk.Alters a.nvs.line s.trk

/-- The views that `Part.TrackFrom` does not look at. -/
def trackless : List View :=
  [.hlc, .supply, .feeds, .places, .needs, .admission, .barred, .relay, .contexts, .counts, .reader, .sessions, .holders, .store, .queue, .holds]

theorem Part.TrackFrom.refl (s : Part) : s.TrackFrom s := ⟨rfl, .refl _ _⟩

theorem trackFrom_stable (a : Part) : Stable trackless a.TrackFrom := by
  intro s t touches ⟨line, alters⟩
  refine ⟨(touches.lines (by decide)).1.trans line, ?_⟩
  rw [touches.trk (by decide)]
  exact alters

section
variable {a s : Part} (h : a.TrackFrom s)
include h

/-- TRK altered once more. -/
theorem Part.TrackFrom.to {t : Part} (line : t.nvs.line = s.nvs.line) (k : s.trk.Alters s.nvs.line t.trk) : a.TrackFrom t := by
  obtain ⟨hl, alters⟩ := h
  exact ⟨line.trans hl, alters.trans (hl ▸ k)⟩

theorem Part.TrackFrom.records {f : Record → Record} (hf : ∀ r : Record, r.Alters (f r)) :
    a.TrackFrom { s with trk.track := s.trk.track.map f } := h.to rfl (.records _ _ hf)

theorem Part.TrackFrom.entries {g : ExitEntry → ExitEntry} (hg : ∀ e : ExitEntry, e.Alters (g e)) :
    a.TrackFrom { s with trk.exits := s.trk.exits.map g } := h.to rfl (.entries _ _ hg)

/-- After an operation that leaves TRK and the LINE section alone. -/
theorem Part.TrackFrom.touched {W : List View} {t : Part} (k : Touches W s t) (hw : W ⊆ .names :: trackless) : a.TrackFrom t :=
  (trackFrom_stable a).of s k hw h

theorem fullRead_trackFrom (n : Nat) (e : Option ExitEntry) : a.TrackFrom (fullRead n e s) := by
  cases e with
  | none => exact h.touched (reply_touches s n _) (by decide)
  | some e => exact (h.entries fun y => .ite (e := y) (x := { y with unread := false }) ⟨rfl, id⟩ _).touched (replyWith_touches _ n _) (by decide)

theorem serveExitRead_trackFrom (payload : List Byte) (n : Nat) : a.TrackFrom (serveExitRead payload n s) := by
  unfold serveExitRead
  split
  · exact h.touched (replyWith_touches s n _) (by decide)
  · exact check_keeps (trackFrom_stable a) s n _ (fun _ => fullRead_trackFrom h n _) h
  · exact fullRead_trackFrom h n _
  · exact fullRead_trackFrom h n _
  · exact h.touched (reply_touches s n _) (by decide)

theorem refuse_trackFrom (p : Port) (w : Reason) (k : Byte) : a.TrackFrom (refuse p w k s) :=
  h.touched (refuse_touches s p w k) (by decide)

theorem verdictOnTrack_trackFrom (p : Port) (r : Record) (v : Verdict) : a.TrackFrom (verdictOnTrack p r v s) := by
  unfold verdictOnTrack
  split
  · exact refuse_trackFrom h _ _ _
  · split
    · exact refuse_trackFrom h _ _ _
    · exact (h.records fun y => .ite (r := y) (x := { y with verdicts := y.verdicts ++ [v] }) ⟨rfl, rfl, id⟩ _).touched
        (meterInc_touches _ _) (by decide)

theorem verdictLate_trackFrom (p : Port) (e : ExitEntry) (v : Verdict) : a.TrackFrom (verdictLate p e v s) := by
  have late : a.TrackFrom (raise (.lateVerdict e.record.container p v.result v.reason) (refuse p .late verdictKind
      { s with trk.exits := s.trk.exits.map fun x => if x.record.container == e.record.container then x.addLate v else x })) :=
    (refuse_trackFrom (h.entries fun x => (x.addLate_alters v).ite _) _ _ _).touched (raise_touches _ _) (by decide)
  unfold verdictLate
  dsimp only
  split
  · exact refuse_trackFrom h _ _ _
  · split
    · exact (late.touched (meterInc_touches _ _) (by decide)).touched (raise_touches _ _) (by decide)
    · exact late

theorem takeVerdict_trackFrom (p : Port) (c : Half) (result reason : Byte) : a.TrackFrom (takeVerdict p c result reason s) := by
  unfold takeVerdict
  dsimp only
  split
  · exact refuse_trackFrom h _ _ _
  · split
    · exact refuse_trackFrom h _ _ _
    · split
      · exact refuse_trackFrom h _ _ _
      · split
        · exact verdictOnTrack_trackFrom h _ _ _
        · split
          · exact verdictLate_trackFrom h _ _ _
          · exact refuse_trackFrom h _ _ _

theorem loadGeometry_trackFrom : a.TrackFrom (loadGeometry s) := by
  unfold loadGeometry
  split
  · next empty => exact h.to rfl { Trk.Alters.refl s.nvs.line s.trk with geometry := .inr ⟨List.isEmpty_iff.mp empty, rfl⟩ }
  · exact h

theorem serveLineStart_trackFrom (n : Nat) : a.TrackFrom (serveLineStart n s) :=
  check_keeps (trackFrom_stable a) s n _
    (fun _ => ((loadGeometry_trackFrom h).to rfl { Trk.Alters.refl _ _ with } : a.TrackFrom (startLine s)).touched
      (reply_touches _ n _) (by decide)) h

theorem serveLineStop_trackFrom (n : Nat) : a.TrackFrom (serveLineStop n s) :=
  check_keeps (trackFrom_stable a) s n _
    (fun _ => (h.to rfl { Trk.Alters.refl _ _ with } : a.TrackFrom (stopLine s)).touched (reply_touches _ n _) (by decide)) h

theorem countPulse_trackFrom : a.TrackFrom (countPulse s) := by
  unfold countPulse
  split
  · exact h
  · split <;> split <;> exact h.to rfl { Trk.Alters.refl _ _ with }

theorem ignorePitch_trackFrom : a.TrackFrom (ignorePitch s) := by
  unfold ignorePitch
  split
  · exact (h.to (t := { s with trk.strayArmed := false }) rfl { Trk.Alters.refl _ _ with }).touched (raise_touches _ _) (by decide)
  · exact h

theorem ignoredPitch_trackFrom : a.TrackFrom (ignoredPitch s) := by
  unfold ignoredPitch
  split
  · split
    · exact ignorePitch_trackFrom (h.to rfl { Trk.Alters.refl _ _ with })
    · split
      · exact ignorePitch_trackFrom (h.to rfl { Trk.Alters.refl _ _ with })
      · exact h
  · exact h

theorem gateExpiry_trackFrom : a.TrackFrom (gateExpiry s) := by
  unfold gateExpiry
  split
  · exact h.to rfl { Trk.Alters.refl _ _ with gate := fun _ => rfl }
  · exact h

theorem takeReserve_trackFrom (c : Half) (p : Port) (f : Feed) (doses : Nat) : a.TrackFrom (takeReserve c p f doses s) := by
  unfold takeReserve
  dsimp only
  split
  · exact (h.records fun y => .ite (r := y) (x := { y with fill := some ⟨p, f, doses, 0, .pending⟩ })
      ⟨rfl, rfl, fun _ => by simp [Record.dosesFit]⟩ _).touched (tellFco_touches _ _) (by decide)
  · exact h.touched (tellFco_touches _ _) (by decide)

theorem modRecord_trackFrom (c : Half) {f : Record → Record} (hf : ∀ r : Record, r.Alters (f r)) : a.TrackFrom (modRecord c f s) :=
  h.records fun r => (hf r).ite _

theorem restartTrk_trackFrom : a.TrackFrom (restartTrk s) :=
  loadGeometry_trackFrom (h.to rfl
    { Trk.Alters.refl s.nvs.line s.trk with gate := fun _ => rfl, track := ⟨Record.cross, Record.cross_alters, rfl⟩ })

theorem zeroUptime_trackFrom : a.TrackFrom (zeroUptime s) :=
  h.to rfl { Trk.Alters.refl _ _ with gate := fun e => by simpa [zeroUptime, Part.rebased] using e }

theorem carryOut_trackFrom (n : Nat) : a.TrackFrom (carryOut n s) := by
  have aborted : Touches [] s (forEach (abortedEntries n s.hlc) (fun e => reply e.handle .aborted) s) :=
    forEach_touches (fun (e : Entry) s => reply_touches s e.handle .aborted) _ s
  have emptied := (h.touched aborted (by decide)).touched (reply_touches _ n .done) (by decide)
  have raised := (emptied.to (t := emptyNotices _) rfl (.refl _ _)).touched (raise_touches _ (.restarted .request)) (by decide)
  exact (zeroUptime_trackFrom raised).to rfl (.refl _ _)

theorem restartCarryOut_trackFrom : a.TrackFrom (restartCarryOut s) := by
  unfold restartCarryOut
  split
  · exact h
  · split
    · exact carryOut_trackFrom h _
    · exact h

theorem restartMtu_trackFrom : a.TrackFrom (restartMtu s) := by
  have set (t : Part) (cfg : Vector MeterCfg 12) (period : Nat) : Touches [] t
    (startCheckpointTimer { t with mtu.cfg := cfg, mtu.checkpointPeriod := period }) := { Touches.refl _ _ with }
  exact (zeroUptime_trackFrom h).touched ((set _ _ _).trans (evalServiceAfresh_touches _)) (by decide)

end

end Sys2Proof.Machine
end

section
/-! TRK's invariants kept by every step: the gate decision, pitch events and saves, and the two statements about the track. -/

namespace Sys2Proof.Machine

/-! ### Commands that only alter TRK -/

/-- The part after a command that answers it. -/
theorem gives_act {f : Part → Part} {s : State} {t : Part} (h : act f s = .next { s with part := t }) : f s.part = t :=
  congrArg State.part (Host.Outcome.next.inj h)

/-- The commands that issue or remove container numbers, or leave TRK as a reset or a job end does. -/
def movesTrack : Instr → Bool
  | .pitchEvent _ | .supplyLowTimerExpiry | .saveHoldExpiry _ | .powerOn _ | .settingJobEnd _ | .powerLoss _ | .settingWrite .. => true
  | _ => false

/-- A station frame served as TRK's other requests. -/
theorem stationFrameIn_trackFrom {a s : Part} (h : a.TrackFrom s) (p : Port) (k : Byte) (accepts : Part → Bool) {serve : Part → Part}
    (served : ∀ t, a.TrackFrom t → a.TrackFrom (serve t)) : a.TrackFrom (stationFrameIn p k accepts serve s) :=
  stationFrameIn_keeps s p k accepts (fun h => h.touched (heard_touches _ p) (by decide))
    (fun t h => h.touched (unexpected_touches t p k) (by decide)) (fun t _ h => served t h) h

/-- A command that does not move the track only alters TRK. -/
theorem exec_trackFrom {c : Instr} {s : State} {t : Part} (gives : Gives c s t) (touches : Touches (.names :: viewsOf c) s.part t)
    (still : movesTrack c = false) : s.part.TrackFrom t := by
  have start := Part.TrackFrom.refl s.part
  have stable := trackFrom_stable s.part
  cases c
  case exitReadSummary | exitReadIndex | exitReadContainer | exitReadNextEscape =>
    obtain rfl := gives_act gives
    exact takeRequest_keeps stable _ _ _ _ (fun h t _ _ ht => serveExitRead_trackFrom ht _ h) start
  case lineStart =>
    obtain rfl := gives_act gives
    exact takeRequest_keeps stable _ _ _ _ (fun h t _ _ ht => serveLineStart_trackFrom ht h) start
  case lineStop =>
    obtain rfl := gives_act gives
    exact takeRequest_keeps stable _ _ _ _ (fun h t _ _ ht => serveLineStop_trackFrom ht h) start
  case verdict p n r w =>
    obtain rfl := gives_act gives
    exact stationFrameIn_trackFrom start p _ _ fun t ht => takeVerdict_trackFrom ht p n r w
  case encoderPulse =>
    obtain rfl := gives_act gives
    exact countPulse_trackFrom start
  case ignoredPitch =>
    obtain rfl := gives_act gives
    exact ignoredPitch_trackFrom start
  case gateTimerExpiry =>
    obtain rfl := gives_act gives
    exact gateExpiry_trackFrom start
  case reserve =>
    obtain rfl := gives_act gives
    exact takeFillRequest_keeps stable _ _ (fun t ht => takeReserve_trackFrom ht _ _ _ _) start
  case clear p =>
    obtain rfl := gives_act gives
    exact takeFillRequest_keeps stable _ _ (fun t ht => modRecord_trackFrom ht _ (Record.clearFill_alters p)) start
  case doseDone p f =>
    obtain rfl := gives_act gives
    exact takeFillRequest_keeps stable _ _ (fun t ht => modRecord_trackFrom ht _ (Record.doseDone_alters p f)) start
  case fillEnd p f e =>
    obtain rfl := gives_act gives
    exact takeFillRequest_keeps stable _ _ (fun t ht => modRecord_trackFrom ht _ (Record.fillEnd_alters p f e)) start
  case trkRestart =>
    obtain rfl := gives_act gives
    exact owed_keeps stable _ (fun t ht => restartTrk_trackFrom ht) start
  case mtuRestart =>
    obtain rfl := gives_act gives
    exact owed_keeps stable _ (fun t ht => restartMtu_trackFrom ht) start
  case restartCarryOut =>
    obtain rfl := gives_act gives
    exact restartCarryOut_trackFrom start
  case pitchEvent | supplyLowTimerExpiry | saveHoldExpiry | powerOn | settingJobEnd | powerLoss | settingWrite => cases still
  all_goals exact stable.of _ touches (of_decide_eq_true rfl) start

/-! ### The gate decision -/

/-- R36: a record decided PASS is a good one. -/
theorem causes_pass {s : Part} {r : Record} (h : (s.causes r).decision = .pass) : r.good = true := by
  have none : (s.causes r).any = false := by
    cases e : (s.causes r).any
    · rfl
    · simp [Causes.decision, e] at h
  simp only [Causes.any, Part.causes, Bool.or_eq_false_iff] at none
  obtain ⟨⟨⟨⟨⟨crossed, noFill⟩, fillFailed⟩, unreadable⟩, rejected⟩, -⟩ := none
  have filled : r.fill.any (·.result == .filled) = true := by
    cases e : r.fill with
    | none => simp [e] at noFill
    | some x => simpa [e] using fillFailed
  have passed : r.verdicts.all (·.result == .pass) = true := by
    rw [List.all_eq_true]
    intro v hv
    have notUnreadable := List.any_eq_false.mp unreadable v hv
    have notRejected := List.any_eq_false.mp rejected v hv
    cases e : v.result <;> simp [e] at notUnreadable notRejected ⊢
  simp [Record.good, crossed, filled, passed]

/-- R36, R37: the entry of a record decided with its own causes, or with more, is sound. -/
theorem exitEntry_sound {s : Part} {r : Record} {c : Causes} (h : c.decision = .pass → c = s.causes r) : (s.exitEntry r c).sound := by
  refine ⟨rfl, fun pass => ?_, fun escape => by cases escape⟩
  have e := h pass
  subst e
  exact causes_pass pass

theorem pushExit_length (l : List ExitEntry) (e : ExitEntry) : (pushExit l e).length ≤ Config.exitSize := by
  simp only [pushExit, List.length_drop, List.length_append, List.length_singleton]
  omega

theorem recordDecision_trk (r : Record) (c : Causes) (s : Part) :
    (recordDecision r c s).trk = { s.trk with exits := pushExit s.trk.exits (s.exitEntry r c) } := meterInc_trk _ _

theorem recordDecision_sound {s : Part} (hs : s.trk.sound) {r : Record} {c : Causes} (h : c.decision = .pass → c = s.causes r) :
    (recordDecision r c s).trk.sound := by
  obtain ⟨next, records, gate, -, entries⟩ := hs
  rw [recordDecision_trk]
  refine ⟨next, records, gate, pushExit_length _ _, fun e he => ?_⟩
  rcases List.mem_append.mp (List.mem_of_mem_drop he) with he | he
  · exact entries e he
  · rw [List.mem_singleton.mp he]
    exact exitEntry_sound h

theorem decideAtGate_sound {s : Part} (hs : s.trk.sound) (r : Record) : (decideAtGate r s).trk.sound := by
  obtain ⟨next, records, -, length, entries⟩ := recordDecision_sound (c := s.causes r) hs fun _ => rfl
  unfold decideAtGate driveGate
  dsimp only
  split <;> exact ⟨next, records, rfl, length, entries⟩

theorem decideInSave_sound {s : Part} (hs : s.trk.sound) (r : Record) : (decideInSave r s).trk.sound :=
  recordDecision_sound hs fun pass => by simp [Causes.decision, Causes.any] at pass

/-! ### Soundness -/

theorem departWindows_sound {s : Part} (hs : s.trk.sound) : (departWindows s).trk.sound :=
  (Trk.Alters.records s.nvs.line s.trk fun r => r.overrun_alters.ite _).sound hs

theorem passGate_sound {s : Part} (hs : s.trk.sound) : (passGate s).trk.sound := by
  refine forEach_keeps (fun t => t.trk.sound) _ _ (fun r _ t ht => decideAtGate_sound ht r) _ ?_
  obtain ⟨next, records, rest⟩ := hs
  exact ⟨next, fun r hr => records r (List.mem_of_mem_filter hr), rest⟩

theorem nextNumber_ne_zero {n : Half} : nextNumber n ≠ 0 := by
  unfold nextNumber
  split
  · decide
  · next h =>
    rw [show BitVec.allOnes 16 = 65535#16 from rfl] at h
    bv_omega

theorem enterContainer_sound {s : Part} (hs : s.trk.sound) : (enterContainer s).trk.sound := by
  obtain ⟨next, records, rest⟩ := hs
  rw [enterContainer, meterInc_trk]
  refine ⟨nextNumber_ne_zero, fun r hr => ?_, rest⟩
  rcases List.mem_append.mp hr with hr | hr
  · exact records r hr
  · rw [List.mem_singleton.mp hr]
    exact ⟨next, rfl⟩

theorem takePitch_sound (infeed : Bool) {s : Part} (hs : s.trk.sound) : (takePitch infeed s).trk.sound := by
  have passed := passGate_sound (departWindows_sound (s := { s with trk.pitch := s.trk.pitch + 1 }) hs)
  unfold takePitch
  dsimp only
  split
  · exact enterContainer_sound passed
  · exact passed

theorem pitchEvent_sound (infeed : Bool) {s : Part} (hs : s.trk.sound) : (pitchEvent infeed s).trk.sound := by
  unfold pitchEvent
  split
  · split
    · exact takePitch_sound infeed (s := { s with trk.pitchesDue := s.trk.pitchesDue - 1 }) hs
    · split
      · exact takePitch_sound infeed (s := { s with trk.pulses := 0 }) hs
      · exact hs
  · exact hs

theorem saveTrk_sound {s : Part} (hs : s.trk.sound) : (saveTrk s).trk.sound := by
  refine forEach_keeps (fun t => t.trk.sound) _ _ (fun r _ t ht => decideInSave_sound ht r) _ ?_
  obtain ⟨next, -, -, rest⟩ := hs
  exact ⟨next, fun r hr => (by cases hr), rfl, rest⟩

/-- R195: the other blocks leave TRK as its own save made it. -/
theorem enterSave_trk (s : Part) : (enterSave s).trk = (saveTrk { s with
    psc.state := .save, psc.supplyLowTimer := none, psc.saveHold := none, psc.restart := none, psc.owed := Owed.none }).trk := by
  simp only [enterSave, saveNvs, saveMtu, saveSva, savePrv, endContexts, saveSpx, saveFco]

theorem supplyLowExpiry_sound {s : Part} (hs : s.trk.sound) : (supplyLowExpiry s).trk.sound := by
  unfold supplyLowExpiry
  split
  · rw [enterSave_trk]
    exact saveTrk_sound hs
  · exact hs

theorem boot_sound (cause : RestartCause) (strap : Bool) (s : Part) : (boot cause strap s).trk.sound :=
  ⟨(by decide : (1 : Half) ≠ 0), fun r hr => (by cases hr), rfl, Nat.zero_le _, fun e he => (by cases he)⟩

theorem tellUser_trk (c : Setting) (s : Part) : (tellUser c s).trk = { s.trk with
    geometryPending := s.trk.geometryPending || match c with | .line _ => true | _ => false } := by
  cases c with
  | line g => simp [tellUser]
  | limits l => simp [tellUser, (loadLimits_touches s).trk (by decide)]
  | _ => simp [tellUser]

/-- R170: the end of a SETTING job leaves TRK as it was, but for the geometry pending mark. -/
theorem settingJobEnd_trackFrom (written : Bool) (s : Part) :
    s.trk.Alters s.nvs.line
      (endJob JobBody.setting? written (fun c o s => replyAll o .done (tellUser c s)) replyFault s).trk := by
  refine endJob_keeps (P := fun t => s.trk.Alters s.nvs.line t.trk) s (fun j c _ _ _ => ?_) (fun j c _ _ _ => ?_) (.refl _ _)
  · rw [(replyAll_touches (tellUser c _) j.origin .done).trk (by decide), tellUser_trk]
    exact { Trk.Alters.refl _ _ with }
  · rw [replyFault, (replyAll_touches _ j.origin .storeFault).trk (by decide), (raise_touches _ _).trk (by decide)]
    exact .refl _ _

/-- Settles O4: most commands alter TRK soundly, record by record (`exec_trackFrom`); a pitch event and a save decide records by their
causes. -/
theorem stepKeepsTrackSound : Obligations.StepKeepsTrackSound := by
  unfold Obligations.StepKeepsTrackSound
  intro s t sound stepped
  refine step_keeps (P := fun p => p.trk.sound) (fun c s t sound gives touches => ?_) sound stepped
  cases still : movesTrack c
  · exact (exec_trackFrom gives touches still).2.sound sound
  · cases c
    case pitchEvent infeed =>
      obtain rfl := gives_act gives
      exact pitchEvent_sound infeed sound
    case supplyLowTimerExpiry =>
      obtain rfl := gives_act gives
      exact supplyLowExpiry_sound sound
    case saveHoldExpiry | powerOn =>
      obtain rfl := gives_act gives
      exact ite_keeps (P := fun t => t.trk.sound) s.part (fun _ => boot_sound _ _ _) sound
    case settingJobEnd written =>
      obtain rfl := gives_act gives
      exact (settingJobEnd_trackFrom written s.part).sound sound
    case powerLoss | settingWrite => exact touches.trk (of_decide_eq_true rfl) ▸ sound
    all_goals cases still

end Sys2Proof.Machine
end

section
/-! The track in entry order: the numbers issued, the positions on the track, and the LINE sections that bound them. -/

namespace Sys2Proof.Machine

/-! ### Consecutive numbers -/

theorem numberedUpTo.drop {next : Half} {l : List Half} (h : numberedUpTo next l) (k : Nat) : numberedUpTo next (l.drop k) := by
  obtain ⟨nonzero, numbers⟩ := h
  refine ⟨nonzero, fun i hi => ?_⟩
  rw [List.length_drop] at hi ⊢
  obtain ⟨nz, e⟩ := numbers (k + i) (by omega)
  rw [List.getElem_drop]
  exact ⟨nz, by rw [← e]; congr 2; omega⟩

/-- R12: the number issued next stands last. -/
theorem numberedUpTo.issue {next : Half} {l : List Half} (h : numberedUpTo next l) : numberedUpTo (nextNumber next) (l ++ [next]) := by
  obtain ⟨nonzero, numbers⟩ := h
  have below := next.isLt
  have positive : 0 < next.toNat := Nat.pos_of_ne_zero fun e => nonzero (BitVec.eq_of_toNat_eq e)
  have following : (next.toNat - 1 + 1) % 65535 = (nextNumber next).toNat - 1 := by
    unfold nextNumber
    split
    · next e =>
      subst e
      rfl
    · next e =>
      rw [show BitVec.allOnes 16 = 65535#16 from rfl] at e
      bv_omega
  refine ⟨nextNumber_ne_zero, fun i hi => ?_⟩
  rw [List.length_append, List.length_singleton] at hi ⊢
  by_cases last : i < l.length
  · obtain ⟨nz, e⟩ := numbers i last
    rw [List.getElem_append_left last]
    refine ⟨nz, ?_⟩
    rw [← following, ← e]
    omega
  · obtain rfl : i = l.length := by omega
    simp only [List.getElem_concat_length]
    exact ⟨nonzero, by rw [← following]; congr 2; omega⟩

/-- Fewer than 65,535 consecutive numbers are all different. -/
theorem numberedUpTo.nodup {next : Half} {l : List Half} (h : numberedUpTo next l) (few : l.length ≤ 65535) : l.Nodup := by
  rw [List.nodup_iff_getElem?_ne_getElem?]
  intro i j hij hj
  have hi : i < l.length := by omega
  rw [List.getElem?_eq_getElem hi, List.getElem?_eq_getElem hj]
  intro e
  have e := Option.some.inj e
  obtain ⟨-, ei⟩ := h.2 i hi
  obtain ⟨-, ej⟩ := h.2 j hj
  rw [e] at ei
  omega

/-! ### Positions -/

/-- A row of different numbers below `g` is no longer than `g`. -/
theorem length_le_of_descending {l : List Nat} {g : Nat} (h : l.Pairwise (· > ·)) (below : ∀ x ∈ l, x < g) : l.length ≤ g := by
  have distinct : l.Nodup := h.imp fun hab => Nat.ne_of_gt hab
  simpa using (distinct.subperm (l₂ := List.range g) fun x hx => List.mem_range.mpr (below x hx)).length_le

/-- Of a falling row that reaches at most `g`, what stands at `g` stands first. -/
theorem descending_split {α : Type} {pos : α → Nat} {g : Nat} {l : List α} (h : (l.map pos).Pairwise (· > ·))
    (below : ∀ x ∈ l, pos x ≤ g) : (l.filter fun x => pos x == g) ++ (l.filter fun x => pos x != g) = l := by
  induction l with
  | nil => rfl
  | cons x l ih =>
    rw [List.map_cons, List.pairwise_cons] at h
    obtain ⟨first, rest⟩ := h
    have low (y : α) (hy : y ∈ l) : pos y < pos x := first _ (List.mem_map_of_mem hy)
    have hx := below x List.mem_cons_self
    have none : (l.filter fun x => pos x == g) = [] := List.filter_eq_nil_iff.mpr fun y hy => by
      have := low y hy
      simp only [beq_iff_eq]
      omega
    have ih := ih rest fun y hy => below y (List.mem_cons_of_mem x hy)
    rw [none, List.nil_append] at ih
    by_cases e : pos x = g
    · simp [e, none, ih]
    · simp [e, none, ih]

/-- R10: a pitch moves a record that is not beyond the track on by one. -/
theorem position_succ {t : Trk} {r : Record} (h : t.position r < 90) :
    ({ t with pitch := t.pitch + 1 } : Trk).position r = t.position r + 1 := by
  unfold Trk.position at h ⊢
  dsimp only
  bv_omega

/-! ### The LINE sections -/

/-- The LINE sections that are active, stored or on their way to store are within the ranges of R1. -/
def Part.linesFit (s : Part) : Prop :=
  geometryFits s.trk.geometry = true ∧ geometryFits s.nvs.line = true ∧ ∀ g ∈ s.nvs.lines, geometryFits g = true

theorem mem_lines {n : Nvs} {g : Geometry} : g ∈ n.lines ↔ ∃ j ∈ n.jobs, j.body = .setting (.line g) := by
  have line (j : Job) : j.line? = some g ↔ j.body = .setting (.line g) := by
    unfold Job.line?
    split
    · next h => simp [h]
    · next h => exact ⟨(by intro e; cases e), fun e => absurd e (h g)⟩
  simp [Nvs.lines, List.mem_filterMap, line]

/-- The positions and numbers of the track and the exit list. -/
def Trk.ordered (t : Trk) : Prop :=
  (t.track.map t.position).Pairwise (· > ·) ∧ (∀ r ∈ t.track, t.position r < t.geometry.gate) ∧
    numberedUpTo t.nextContainer t.containers ∧ t.exits.length ≤ Config.exitSize

theorem trackOrdered_iff (s : Part) : s.trackOrdered ↔ s.trk.ordered ∧ s.linesFit := by
  unfold Part.trackOrdered Trk.ordered Part.linesFit
  constructor
  · rintro ⟨falling, below, numbers, length, active, stored, coming⟩
    refine ⟨⟨falling, below, numbers, length⟩, active, stored, fun g hg => ?_⟩
    obtain ⟨j, hj, e⟩ := mem_lines.mp hg
    exact coming j hj g e
  · rintro ⟨⟨falling, below, numbers, length⟩, active, stored, coming⟩
    exact ⟨falling, below, numbers, length, active, stored, fun j hj g e => coming g (mem_lines.mpr ⟨j, hj, e⟩)⟩

theorem gate_le {g : Geometry} (h : geometryFits g = true) : g.gate ≤ 90 := by
  simp only [geometryFits, Bool.and_eq_true, decide_eq_true_eq] at h
  exact h.1.1.1.2

theorem Trk.ordered.length_le {t : Trk} (h : t.ordered) : t.track.length ≤ t.geometry.gate := by
  obtain ⟨falling, below, -⟩ := h
  simpa using length_le_of_descending falling (g := t.geometry.gate) (by simpa using below)

theorem Trk.ordered.nodup {t : Trk} (h : t.ordered) (fits : t.geometry.gate ≤ 90) : t.containers.Nodup := by
  have few := h.length_le
  obtain ⟨-, -, numbers, length⟩ := h
  refine numbers.nodup ?_
  simp only [Trk.containers, List.length_append, List.length_map]
  have : Config.exitSize = 16 := rfl
  omega

/-! ### Altered TRKs -/

theorem Trk.Alters.containers {line : Geometry} {t u : Trk} (h : t.Alters line u) : u.containers = t.containers := by
  obtain ⟨f, hf, ef⟩ := h.track
  obtain ⟨g, hg, eg⟩ := h.exits
  have numbers : (fun r : Record => r.container) ∘ f = fun r => r.container := funext fun r => (hf r).1
  have entries : (fun e : ExitEntry => e.record.container) ∘ g = fun e => e.record.container :=
    funext fun e => congrArg Record.container (hg e).1
  rw [Trk.containers, Trk.containers, ef, eg, List.map_map, List.map_map, numbers, entries]

theorem Trk.Alters.ordered {line : Geometry} {t u : Trk} (h : t.Alters line u) (ht : t.ordered) : u.ordered := by
  have same := h.containers
  obtain ⟨f, hf, ef⟩ := h.track
  obtain ⟨g, -, eg⟩ := h.exits
  have position (r : Record) : u.position (f r) = t.position r := by
    unfold Trk.position
    rw [h.pitch, (hf r).2.1]
  obtain ⟨falling, below, numbers, length⟩ := ht
  refine ⟨?_, fun r hr => ?_, by rwa [same, h.next], by rwa [eg, List.length_map]⟩
  · rw [ef, List.map_map]
    rwa [show u.position ∘ f = t.position from funext position]
  · obtain ⟨x, hx, rfl⟩ := List.mem_map.mp (ef ▸ hr)
    rcases h.geometry with e | ⟨empty, -⟩
    · rw [position, e]
      exact below x hx
    · rw [empty] at hx
      cases hx

/-- R2: the geometry that is active is the one before or the stored one. -/
theorem Part.TrackFrom.fits {a s : Part} (h : a.TrackFrom s) (fits : a.linesFit) (coming : s.nvs.lines ⊆ a.nvs.lines) :
    s.linesFit := by
  obtain ⟨line, alters⟩ := h
  obtain ⟨active, stored, waiting⟩ := fits
  refine ⟨?_, by rwa [line], fun g hg => waiting g (coming hg)⟩
  rcases alters.geometry with e | ⟨-, e⟩ <;> rw [e]
  · exact active
  · exact stored

/-! ### Decisions -/

/-- TRK went from `t` to `u` by deciding records with the numbers `l`: they join the exit list, of which the oldest may leave. -/
structure Trk.Decides (l : List Half) (t u : Trk) : Prop where
  next : u.nextContainer = t.nextContainer
  pitch : u.pitch = t.pitch
  geometry : u.geometry = t.geometry
  track : u.track = t.track
  length : t.exits.length ≤ Config.exitSize → u.exits.length ≤ Config.exitSize
  numbers : u.exits.map (·.record.container) <:+ t.exits.map (·.record.container) ++ l

theorem recordDecision_decides (r : Record) (c : Causes) (s : Part) : s.trk.Decides [r.container] (recordDecision r c s).trk := by
  rw [recordDecision_trk]
  refine ⟨rfl, rfl, rfl, rfl, fun _ => pushExit_length _ _, ?_⟩
  dsimp only [pushExit]
  rw [List.map_drop, List.map_append]
  exact List.drop_suffix _ _

theorem decideAtGate_decides (r : Record) (s : Part) : s.trk.Decides [r.container] (decideAtGate r s).trk := by
  have decided := recordDecision_decides r (s.causes r) s
  unfold decideAtGate driveGate
  dsimp only
  split <;> exact { decided with }

theorem forEach_decides {f : Record → Part → Part} (hf : ∀ (r : Record) (s : Part), s.trk.Decides [r.container] (f r s).trk)
    (l : List Record) (s : Part) :
    s.trk.Decides (l.map (·.container)) (forEach l f s).trk := by
  induction l generalizing s with
  | nil => exact ⟨rfl, rfl, rfl, rfl, id, by simp⟩
  | cons r l ih =>
    have first := hf r s
    have rest := ih (f r s)
    refine ⟨rest.next.trans first.next, rest.pitch.trans first.pitch, rest.geometry.trans first.geometry, rest.track.trans first.track,
      fun h => rest.length (first.length h), rest.numbers.trans ?_⟩
    obtain ⟨dropped, e⟩ := first.numbers
    exact ⟨dropped, by rw [← List.append_assoc, e, List.append_assoc, List.map_cons]; rfl⟩

theorem numberedUpTo.suffix {next : Half} {l m : List Half} (h : numberedUpTo next l) (hm : m <:+ l) : numberedUpTo next m := by
  rw [List.suffix_iff_eq_drop.mp hm]
  exact h.drop _

/-! ### A pitch event -/

/-- The track after the pitch count has moved on and before step 4: every record past the infeed, none past the gate. -/
def Trk.arriving (t : Trk) : Prop :=
  (t.track.map t.position).Pairwise (· > ·) ∧ (∀ r ∈ t.track, 0 < t.position r ∧ t.position r ≤ t.geometry.gate) ∧
    numberedUpTo t.nextContainer t.containers ∧ t.exits.length ≤ Config.exitSize

theorem Trk.ordered.arriving {t : Trk} (h : t.ordered) (fits : t.geometry.gate ≤ 90) :
    ({ t with pitch := t.pitch + 1 } : Trk).arriving := by
  obtain ⟨falling, below, numbers, length⟩ := h
  have moved (r : Record) (hr : r ∈ t.track) : ({ t with pitch := t.pitch + 1 } : Trk).position r = t.position r + 1 :=
    position_succ (Nat.lt_of_lt_of_le (below r hr) fits)
  refine ⟨?_, fun r hr => ?_, numbers, length⟩
  · dsimp only
    rw [List.map_congr_left moved, List.pairwise_map]
    rw [List.pairwise_map] at falling
    exact falling.imp fun h => Nat.succ_lt_succ h
  · rw [moved r hr]
    exact ⟨Nat.succ_pos _, below r hr⟩

theorem Trk.Alters.arriving {line : Geometry} {t u : Trk} (h : t.Alters line u) (same : u.geometry = t.geometry) (ht : t.arriving) :
    u.arriving := by
  have numbered := h.containers
  obtain ⟨f, hf, ef⟩ := h.track
  obtain ⟨g, -, eg⟩ := h.exits
  have position (r : Record) : u.position (f r) = t.position r := by
    unfold Trk.position
    rw [h.pitch, (hf r).2.1]
  obtain ⟨falling, below, numbers, length⟩ := ht
  refine ⟨?_, fun r hr => ?_, by rwa [numbered, h.next], by rwa [eg, List.length_map]⟩
  · rw [ef, List.map_map]
    rwa [show u.position ∘ f = t.position from funext position]
  · obtain ⟨x, hx, rfl⟩ := List.mem_map.mp (ef ▸ hr)
    rw [position, same]
    exact below x hx

/-- R9 step 4, R23: what has reached the gate is the head of the track; the rest stays in order, past the infeed. -/
theorem passGate_ordered {s : Part} (h : s.trk.arriving) :
    (passGate s).trk.ordered ∧ ∀ r ∈ (passGate s).trk.track, 0 < (passGate s).trk.position r := by
  obtain ⟨falling, between, numbers, length⟩ := h
  have split := descending_split falling fun r hr => (between r hr).2
  have decided := forEach_decides decideAtGate_decides (s.trk.track.filter fun r => s.trk.position r == s.trk.geometry.gate)
    { s with trk.track := s.trk.track.filter fun r => s.trk.position r != s.trk.geometry.gate }
  have position : (passGate s).trk.position = s.trk.position := by
    funext r
    unfold Trk.position
    rw [show (passGate s).trk.pitch = s.trk.pitch from decided.pitch]
  have track : (passGate s).trk.track = s.trk.track.filter fun r => s.trk.position r != s.trk.geometry.gate := decided.track
  have left (r : Record) (hr : r ∈ (passGate s).trk.track) : 0 < s.trk.position r ∧ s.trk.position r < s.trk.geometry.gate := by
    rw [track, List.mem_filter, bne_iff_ne] at hr
    have := between r hr.1
    omega
  refine ⟨⟨?_, fun r hr => ?_, ?_, decided.length length⟩, fun r hr => by rw [position]; exact (left r hr).1⟩
  · rw [position, track]
    exact falling.sublist (List.filter_sublist.map _)
  · rw [position, show (passGate s).trk.geometry = s.trk.geometry from decided.geometry]
    exact (left r hr).2
  · rw [show (passGate s).trk.nextContainer = s.trk.nextContainer from decided.next]
    refine numbers.suffix ?_
    obtain ⟨dropped, e⟩ := decided.numbers
    refine ⟨dropped, ?_⟩
    rw [Trk.containers, ← List.append_assoc, track]
    change dropped ++ (forEach _ decideAtGate _).trk.exits.map _ ++ _ = _
    rw [e, List.append_assoc, ← List.map_append, split]
    rfl

theorem enterContainer_ordered {s : Part} (h : s.trk.ordered) (away : ∀ r ∈ s.trk.track, 0 < s.trk.position r)
    (gate : 0 < s.trk.geometry.gate) : (enterContainer s).trk.ordered := by
  obtain ⟨falling, below, numbers, length⟩ := h
  have entered (r : Record) (e : r.entry = s.trk.pitch) : s.trk.position r = 0 := by simp [Trk.position, e]
  rw [enterContainer, meterInc_trk]
  refine ⟨?_, fun r hr => ?_, ?_, length⟩
  · rw [List.map_append, List.pairwise_append]
    refine ⟨falling, List.pairwise_singleton _ _, fun x hx y hy => ?_⟩
    obtain ⟨r, hr, rfl⟩ := List.mem_map.mp hx
    obtain ⟨new, hnew, rfl⟩ := List.mem_map.mp hy
    rw [List.mem_singleton.mp hnew]
    exact (entered ⟨s.trk.nextContainer, s.trk.pitch, none, [], false⟩ rfl).symm ▸ away r hr
  · rcases List.mem_append.mp hr with hr | hr
    · exact below r hr
    · rw [List.mem_singleton.mp hr]
      exact (entered ⟨s.trk.nextContainer, s.trk.pitch, none, [], false⟩ rfl).symm ▸ gate
  · simpa [Trk.containers] using numbers.issue

theorem passGate_geometry (s : Part) : (passGate s).trk.geometry = s.trk.geometry :=
  (forEach_decides decideAtGate_decides _ _).geometry

theorem takePitch_ordered (infeed : Bool) {s : Part} (h : s.trk.ordered) (fits : geometryFits s.trk.geometry = true) :
    (takePitch infeed s).trk.ordered := by
  have departed : (departWindows { s with trk.pitch := s.trk.pitch + 1 }).trk.arriving :=
    Trk.Alters.arriving (Trk.Alters.records s.nvs.line { s.trk with pitch := s.trk.pitch + 1 } fun r => r.overrun_alters.ite _) rfl
      (h.arriving (gate_le fits))
  obtain ⟨passed, away⟩ := passGate_ordered departed
  unfold takePitch
  dsimp only
  split
  · refine enterContainer_ordered passed away ?_
    rw [passGate_geometry]
    simp only [geometryFits, Bool.and_eq_true, decide_eq_true_eq] at fits
    exact Nat.lt_of_lt_of_le (by decide) fits.1.1.1.1
  · exact passed

theorem pitchEvent_ordered (infeed : Bool) {s : Part} (h : s.trk.ordered) (fits : geometryFits s.trk.geometry = true) :
    (pitchEvent infeed s).trk.ordered := by
  unfold pitchEvent
  split
  · split
    · exact takePitch_ordered infeed (s := { s with trk.pitchesDue := s.trk.pitchesDue - 1 }) h fits
    · split
      · exact takePitch_ordered infeed (s := { s with trk.pulses := 0 }) h fits
      · exact h
  · exact h

theorem takePitch_geometry (infeed : Bool) (s : Part) : (takePitch infeed s).trk.geometry = s.trk.geometry := by
  have passed := passGate_geometry (departWindows { s with trk.pitch := s.trk.pitch + 1 })
  unfold takePitch
  dsimp only
  split
  · rw [enterContainer, meterInc_trk]
    exact passed
  · exact passed

theorem pitchEvent_geometry (infeed : Bool) (s : Part) : (pitchEvent infeed s).trk.geometry = s.trk.geometry := by
  unfold pitchEvent
  split
  · split
    · exact takePitch_geometry _ _
    · split
      · exact takePitch_geometry _ _
      · rfl
  · rfl

/-! ### A save -/

theorem saveTrk_decides (s : Part) : ({ s.trk with gate := false, gateTimer := none, track := [] } : Trk).Decides
    (s.trk.track.map (·.container)) (saveTrk s).trk :=
  forEach_decides (fun r _ => recordDecision_decides r _ _) s.trk.track
    { s with trk := { s.trk with gate := false, gateTimer := none, track := [] } }

theorem saveTrk_ordered {s : Part} (h : s.trk.ordered) : (saveTrk s).trk.ordered := by
  obtain ⟨-, -, numbers, length⟩ := h
  have decided := saveTrk_decides s
  have track : (saveTrk s).trk.track = [] := decided.track
  refine ⟨by simp [track], by simp [track], ?_, decided.length length⟩
  rw [show (saveTrk s).trk.nextContainer = s.trk.nextContainer from decided.next]
  refine numbers.suffix ?_
  rw [Trk.containers, track, List.map_nil, List.append_nil]
  exact decided.numbers

theorem supplyLowExpiry_ordered {s : Part} (h : s.trk.ordered) : (supplyLowExpiry s).trk.ordered := by
  unfold supplyLowExpiry
  split
  · rw [enterSave_trk]
    exact saveTrk_ordered h
  · exact h

theorem supplyLowExpiry_geometry (s : Part) : (supplyLowExpiry s).trk.geometry = s.trk.geometry := by
  unfold supplyLowExpiry
  split
  · rw [enterSave_trk]
    exact (saveTrk_decides _).geometry
  · rfl

/-! ### Power-on, jobs and requests -/

theorem boot_ordered (cause : RestartCause) (strap : Bool) (s : Part) : (boot cause strap s).trk.ordered :=
  ⟨List.Pairwise.nil, fun r hr => (by cases hr), ⟨(by decide : (1 : Half) ≠ 0), fun i hi => absurd hi (Nat.not_lt_zero i)⟩,
    Nat.zero_le _⟩

/-- The store at power-on has no job, and the LINE section it had. -/
theorem bootNvs_fits {s : Part} (h : s.linesFit) : geometryFits (bootNvs s.nvs).line = true ∧
    ∀ g ∈ (bootNvs s.nvs).lines, geometryFits g = true := ⟨h.2.1, fun g hg => by cases hg⟩

theorem boot_fits {s : Part} (h : s.linesFit) (cause : RestartCause) (strap : Bool) : (boot cause strap s).linesFit :=
  ⟨h.2.1, (bootNvs_fits h).1, (bootNvs_fits h).2⟩

/-- What a job on its way writes as the LINE section fits. -/
theorem commit_fits {s : Part} (h : s.linesFit) {j : Job} (hj : j ∈ s.nvs.jobs) (n : Nvs) (hn : n.line = s.nvs.line) :
    geometryFits (n.commit j.body).line = true := by
  obtain ⟨-, stored, coming⟩ := h
  by_cases line : ∃ g, j.body = .setting (.line g)
  · obtain ⟨g, e⟩ := line
    rw [e]
    exact coming g (mem_lines.mpr ⟨j, hj, e⟩)
  · rw [commit_line n fun g e => line ⟨g, e⟩, hn]
    exact stored

theorem linesFit_stable : Stable trackless Part.linesFit := by
  intro s t touches ⟨active, stored, coming⟩
  obtain ⟨line, lines⟩ := touches.lines (by decide)
  exact ⟨by rwa [touches.trk (by decide)], by rwa [line], fun g hg => coming g (lines hg)⟩

theorem tellUser_fits {s : Part} (h : s.linesFit) (c : Setting) : (tellUser c s).linesFit := by
  obtain ⟨active, stored, coming⟩ := h
  obtain ⟨line, lines⟩ := (tellUser_touches s c).lines (by decide)
  exact ⟨by rwa [tellUser_trk], by rwa [line], fun g hg => coming g (lines hg)⟩

theorem settingJobEnd_fits {s : Part} (h : s.linesFit) (written : Bool) :
    (endJob JobBody.setting? written (fun c o s => replyAll o .done (tellUser c s)) replyFault s).linesFit := by
  have landed {n : Nvs} (queue : n.queue = s.nvs.queue) (flying : n.inFlight = none) : n.lines ⊆ s.nvs.lines := by
    intro g hg
    obtain ⟨j, hj, e⟩ := mem_lines.mp hg
    refine mem_lines.mpr ⟨j, ?_, e⟩
    simp only [Nvs.jobs, queue, flying, Option.toList_none, List.nil_append] at hj
    exact List.mem_append_right _ hj
  refine endJob_keeps s (fun j c flying _ _ => ?_) (fun j c _ _ _ => ?_) h
  · refine linesFit_stable.nil _ (replyAll_touches _ j.origin .done) (tellUser_fits ?_ c)
    have mem : j ∈ s.nvs.jobs := by simp [Nvs.jobs, flying]
    exact ⟨h.1, commit_fits h mem _ rfl, fun g hg => h.2.2 g (landed (by rw [commit_queue]) (by rw [commit_inFlight]) hg)⟩
  · refine linesFit_stable.nil _ ((raise_touches _ (.storeFault j.body)).trans (replyAll_touches _ j.origin .storeFault)) ?_
    exact ⟨h.1, h.2.1, fun g hg => h.2.2 g (landed (n := { s.nvs with inFlight := none }) rfl rfl hg)⟩

theorem losePower_fits {s : Part} (h : s.linesFit) (written : Bool) : (losePower written s).linesFit := by
  unfold losePower
  split
  · exact h
  · refine ⟨h.1, ?_, fun g hg => by cases hg⟩
    dsimp only [bootNvs]
    split
    · exact h.2.1
    · next j flying =>
      split
      · exact commit_fits h (by simp [Nvs.jobs, flying]) s.nvs rfl
      · exact h.2.1

/-- R169 step 4: what a SETTING WRITE spells for LINE fits. -/
theorem settingOf_line {r : UnitRef} {u : List Byte} {g : Geometry} (h : settingOf r u = some (.line g)) : geometryFits g = true := by
  cases r with
  | line =>
    simp only [settingOf, guarded, Option.ite_none_right_eq_some, Bool.and_eq_true, Option.some.injEq, Setting.line.injEq] at h
    obtain ⟨⟨fits, -⟩, rfl⟩ := h
    exact fits
  | feed f => simp [settingOf, guarded, Option.bind_eq_some_iff] at h
  | port p => simp [settingOf, Option.bind_eq_some_iff] at h
  | meter p => simp [settingOf] at h
  | badge i => simp [settingOf, Option.bind_eq_some_iff] at h
  | key k => simp [settingOf] at h
  | limits => simp [settingOf, guarded] at h

theorem writeUnit_fits {s : Part} (h : s.linesFit) (n : Nat) (r : UnitRef) (u : List Byte) : (writeUnit n r u s).linesFit := by
  refine orBadValue_keeps linesFit_stable s n (fun c hc => ?_) h
  refine check_keeps linesFit_stable s n _ (fun _ => check_keeps linesFit_stable s n _ (fun _ => ?_) h) h
  obtain ⟨spelled, -⟩ := Option.filter_eq_some_iff.mp hc
  refine ⟨h.1, h.2.1, fun g hg => ?_⟩
  obtain ⟨j, hj, e⟩ := mem_lines.mp hg
  simp only [queueJob, Nvs.jobs, ← List.append_assoc, List.mem_append, List.mem_singleton] at hj
  rcases hj with hj | rfl
  · exact h.2.2 g (mem_lines.mpr ⟨j, List.mem_append.mpr hj, e⟩)
  · exact settingOf_line (spelled.trans (congrArg some (JobBody.setting.inj e)))

theorem serveSettingWrite_fits {s : Part} (h : s.linesFit) (d : List Byte) (n : Nat) : (serveSettingWrite d n s).linesFit := by
  unfold serveSettingWrite
  dsimp only
  split
  · exact orBadValue_keeps linesFit_stable s n
      (fun r _ => check_keeps linesFit_stable s n _ (fun _ => writeUnit_fits h n r _) h) h
  · exact withSession_keeps linesFit_stable s n _ _
      (fun _ t ht => orBadValue_keeps linesFit_stable t n (fun r _ => writeUnit_fits ht n r _) ht) h

/-! ### The statement -/

theorem exec_trackOrdered {c : Instr} {s : State} {t : Part} (h : s.part.trackOrdered) (gives : Gives c s t)
    (touches : Touches (.names :: viewsOf c) s.part t) : t.trackOrdered := by
  rw [trackOrdered_iff] at h ⊢
  obtain ⟨ordered, fits⟩ := h
  have kept (geometry : t.trk.geometry = s.part.trk.geometry) (untouched : .lines ∉ .names :: viewsOf c) : t.linesFit := by
    obtain ⟨line, lines⟩ := touches.lines untouched
    exact ⟨by rw [geometry]; exact fits.1, by rw [line]; exact fits.2.1, fun g hg => fits.2.2 g (lines hg)⟩
  cases still : movesTrack c
  · have altered := exec_trackFrom gives touches still
    refine ⟨altered.2.ordered ordered, altered.fits fits (touches.lines ?_).2⟩
    cases c
    case settingWrite | settingJobEnd | powerLoss => cases still
    all_goals exact of_decide_eq_true rfl
  · cases c
    case pitchEvent infeed =>
      obtain rfl := gives_act gives
      exact ⟨pitchEvent_ordered infeed ordered fits.1, kept (pitchEvent_geometry infeed _) (of_decide_eq_true rfl)⟩
    case supplyLowTimerExpiry =>
      obtain rfl := gives_act gives
      exact ⟨supplyLowExpiry_ordered ordered, kept (supplyLowExpiry_geometry _) (of_decide_eq_true rfl)⟩
    case saveHoldExpiry | powerOn =>
      obtain rfl := gives_act gives
      exact ite_keeps (P := fun t => t.trk.ordered ∧ t.linesFit) s.part
        (fun _ => ⟨boot_ordered _ _ _, boot_fits fits _ _⟩) ⟨ordered, fits⟩
    case settingJobEnd written =>
      obtain rfl := gives_act gives
      exact ⟨(settingJobEnd_trackFrom written s.part).ordered ordered, settingJobEnd_fits fits written⟩
    case powerLoss written =>
      obtain rfl := gives_act gives
      exact ⟨touches.trk (of_decide_eq_true rfl) ▸ ordered, losePower_fits fits written⟩
    case settingWrite tag d =>
      obtain rfl := gives_act gives
      exact ⟨touches.trk (of_decide_eq_true rfl) ▸ ordered,
        takeRequest_keeps linesFit_stable _ _ _ _ (fun n t _ _ ht => serveSettingWrite_fits ht d n) fits⟩
    all_goals cases still

/-- Settles O5: a pitch event moves every record on by one and takes off the head alone, decisions put numbers from the track's head at
the exit list's tail, and every LINE section on its way to store fits. -/
theorem stepKeepsTrackOrdered : Obligations.StepKeepsTrackOrdered := by
  unfold Obligations.StepKeepsTrackOrdered
  intro s t ordered stepped
  have kept : t.part.trackOrdered :=
    step_keeps (P := Part.trackOrdered) (fun c s t h gives touches => exec_trackOrdered h gives touches) ordered stepped
  obtain ⟨track, active, -⟩ := (trackOrdered_iff t.part).mp kept
  exact ⟨kept, track.nodup (gate_le active), track.length_le, gate_le active⟩

end Sys2Proof.Machine
end

section
/-! SVA's sessions: at most three, no number and no badge twice, and room for the badge whose exchange is under way. -/

namespace Sys2Proof.Machine

/-! ### What sessions and reader need -/

/-- No exchange is under way at the reader. -/
def Reader.idle (r : Reader) : Prop := ∀ b x, r ≠ .challenging b x

/-- The numbers and badges of the open sessions. -/
def Sva.open (v : Sva) : List (Byte × Word) := v.sessions.map fun x => (x.num, x.badge)

/-- The invariant of the sessions, over their numbers and badges. -/
def sessionsFit (r : Reader) (l : List (Byte × Word)) : Prop :=
  l.length ≤ Config.sessionSize ∧ (l.map (·.2)).Nodup ∧ (l.map (·.1)).Nodup ∧ (∀ x ∈ l, x.1 ≠ 0) ∧
    ∀ b x, r = .challenging b x → l.length < Config.sessionSize ∧ ∀ y ∈ l, y.2 ≠ b

theorem sessionsSound_iff (v : Sva) : v.sessionsSound ↔ sessionsFit v.reader v.open := by
  have badges : v.open.map (·.2) = v.sessions.map (·.badge) := by simp [Sva.open]
  have numbers : v.open.map (·.1) = v.sessions.map (·.num) := by simp [Sva.open]
  unfold Sva.sessionsSound sessionsFit
  rw [badges, numbers]
  cases v.reader <;> simp [Sva.open]

theorem sessionsFit.mono {r q : Reader} {l m : List (Byte × Word)} (h : sessionsFit r l) (sub : m.Sublist l) (hq : q = r ∨ q.idle) :
    sessionsFit q m := by
  obtain ⟨length, badges, numbers, nonzero, exchange⟩ := h
  refine ⟨sub.length_le.trans length, badges.sublist (sub.map _), numbers.sublist (sub.map _), fun x hx => nonzero x (sub.subset hx),
    fun b x e => ?_⟩
  rcases hq with rfl | idle
  · obtain ⟨room, other⟩ := exchange b x e
    exact ⟨Nat.lt_of_le_of_lt sub.length_le room, fun y hy => other y (sub.subset hy)⟩
  · exact absurd e (idle b x)

/-- Sessions may end, and the reader may become idle. -/
theorem Sva.sessionsSound.mono {v w : Sva} (h : v.sessionsSound) (sub : w.open.Sublist v.open)
    (reader : w.reader = v.reader ∨ w.reader.idle) : w.sessionsSound :=
  (sessionsSound_iff w).mpr (((sessionsSound_iff v).mp h).mono sub reader)

/-- The views that the sessions' invariant does not look at. -/
def sessionless : List View :=
  [.hlc, .supply, .trk, .feeds, .places, .needs, .admission, .barred, .relay, .contexts, .counts, .holders, .store, .queue, .lines, .holds]

theorem sessionsSound_stable : Stable sessionless fun s => s.sva.sessionsSound := fun _ _ touches hs =>
  hs.mono (touches.sessions (by decide)) (.inl (touches.reader (by decide)))

/-- After an operation that leaves the sessions and may turn the reader idle. -/
theorem sessionsSound_touched {W : List View} {s t : Part} (hs : s.sva.sessionsSound) (touches : Touches W s t) (hw : .sessions ∉ W)
    (reader : t.sva.reader = s.sva.reader ∨ t.sva.reader.idle) : t.sva.sessionsSound := hs.mono (touches.sessions hw) reader

theorem Reader.ready_idle : Reader.ready.idle := fun _ _ h => by cases h

theorem Reader.barred_idle : Reader.barred.idle := fun _ _ h => by cases h

/-! ### The evaluation of the reader -/

theorem barReader_reader (s : Part) : (barReader s).sva.reader = .barred := rfl

theorem evalReader_sessions {s : Part} (hs : s.sva.sessionsSound) : (evalReader s).sva.sessionsSound := by
  refine sessionsSound_touched hs (evalReader_touches s) (by decide) ?_
  unfold evalReader
  split
  · exact .inl rfl
  · split
    · exact .inr (barReader_reader s ▸ Reader.barred_idle)
    · split
      · exact .inr Reader.ready_idle
      · exact .inl rfl

theorem evalAll_sessions {s : Part} (hs : s.sva.sessionsSound) : (evalAll s).sva.sessionsSound :=
  evalReader_sessions (forEach_keeps (fun t => t.sva.sessionsSound) _ _
    (fun p _ t ht => sessionsSound_stable.of t (evalPort_touches t p) (by decide) ht) s hs)

theorem evalSubject_sessions {s : Part} (hs : s.sva.sessionsSound) (w : Subject) : (evalSubject w s).sva.sessionsSound := by
  cases w with
  | port p => exact sessionsSound_stable.of s (evalPort_touches s p) (by decide) hs
  | reader => exact evalReader_sessions hs

theorem countFailure_sessions {s : Part} (hs : s.sva.sessionsSound) (w : Subject) : (countFailure w s).sva.sessionsSound := by
  unfold countFailure
  refine evalSubject_sessions ?_ w
  split
  · exact sessionsSound_stable.of s (retakeCount_touches s w _) (by decide) hs
  · exact sessionsSound_stable.of s (setCount_touches s w _) (by decide) hs

theorem loadAttemptLimits_sessions {s : Part} (hs : s.sva.sessionsSound) : (loadAttemptLimits s).sva.sessionsSound := hs

theorem loadLimits_sessions {s : Part} (hs : s.sva.sessionsSound) : (loadLimits s).sva.sessionsSound :=
  evalAll_sessions (loadAttemptLimits_sessions hs)

theorem restartPrv_sessions {s : Part} (hs : s.sva.sessionsSound) : (restartPrv s).sva.sessionsSound :=
  evalAll_sessions (loadAttemptLimits_sessions hs)

theorem tellUser_sessions {s : Part} (hs : s.sva.sessionsSound) (c : Setting) : (tellUser c s).sva.sessionsSound := by
  cases c with
  | limits l => exact loadLimits_sessions hs
  | meter p m => exact sessionsSound_stable.nil _ (evalService_touches _ p) hs
  | _ => exact hs

/-! ### The reader's exchange -/

theorem readerReady_sessions {s : Part} (hs : s.sva.sessionsSound) :
    ({ s with sva.reader := .ready, prv.readerContext := none } : Part).sva.sessionsSound :=
  hs.mono (List.Sublist.refl _) (.inr Reader.ready_idle)

theorem denyBadge_sessions {s : Part} (hs : s.sva.sessionsSound) : (denyBadge s).sva.sessionsSound := by
  unfold denyBadge
  refine countFailure_sessions ?_ .reader
  exact sessionsSound_stable.nil _ (sendReader_touches _ _) (readerReady_sessions hs)

theorem enabledBadge_badge {v : Sva} {badge : Word} {r : BadgeRec} (h : v.enabledBadge badge = some r) : r.badge = badge := by
  unfold Sva.enabledBadge at h
  split at h
  · cases h
  · have found := List.find?_some (Option.filter_eq_some_iff.mp h).1
    exact eq_of_beq found

theorem challengeBadge_sessions {s : Part} (hs : s.sva.sessionsSound) {r : BadgeRec} (room : s.sva.sessions.length < Config.sessionSize)
    (other : ∀ x ∈ s.sva.sessions, x.badge ≠ r.badge) : (challengeBadge r s).sva.sessionsSound := by
  obtain ⟨length, badges, numbers, nonzero, -⟩ := hs
  refine sessionsSound_stable.nil _ (sendReader_touches _ _) ?_
  exact ⟨length, badges, numbers, nonzero, room, other⟩

theorem presentReady_sessions {s : Part} (hs : s.sva.sessionsSound) (badge : Word) : (presentReady badge s).sva.sessionsSound := by
  unfold presentReady
  split
  · exact sessionsSound_stable.nil _ (sendReader_touches s _) hs
  · next room =>
    split
    · exact sessionsSound_stable.nil _ (sendReader_touches s _) hs
    · next other =>
      split
      · exact denyBadge_sessions hs
      · next r found =>
        refine challengeBadge_sessions hs (Nat.not_le.mp room) fun x hx => ?_
        rw [enabledBadge_badge found]
        simp only [List.any_eq_true, beq_iff_eq, not_exists, not_and] at other
        exact other x hx

theorem takePresent_sessions {s : Part} (hs : s.sva.sessionsSound) (badge : Word) : (takePresent badge s).sva.sessionsSound := by
  unfold takePresent
  split
  · have awake := sessionsSound_stable.nil _ (wakeUp_touches s .reader) hs
    unfold servePresent
    split
    · exact presentReady_sessions awake badge
    · exact denyBadge_sessions awake
    · exact sessionsSound_stable.nil _ (sendReader_touches _ _) awake
  · exact hs

/-! ### A new session's number -/

theorem nextSession_ne_zero (n : Byte) : nextSession n ≠ 0 := by
  unfold nextSession
  split <;> bv_omega

theorem nextSession_ne (n : Byte) : nextSession n ≠ n ∧ nextSession (nextSession n) ≠ n := by
  unfold nextSession
  constructor
  · split <;> bv_omega
  · split
    · split <;> bv_omega
    · split <;> bv_omega

theorem freeSession_ne_zero (v : Sva) (k : Nat) (n : Byte) (h : n ≠ 0) : freeSession v k n ≠ 0 := by
  induction k generalizing n with
  | zero => exact h
  | succ k ih =>
    unfold freeSession
    split
    · exact ih _ (nextSession_ne_zero n)
    · exact h

/-- R126: with at most two sessions open, a number that none of them holds is found. -/
theorem freeSession_free {v : Sva} (few : v.sessions.length < 3) (n : Byte) :
    ∀ x ∈ v.sessions, x.num ≠ freeSession v 4 n := by
  have taken {m : Byte} (e : v.sessions.any (·.num == m) = true) : m ∈ v.sessions.map (·.num) := by
    obtain ⟨x, hx, e⟩ := List.any_eq_true.mp e
    exact List.mem_map.mpr ⟨x, hx, eq_of_beq e⟩
  have free {m : Byte} (e : ¬ v.sessions.any (·.num == m) = true) (x : Session) (hx : x ∈ v.sessions) : x.num ≠ m := fun e' =>
    e (List.any_eq_true.mpr ⟨x, hx, beq_iff_eq.mpr e'⟩)
  unfold freeSession
  split
  · next first =>
    unfold freeSession
    split
    · next second =>
      unfold freeSession
      split
      · next third =>
        obtain ⟨one, two⟩ := nextSession_ne n
        have one' := (nextSession_ne (nextSession n)).1
        have distinct : [n, nextSession n, nextSession (nextSession n)].Nodup := by
          simp [one.symm, two.symm, one'.symm]
        have sub : [n, nextSession n, nextSession (nextSession n)] ⊆ v.sessions.map (·.num) := by
          simp [List.cons_subset, taken first, taken second, taken third]
        have := (distinct.subperm sub).length_le
        simp at this
        omega
      · next third => exact free third
    · next second => exact free second
  · next first => exact free first

/-- R127: the session of the badge noted joins, with a number that is free. -/
theorem openSession_sessions {s : Part} (hs : s.sva.sessionsSound) {badge : Word} {role : BadgeRole}
    (exchange : s.sva.reader = .challenging badge role) (proof : Block) : (openSession badge role proof s).sva.sessionsSound := by
  obtain ⟨-, badges, numbers, nonzero, pending⟩ := hs
  rw [exchange] at pending
  obtain ⟨room, other⟩ := pending
  have fresh := freeSession_free room (nextSession s.sva.lastSession)
  refine sessionsSound_stable.nil _ (raise_touches _ _) ?_
  refine sessionsSound_stable.of _ (setCount_touches _ .reader 0) (by decide) ?_
  refine sessionsSound_stable.nil _ (sendReader_touches _ _) ?_
  refine ⟨?_, ?_, ?_, fun x hx => ?_, trivial⟩
  · simpa using room
  · simp only [List.map_append, List.map_cons, List.map_nil]
    exact List.nodup_append.mpr ⟨badges, List.nodup_singleton _, by simpa using other⟩
  · simp only [List.map_append, List.map_cons, List.map_nil]
    exact List.nodup_append.mpr ⟨numbers, List.nodup_singleton _, by simpa [Sva.newSession] using fresh⟩
  · rcases List.mem_append.mp hx with hx | hx
    · exact nonzero x hx
    · rw [List.mem_singleton.mp hx]
      exact freeSession_ne_zero _ _ _ (nextSession_ne_zero _)

theorem takeReaderProof_sessions {s : Part} (hs : s.sva.sessionsSound) (nb proof : Block) :
    (takeReaderProof nb proof s).sva.sessionsSound := by
  unfold takeReaderProof
  split
  · split
    · next badge role exchange =>
      have touched := wakeUp_touches s .reader
      have awake := sessionsSound_stable.nil _ touched hs
      unfold badgeProof
      split
      · exact sessionsSound_stable.nil _ (sendReader_touches _ _) (awake.mono (List.Sublist.refl _) (.inr Reader.ready_idle))
      · split
        · exact openSession_sessions awake ((touched.reader (by decide)).trans exchange) _
        · exact denyBadge_sessions awake
    · exact sessionsSound_stable.nil _ (sendReader_touches s _) hs
  · exact hs

theorem readerProofExpiry_sessions {s : Part} (hs : s.sva.sessionsSound) : (readerProofExpiry s).sva.sessionsSound := by
  unfold readerProofExpiry
  split
  · exact hs
  · split
    · exact denyBadge_sessions hs
    · exact hs

theorem barExpiry_sessions {s : Part} (hs : s.sva.sessionsSound) : (barExpiry s).sva.sessionsSound := by
  unfold barExpiry
  split
  · exact (sessionsSound_stable.of s (setCount_touches s .reader 0) (by decide) hs).mono (List.Sublist.refl _)
      (.inr Reader.ready_idle)
  · exact hs

/-! ### The statement -/

theorem restartSva_sessions (s : Part) : (restartSva s).sva.sessionsSound := by
  refine (sessionsSound_iff _).mpr ⟨Nat.zero_le _, List.nodup_nil, List.nodup_nil, fun x hx => (by cases hx), fun b x e => ?_⟩
  cases h : s.sva.reader <;> simp [restartSva, h, Reader.restarted] at e

theorem boot_sessions (cause : RestartCause) (strap : Bool) (s : Part) : (boot cause strap s).sva.sessionsSound := by
  refine (sessionsSound_iff _).mpr ⟨Nat.zero_le _, List.nodup_nil, List.nodup_nil, fun x hx => (by cases hx), fun b x e => ?_⟩
  simp only [boot, bootSva] at e
  split at e <;> cases e

/-- The end of a job in flight, raised or committed, leaves the sessions. -/
theorem jobEnd_sessions {α : Type} {s : Part} (hs : s.sva.sessionsSound) {pick : JobBody → Option α} {written : Bool}
    {ok : α → List Nat → Part → Part} (hok : ∀ a o t, t.sva.sessionsSound → (ok a o t).sva.sessionsSound) :
    (endJob pick written ok replyFault s).sva.sessionsSound :=
  endJob_keeps (P := fun t => t.sva.sessionsSound) s (fun j a _ _ _ => hok a j.origin _ hs)
    (fun j _ _ _ _ => sessionsSound_stable.nil _ ((raise_touches _ (.storeFault j.body)).trans (replyAll_touches _ j.origin .storeFault))
      hs) hs

/-- Settles O7: the reader's exchange begins with room and for a badge without a session, and a new session takes a free number. -/
theorem stepKeepsSessionsSound : Obligations.StepKeepsSessionsSound := by
  unfold Obligations.StepKeepsSessionsSound
  intro s t sound stepped
  refine step_keeps (P := fun p => p.sva.sessionsSound) (fun c s t sound gives touches => ?_) sound stepped
  cases c
  case present badge =>
    obtain rfl := gives_act gives
    exact takePresent_sessions sound badge
  case readerProof nb proof =>
    obtain rfl := gives_act gives
    exact takeReaderProof_sessions sound nb proof
  case readerProofTimerExpiry =>
    obtain rfl := gives_act gives
    exact readerProofExpiry_sessions sound
  case barTimerExpiry =>
    obtain rfl := gives_act gives
    exact barExpiry_sessions sound
  case svaRestart =>
    obtain rfl := gives_act gives
    exact owed_keeps sessionsSound_stable _ (fun t _ => restartSva_sessions t) sound
  case prvRestart =>
    obtain rfl := gives_act gives
    exact owed_keeps sessionsSound_stable _ (fun t ht => restartPrv_sessions ht) sound
  case settingJobEnd =>
    obtain rfl := gives_act gives
    exact jobEnd_sessions sound fun c o t ht => sessionsSound_stable.nil _ (replyAll_touches _ o .done) (tellUser_sessions ht c)
  case failcountJobEnd =>
    obtain rfl := gives_act gives
    refine jobEnd_sessions sound fun k o t ht => ?_
    unfold failcountWritten
    split
    · refine sessionsSound_stable.nil _ (replyAll_touches _ o .done) (evalSubject_sessions ?_ _)
      split
      · exact ht
      · exact sessionsSound_stable.of _ (putCount_touches _ _ _) (by decide) ht
    · exact ht
  case saveHoldExpiry | powerOn =>
    obtain rfl := gives_act gives
    exact ite_keeps (P := fun t => t.sva.sessionsSound) s.part (fun _ => boot_sessions _ _ _) sound
  all_goals exact sessionsSound_stable.of _ touches (of_decide_eq_true rfl) sound

end Sys2Proof.Machine
end

section
/-! The limits of the claim, relay and store queues. What counts toward the places of a feed is what the ports hold at it, summed up. -/

namespace Sys2Proof.Machine

/-! ### Places and load -/

theorem length_eq_sum_countP (q : List QueueEntry) : q.length = ∑ p : Port, q.countP (·.port == p) := by
  induction q with
  | nil => simp
  | cons e q ih => simp [List.countP_cons, Finset.sum_add_distrib, ← ih]

theorem leased_eq_sum (r : FeedRec) : (if r.state.lease?.isSome then 1 else 0) = ∑ p : Port, if r.servesPort p then 1 else 0 := by
  cases h : r.state.lease? <;> simp [FeedRec.servesPort, h]

theorem countP_eq_sum {α : Type} {n : Nat} (v : Vector α n) (q : α → Bool) :
    v.toList.countP q = ∑ i : Fin n, if q v[i] then 1 else 0 := by
  have entries : v.toList = (List.finRange n).map fun i => v[i] := List.ext_getElem (by simp) (by simp)
  have counted (l : List (Fin n)) : (l.map fun i => v[i]).countP q = (l.map fun i => if q v[i] then 1 else 0).sum := by
    induction l with
    | nil => rfl
    | cons i l ih =>
      rw [List.map_cons, List.countP_cons, ih, List.map_cons, List.sum_cons, Nat.add_comm]
  rw [entries, counted, Fin.sum_univ_def]

/-- R52: the places of a feed that are taken, by the ports that have them. -/
theorem load_eq_sum (c : Fco) (f : Feed) : c.load f = ∑ p : Port, c.places f p := by
  rw [Fco.load, length_eq_sum_countP, leased_eq_sum, countP_eq_sum, ← Finset.sum_add_distrib, ← Finset.sum_add_distrib]
  rfl

theorem load_mono {c d : Fco} {f : Feed} (h : ∀ p, d.places f p ≤ c.places f p) : d.load f ≤ c.load f := by
  rw [load_eq_sum, load_eq_sum]
  exact Finset.sum_le_sum fun p _ => h p

/-! ### The operations that fill a queue -/

/-- The views that `Part.queuesFit` does not look at. -/
def queueless : List View :=
  [.hlc, .supply, .trk, .feeds, .needs, .admission, .barred, .contexts, .counts, .reader, .sessions, .holders, .store, .lines, .holds]

theorem queuesFit_stable : Stable queueless Part.queuesFit := by
  rintro s t touches ⟨load, relay, store⟩
  exact ⟨fun f => (load_mono (touches.places (by decide) f)).trans (load f),
    fun p => (touches.relay (by decide) p).trans (relay p), touches.queue (by decide) store⟩

/-- R53: the checks of a CLAIM that let it into reservation. -/
theorem claimCheck_ok {s : Part} {p : Port} {feed doses : Byte} {f : Feed} (h : claimCheck s p feed doses = .ok f) :
    s.fco.busy p = false ∧ s.fco.load f < Config.claimSize := by
  unfold claimCheck at h
  split at h
  · cases h
  · split at h
    · cases h
    · split at h
      · cases h
      · next idle =>
        split at h
        · cases h
        · split at h
          · cases h
          · split at h
            · cases h
            · split at h
              · cases h
              · split at h
                · cases h
                · next room =>
                  cases h
                  exact ⟨by simpa using idle, Nat.not_le.mp room⟩

/-- A claim in reservation takes one place. -/
theorem claimed_places {c : Fco} {p : Port} {k : Claim} (free : c.claims[p] = none) (f : Feed) (q : Port) :
    ({ c with claims := c.claims.set p (some k) } : Fco).places f q = c.places f q + if q = p ∧ k.feed = f then 1 else 0 := by
  simp only [Fco.places, set_get]
  by_cases h : p = q
  · subst h
    simp [-Fin.getElem_fin, free]
  · simp [-Fin.getElem_fin, h, Ne.symm h]

theorem takeClaim_fits {s : Part} (h : s.queuesFit) (p : Port) (feed : Byte) (c : Half) (doses : Byte) :
    (takeClaim p feed c doses s).queuesFit := by
  unfold takeClaim
  split
  · exact queuesFit_stable.nil s (refuse_touches s p _ _) h
  · next f passed =>
    obtain ⟨idle, room⟩ := claimCheck_ok passed
    have free : s.fco.claims[p] = none := by
      simp only [Fco.busy, Bool.or_eq_false_iff] at idle
      simpa [-Fin.getElem_fin] using idle.2
    obtain ⟨load, relay, store⟩ := h
    refine queuesFit_stable.nil _ (askTrk_touches _ _) ⟨fun g => ?_, relay, store⟩
    have places := claimed_places (k := ⟨f, c, doses.toNat, none⟩) free g
    dsimp only at places ⊢
    rw [load_eq_sum, Finset.sum_congr rfl fun q _ => places q, Finset.sum_add_distrib, ← load_eq_sum]
    by_cases e : f = g
    · subst e
      simpa using room
    · simpa [e] using load g

theorem relayTo_fits {s : Part} (h : s.queuesFit) (n : Nat) (d : List Byte) (p : Port) : (relayTo n d p s).queuesFit := by
  refine check_keeps queuesFit_stable s n _ (fun _ => check_keeps queuesFit_stable s n _ (fun room => ?_) h) h
  obtain ⟨load, relay, store⟩ := h
  refine queuesFit_stable.nil _ (reply_touches _ n .done) ⟨load, fun q => ?_, store⟩
  rw [modPort_ports, upd_get]
  split
  · next e =>
    subst e
    simpa using of_decide_eq_true room
  · exact relay q

/-- Settles O8: a claim is let in, and a relay message taken, where there is room; nothing else takes a place, and the store's queue is
filled behind checks of its own. -/
theorem stepKeepsQueuesInBounds : Obligations.StepKeepsQueuesInBounds := by
  unfold Obligations.StepKeepsQueuesInBounds
  intro s t fits stepped
  refine step_keeps (P := Part.queuesFit) (fun c s t fits gives touches => ?_) fits stepped
  cases c
  case claim p _ _ _ =>
    obtain rfl := gives_act gives
    exact stationFrameIn_keeps s.part p _ _ (queuesFit_stable.of _ (heard_touches s.part p) (by decide))
      (fun t => queuesFit_stable.of t (unexpected_touches t p _) (by decide)) (fun t _ ht => takeClaim_fits ht p _ _ _) fits
  case relay tag d =>
    obtain rfl := gives_act gives
    exact takeRequest_keeps queuesFit_stable _ _ _ _
      (fun n t _ _ ht => orBadValue_keeps queuesFit_stable t n (fun p _ => relayTo_fits ht n _ p) ht) fits
  all_goals exact queuesFit_stable.of _ touches (of_decide_eq_true rfl) fits

end Sys2Proof.Machine
end

section
/-! What the robots hold at FCO: one thing each, with ADMITTED ports. FCO's own operations keep it (`Fco.Shrinks`); here are the
operations that move a port's admission state. While a port that has left ADMITTED is still to be told to FCO, the invariant holds but for
that port (`Part.claimsBut`). -/

namespace Sys2Proof.Machine

/-! ### Places and holdings -/

theorem holdings_eq_sum (c : Fco) (p : Port) : c.holdings p = ∑ f : Feed, c.places f p := by
  have claim : (if c.claims[p].isSome then 1 else 0) = ∑ f : Feed, if c.claims[p].any (·.feed == f) then 1 else 0 := by
    cases c.claims[p] <;> simp
  rw [Fco.holdings, claim, ← Fin.sum_univ_def, ← Finset.sum_add_distrib]
  exact Finset.sum_congr rfl fun f _ => Nat.add_comm _ _

/-- Each port holds one thing at most. -/
def Fco.sole (c : Fco) : Prop := ∀ p, c.holdings p ≤ 1

theorem Fco.sole.mono {c d : Fco} (h : c.sole) (le : ∀ f p, d.places f p ≤ c.places f p) : d.sole := fun p => by
  refine Nat.le_trans ?_ (h p)
  rw [holdings_eq_sum, holdings_eq_sum]
  exact Finset.sum_le_sum fun f _ => le f p

theorem Fco.sole.single {c : Fco} (h : c.sole) : c.single := fun p f g ne held => by
  have le := h p
  rw [holdings_eq_sum] at le
  have pair : c.places f p + c.places g p ≤ ∑ k : Feed, c.places k p := by
    rw [← Finset.sum_pair (f := fun k => c.places k p) ne]
    exact Finset.sum_le_sum_of_subset (Finset.subset_univ _)
  omega

theorem Fco.queued_places {c : Fco} {f : Feed} {e : QueueEntry} (h : e ∈ c.feeds[f].queue) : 0 < c.places f e.port := by
  have : 0 < c.feeds[f].queue.countP (·.port == e.port) := List.countP_pos_iff.mpr ⟨e, h, by simp⟩
  simp only [Fco.places, FeedRec.places]
  omega

/-! ### The invariant, but for some ports -/

/-- `Part.claimsSound`, with the ports of `L` perhaps not ADMITTED. -/
def Part.claimsBut (L : List Port) (s : Part) : Prop :=
  s.fco.sole ∧ (∀ p : Port, s.fco.needs p → s.ports[p].admission = .admitted ∨ p ∈ L) ∧ s.fco.notesClear ∧
    ∀ p : Port, s.prv.contexts[p].isSome = true → s.ports[p].admission = .challenged

theorem notesClear_iff (c : Fco) : c.notesClear ↔ ∀ (f : Feed) (l : Lease), c.feeds[f].state.lease? = some l → c.notes[l.port] = none := by
  constructor
  · intro clear f l leased
    exact clear f l.port (by rw [FeedRec.servesPort_of leased rfl]; exact beq_self_eq_true _)
  · intro clear f p serves
    cases leased : c.feeds[f].state.lease? with
    | none => simp [-Fin.getElem_fin, FeedRec.servesPort, leased] at serves
    | some l =>
      rw [FeedRec.servesPort_of leased rfl, beq_iff_eq] at serves
      exact serves ▸ clear f l leased

theorem claimsSound_iff (s : Part) : s.claimsSound ↔ s.claimsBut [] := by
  unfold Part.claimsSound Part.claimsBut
  rw [notesClear_iff]
  constructor
  · rintro ⟨sole, queued, granted, claimed, clear, contexts⟩
    refine ⟨sole, fun p needs => .inl ?_, clear, contexts⟩
    rcases needs with ⟨f, ⟨e, he, rfl⟩ | ⟨l, hl, rfl⟩⟩ | ⟨k, hk, valid⟩
    · exact queued f e he
    · exact granted f l hl
    · exact claimed p k hk valid
  · rintro ⟨sole, needs, clear, contexts⟩
    have admitted {p : Port} (h : s.fco.needs p) : s.ports[p].admission = .admitted := (needs p h).resolve_right (by simp)
    exact ⟨sole, fun f e he => admitted (.inl ⟨f, .inl ⟨e, he, rfl⟩⟩), fun f l hl => admitted (.inl ⟨f, .inr ⟨l, hl, rfl⟩⟩),
      fun p k hk valid => admitted (.inr ⟨k, hk, valid⟩), clear, contexts⟩

/-- The views that `Part.claimsBut` does not look at. -/
def claimless : List View :=
  [.hlc, .supply, .trk, .feeds, .places, .barred, .relay, .counts, .reader, .sessions, .holders, .store, .queue, .lines, .holds]

theorem claimsBut_stable (L : List Port) : Stable claimless (Part.claimsBut L) := by
  rintro s t touches ⟨sole, needs, clear, contexts⟩
  obtain ⟨places, less, notes⟩ := touches.needs (by decide)
  have admission := touches.admission (by decide)
  refine ⟨sole.mono places, fun p h => ?_, notes sole.single clear, fun p h => ?_⟩
  · rw [admission]
    exact needs p (less p h)
  · rw [admission]
    exact contexts p (touches.contexts (by decide) p h)

section
variable {L : List Port} {s : Part}

/-- A port that is not CHALLENGED has no proof context. -/
theorem Part.claimsBut.noContext (h : s.claimsBut L) {p : Port} (a : s.ports[p].admission ≠ .challenged) :
    s.prv.contexts[p] = none := by
  obtain ⟨-, -, -, contexts⟩ := h
  by_contra some
  exact a (contexts p (Option.isSome_iff_ne_none.mpr some))

/-- A port that is not ADMITTED holds nothing that needs it so, unless it is still to be told to FCO. -/
theorem Part.claimsBut.unneeding (h : s.claimsBut L) {p : Port} (a : s.ports[p].admission ≠ .admitted) (needs : s.fco.needs p) :
    p ∈ L := (h.2.1 p needs).resolve_left a

/-- A port moves to another admission state. -/
theorem Part.claimsBut.moved (h : s.claimsBut L) {M : List Port} (p : Port) {g : PortRec → PortRec}
    (context : s.prv.contexts[p] = none ∨ (g s.ports[p]).admission = .challenged)
    (admitted : s.fco.needs p → (g s.ports[p]).admission = .admitted ∨ p ∈ M) (sub : L ⊆ M) : (modPort p g s).claimsBut M := by
  obtain ⟨sole, needs, clear, contexts⟩ := h
  refine ⟨sole, fun q h => ?_, clear, fun q h => ?_⟩
  · rw [modPort_ports, upd_get]
    split
    · next e =>
      subst e
      exact admitted h
    · exact (needs q h).imp_right fun m => sub m
  · rw [modPort_ports, upd_get]
    split
    · next e =>
      subst e
      rcases context with closed | challenged
      · rw [show (modPort p g s).prv.contexts[p] = none from closed] at h
        cases h
      · exact challenged
    · exact contexts q h

/-- A port that is neither ADMITTED nor CHALLENGED moves. -/
theorem Part.claimsBut.waited (h : s.claimsBut L) (p : Port) {g : PortRec → PortRec} (a : s.ports[p].admission ≠ .admitted)
    (b : s.ports[p].admission ≠ .challenged) : (modPort p g s).claimsBut L :=
  h.moved p (.inl (h.noContext b)) (fun needs => .inr (h.unneeding a needs)) (List.Subset.refl _)

theorem endContext_none (p : Port) (s : Part) : (endContext p s).prv.contexts[p] = none := by
  simp only [endContext, set_get, if_true]

theorem Part.claimsBut.endContext (h : s.claimsBut L) (p : Port) : (endContext p s).claimsBut L :=
  (claimsBut_stable L).nil s (endContext_touches s p) h

/-- A port that is not ADMITTED moves as its proof context ends. -/
theorem Part.claimsBut.left (h : s.claimsBut L) (p : Port) {g : PortRec → PortRec} (a : s.ports[p].admission ≠ .admitted) :
    (modPort p g (Machine.endContext p s)).claimsBut L :=
  (h.endContext p).moved p (.inl (endContext_none p s)) (fun needs => .inr (h.unneeding a needs)) (List.Subset.refl _)

end

/-! ### Leaving ADMITTED -/

/-- R57: a port that FCO has learned of holds nothing that needs it ADMITTED. -/
theorem portLeft_unneeding {s : Part} (sole : s.fco.sole) (p : Port) : ¬ (portLeft p s).fco.needs p := by
  let void := voidClaim p .silent s
  let dropped := dropQueued p void
  have voidSole : void.fco.sole := sole.mono ((voidClaim_touches s p .silent).places (by decide))
  have droppedSole : dropped.fco.sole := voidSole.mono ((dropQueued_touches void p).places (by decide))
  have claim {k : Claim} (h : dropped.fco.claims[p] = some k) : k.void ≠ none := by
    have same : dropped.fco.claims = void.fco.claims := by
      unfold dropped dropQueued
      split
      · rfl
      · dsimp only
        exact ((releaseEntries_touches (setQueue _ _ void) _ _).feeds (by decide)).2.1
    rw [same, show void.fco.claims[p] = _ from upd_self _ _ _] at h
    obtain ⟨k', -, rfl⟩ := Option.map_eq_some_iff.mp h
    cases k'.void <;> simp
  have queued (f : Feed) : ∀ e ∈ dropped.fco.feeds[f].queue, e.port ≠ p := by
    intro e he hp
    unfold dropped dropQueued at he
    split at he
    · next none =>
      have := List.find?_eq_none.mp none f (List.mem_finRange f)
      simp only [List.any_eq_true, beq_iff_eq, not_exists, not_and] at this
      exact this e he hp
    · next g found =>
      have there := List.find?_some found
      obtain ⟨x, hx, port⟩ := List.any_eq_true.mp there
      rw [beq_iff_eq] at port
      dsimp only at he
      rw [((releaseEntries_touches (setQueue _ _ void) _ _).feeds (by decide)).1] at he
      simp only [setQueue, modFeed, upd_get] at he
      split at he
      · exact absurd hp (by simpa using (List.mem_filter.mp he).2)
      · next other =>
        have one := voidSole.single p g f other (port ▸ Fco.queued_places hx)
        have two := Fco.queued_places he
        rw [hp] at two
        omega
  have granted {f : Feed} {l : Lease} (h : dropped.fco.feeds[f].state = .granted l) (hp : l.port = p) :
      dropped.fco.feedServing p = some f := by
    have serves (g : Feed) (l : Lease) (h : dropped.fco.feeds[g].state.lease? = some l) (hp : l.port = p) :
        dropped.fco.feeds[g].servesPort p = true := by
      rw [FeedRec.servesPort_of h rfl, hp]
      exact beq_self_eq_true _
    have here := serves f l (by rw [h]; rfl) hp
    cases found : dropped.fco.feedServing p with
    | none => exact absurd here (List.find?_eq_none.mp found f (List.mem_finRange f))
    | some g =>
      by_contra other
      have one := droppedSole.single p f g (fun e => other (e ▸ rfl)) (Fco.serves_places here)
      have two := Fco.serves_places (List.find?_some (p := fun g : Feed => dropped.fco.feeds[g].servesPort p) found)
      omega
  change ¬ (withGrant p endGrant dropped).fco.needs p
  have unneeding (h : dropped.fco.needs p) : ∃ f l, dropped.fco.feedServing p = some f ∧ dropped.fco.feeds[f].state = .granted l := by
    rcases h with ⟨f, ⟨e, he, hp⟩ | ⟨l, hl, hp⟩⟩ | ⟨k, hk, valid⟩
    · exact absurd hp (queued f e he)
    · exact ⟨f, l, granted hl hp, hl⟩
    · exact absurd valid (claim hk)
  intro needs
  unfold withGrant at needs
  split at needs
  · next none =>
    obtain ⟨f, l, serving, -⟩ := unneeding needs
    rw [none] at serving
    cases serving
  · next f serving =>
    split at needs
    · next l hl =>
      have told : Touches [.feeds] (setFeed f l.target.state dropped) (endGrant f l dropped) :=
        ((askTrk_touches _ _).mono (by decide)).trans (arbitrate_touches _ f)
      have needs := (told.needs (by decide)).2.1 p needs
      rcases needs with ⟨g, h⟩ | ⟨k, hk, valid⟩
      · simp only [setFeed, modFeed, upd_get] at h
        split at h
        · rcases h with ⟨e, he, hp⟩ | ⟨k, hk, -⟩
          · exact queued g e (by simpa [*] using he) hp
          · have := l.target.state_lease
            simp only at hk
            rw [hk] at this
            cases this
        · next other =>
          rcases h with ⟨e, he, hp⟩ | ⟨k, hk, hp⟩
          · exact queued g e he hp
          · exact other (Option.some.inj (serving.symm.trans (granted hk hp)))
      · exact claim hk valid
    · next other =>
      obtain ⟨g, l, found, hl⟩ := unneeding needs
      obtain rfl : f = g := Option.some.inj (serving.symm.trans found)
      exact other l hl

section
variable {L : List Port} {s : Part}

/-- R57: FCO is told of a port. -/
theorem portLeft_claims {p : Port} (h : s.claimsBut (p :: L)) : (portLeft p s).claimsBut L := by
  obtain ⟨sole, needs, rest⟩ := (claimsBut_stable (p :: L)).of s (portLeft_touches s p) (by decide) h
  refine ⟨sole, fun q hq => (needs q hq).imp_right fun m => ?_, rest⟩
  rcases List.mem_cons.mp m with rfl | m
  · exact absurd hq (portLeft_unneeding h.1 q)
  · exact m

theorem leaveAdmitted_claims (h : s.claimsBut L) (p : Port) (dest : Admission) (why : LeaveCause) (context : s.prv.contexts[p] = none) :
    (leaveAdmitted p dest why s).claimsBut L := by
  have set : (setAdmission p dest s).claimsBut (p :: L) :=
    h.moved p (.inl context) (fun _ => .inr List.mem_cons_self) (List.subset_cons_self p L)
  exact (claimsBut_stable L).nil _ ((dropRelay_touches _ p).trans (raise_touches _ _)) (portLeft_claims set)

/-! ### Barring and failed exchanges -/

theorem barPort_claims (h : s.claimsBut L) (p : Port) : (barPort p s).claimsBut L := by
  unfold barPort
  dsimp only
  refine (claimsBut_stable L).nil _ (raise_touches _ _) ?_
  split
  · exact leaveAdmitted_claims (h.endContext p) p _ _ (endContext_none p s)
  · next a => exact h.left p a

theorem evalPort_claims (h : s.claimsBut L) (p : Port) : (evalPort p s).claimsBut L := by
  unfold evalPort
  split
  · exact h
  · split
    · exact barPort_claims h p
    · split
      · next barred =>
        simp only [Bool.and_eq_true, beq_iff_eq] at barred
        exact h.waited p (by simp [barred.2, -Fin.getElem_fin]) (by simp [barred.2, -Fin.getElem_fin])
      · exact h

theorem evalAll_claims (h : s.claimsBut L) : (evalAll s).claimsBut L :=
  (claimsBut_stable L).of _ (evalReader_touches _) (by decide)
    (forEach_keeps (Part.claimsBut L) _ _ (fun p _ _ ht => evalPort_claims ht p) s h)

theorem evalSubject_claims (h : s.claimsBut L) (w : Subject) : (evalSubject w s).claimsBut L := by
  cases w with
  | port p => exact evalPort_claims h p
  | reader => exact (claimsBut_stable L).of s (evalReader_touches s) (by decide) h

theorem countFailure_claims (h : s.claimsBut L) (w : Subject) : (countFailure w s).claimsBut L := by
  unfold countFailure
  refine evalSubject_claims ?_ w
  split
  · exact (claimsBut_stable L).of s (retakeCount_touches s w _) (by decide) h
  · exact (claimsBut_stable L).of s (setCount_touches s w _) (by decide) h

theorem failExchange_claims (h : s.claimsBut L) (p : Port) (challenged : s.ports[p].admission = .challenged) :
    (failExchange p s).claimsBut L :=
  countFailure_claims (h.left p (by rw [challenged]; decide)) (.port p)

/-! ### Links and unexpected frames -/

theorem heard_claims (h : s.claimsBut L) (p : Port) : (heard p s).claimsBut L := by
  have timed := (claimsBut_stable L).nil s (modPort_touches s p (f := fun r => { r with linkTimer := s.timer Config.linkTime })
    rfl le_rfl) h
  unfold heard
  dsimp only
  generalize modPort p (fun r => { r with linkTimer := s.timer Config.linkTime }) s = t at *
  split
  · next dark =>
    split
    · have awake := wakeUp_touches t (.port p)
      have dark : (wakeUp (.port p) t).ports[p].admission = .dark := (awake.admission (by decide) p).trans dark
      exact ((claimsBut_stable L).nil t awake timed).waited p (by rw [dark]; decide) (by rw [dark]; decide)
    · exact timed.waited p (by rw [dark]; decide) (by rw [dark]; decide)
  · exact (claimsBut_stable L).nil t (modPort_touches t p rfl le_rfl) timed
  · exact timed

theorem linkDown_claims (h : s.claimsBut L) (p : Port) : (linkDown p s).claimsBut L := by
  have down := (claimsBut_stable L).nil s (modPort_touches s p
    (f := fun r => { r with link := false, linkTimer := none, status := none }) rfl le_rfl) h
  unfold linkDown
  dsimp only
  generalize modPort p (fun r => { r with link := false, linkTimer := none, status := none }) s = t at *
  split
  · exact down
  · next admitted => exact leaveAdmitted_claims down p _ _ (down.noContext (by rw [admitted]; decide))
  · next a => exact down.left p a

theorem unexpected_claims (h : s.claimsBut L) (p : Port) (k : Byte) : (unexpected p k s).claimsBut L := by
  have listened {t : Part} (ht : t.claimsBut L) : (refuseIfListening p k t).claimsBut L :=
    (claimsBut_stable L).nil t (refuseIfListening_touches t p k) ht
  unfold unexpected
  split
  · exact (claimsBut_stable L).nil s (refuse_touches s p _ k) h
  · next challenged =>
    split
    · exact listened (failExchange_claims h p challenged)
    · next none =>
      exact listened (h.moved p (.inl (by simpa [-Fin.getElem_fin] using none))
        (fun needs => .inr (h.unneeding (by rw [challenged]; decide) needs)) (List.Subset.refl _))
  · next admitted => exact listened (leaveAdmitted_claims h p _ _ (h.noContext (by rw [admitted]; decide)))
  · exact h

/-! ### Admission -/

theorem challengeStation_claims (h : s.claimsBut L) (p : Port) (a : s.ports[p].admission ≠ .admitted) :
    (challengeStation p s).claimsBut L := by
  have moved : (setAdmission p .challenged s).claimsBut L :=
    h.moved p (.inr rfl) (fun needs => .inr (h.unneeding a needs)) (List.Subset.refl _)
  have touches := challengeStation_touches s p
  obtain ⟨feeds, claims, notes⟩ := touches.feeds (by decide)
  have admission (q : Port) : (challengeStation p s).ports[q].admission = (setAdmission p .challenged s).ports[q].admission := by
    unfold challengeStation setAdmission
    simp only [modPort_ports, upd_get]
    split
    · rfl
    · exact (sendStation_touches _ p _).admission (by decide) q
  have contexts (q : Port) (h : (challengeStation p s).prv.contexts[q].isSome = true) : q = p ∨ s.prv.contexts[q].isSome = true := by
    unfold challengeStation setAdmission at h
    simp only [modPort_prv, sendStation_prv, set_get] at h
    split at h
    · exact .inl (Eq.symm ‹_›)
    · exact .inr h
  obtain ⟨sole, needs, clear, proofs⟩ := moved
  obtain ⟨places, less, keep⟩ := touches.needs (by decide)
  refine ⟨sole.mono places, fun q hq => ?_, keep sole.single clear, fun q hq => ?_⟩
  · rw [admission]
    exact needs q (less q hq)
  · rw [admission]
    rcases contexts q hq with rfl | other
    · rw [setAdmission, modPort_ports, upd_self]
    · exact proofs q other

theorem takeHello_claims (h : s.claimsBut L) (p : Port) (identity : Identity) (role : Byte)
    (listening : s.ports[p].admission = .listening) : (takeHello p identity role s).claimsBut L := by
  have refused {t : Part} (ht : t.claimsBut L) (w : Reason) : (refuse p w 0x01 t).claimsBut L :=
    (claimsBut_stable L).nil t (refuse_touches t p w _) ht
  have touches : Touches [] s (loadBinding p s) := modPort_touches s p rfl le_rfl
  have loaded := (claimsBut_stable L).nil s touches h
  unfold takeHello
  split
  · exact refused h _
  · split
    · exact refused h _
    · dsimp only
      split
      · exact refused loaded _
      · exact challengeStation_claims loaded p (by rw [touches.admission (by decide) p, listening]; decide)

theorem admitPort_claims (h : s.claimsBut L) (p : Port) (k : Context) (nb : Block) : (admitPort p k nb s).claimsBut L := by
  unfold admitPort
  dsimp only
  have welcome := sendStation_touches (endContext p s) p (.welcome (proofValue k.key nb k.nonce) s.mtu.hall)
  have welcomed := (claimsBut_stable L).nil _ welcome (h.endContext p)
  have none : (sendStation p (.welcome (proofValue k.key nb k.nonce) s.mtu.hall) (endContext p s)).prv.contexts[p] = none := by
    rw [sendStation_prv]
    exact endContext_none p s
  have admitted := welcomed.moved (M := L) p (g := fun r => { r with admission := .admitted }) (.inl none) (fun _ => .inl rfl)
    (List.Subset.refl _)
  exact (claimsBut_stable L).nil _ (raise_touches _ _) ((claimsBut_stable L).of _ (setCount_touches _ (.port p) 0) (by decide) admitted)

theorem takeProof_claims (h : s.claimsBut L) (p : Port) (nb proof : Block) (challenged : s.ports[p].admission = .challenged) :
    (takeProof p nb proof s).claimsBut L := by
  unfold takeProof
  split
  · exact unexpected_claims h p _
  · split
    · exact admitPort_claims h p _ nb
    · exact failExchange_claims h p challenged

theorem proofExpiry_claims (h : s.claimsBut L) (p : Port) : (proofExpiry p s).claimsBut L := by
  unfold proofExpiry
  split
  · exact h
  · next k context =>
    split
    · exact failExchange_claims h p (h.2.2.2 p (by rw [context]; rfl))
    · exact h

/-! ### Park, wake, isolation, restart -/

theorem parkPort_claims (h : s.claimsBut L) (p : Port) (why : LeaveCause) (admitted : s.ports[p].admission = .admitted) :
    (parkPort p why s).claimsBut L := by
  have touches := (sendStation_touches s p .park).trans
    (modPort_touches (sendStation p .park s) p (f := fun r => { r with parked := true }) rfl le_rfl)
  have parked := (claimsBut_stable L).nil s touches h
  exact leaveAdmitted_claims parked p _ _ (parked.noContext (by rw [touches.admission (by decide) p, admitted]; decide))

theorem wakePort_claims (h : s.claimsBut L) (p : Port) : (wakePort p s).claimsBut L := by
  by_cases parked : s.ports[p].admission = .parked
  · exact h.waited p (by rw [parked]; decide) (by rw [parked]; decide)
  · exact (claimsBut_stable L).nil s (modPort_touches s p (if_neg parked) le_rfl) h

theorem isolatePort_claims (h : s.claimsBut L) (p : Port) : (isolatePort p s).claimsBut L := by
  have touches := (modPort_touches s p (f := fun r => { r with parked := false }) rfl le_rfl).trans
    (sendStation_touches (modPort p (fun r => { r with parked := false }) s) p .isolate)
  have told := (claimsBut_stable L).nil s touches h
  unfold isolatePort
  dsimp only
  generalize sendStation p .isolate (modPort p (fun r => { r with parked := false }) s) = t at *
  split
  · next admitted => exact leaveAdmitted_claims told p _ _ (told.noContext (by rw [admitted]; decide))
  · next challenged => exact told.left p (by rw [challenged]; decide)
  · next known => exact told.left p (by rw [known]; decide)
  · next parked => exact told.waited p (by rw [parked]; decide) (by rw [parked]; decide)
  · exact told

theorem quietPort_claims (h : s.claimsBut L) (p : Port) : (quietPort p s).claimsBut L := by
  unfold quietPort
  split
  · next admitted => exact parkPort_claims h p _ admitted
  · next challenged => exact h.left p (by rw [challenged]; decide)
  · exact h

theorem serveQuiet_claims (h : s.claimsBut L) (n : Nat) : (serveQuiet n s).claimsBut L := by
  refine check_keeps (claimsBut_stable L) s n _ (fun _ => ?_) h
  have quiet : Touches [.supply] s { s with psc.state := .quiet } := { Touches.refl _ _ with supply := fun hv => absurd (by decide) hv }
  exact (claimsBut_stable L).nil _ (reply_touches _ n .done)
    (forEach_keeps (Part.claimsBut L) _ _ (fun p _ _ ht => quietPort_claims ht p) _
      ((claimsBut_stable L).of s quiet (by decide) h))

/-- R104: FCO is told of the ports that were ADMITTED, one after the other. -/
theorem portsLeft_claims (l : List Port) (h : s.claimsBut l) : (forEach l portLeft s).claimsBut [] := by
  induction l generalizing s with
  | nil => exact h
  | cons p l ih => exact ih (portLeft_claims h)

theorem restartSpx_claims (h : s.claimsBut []) : (restartSpx s).claimsBut [] := by
  refine portsLeft_claims _ ?_
  obtain ⟨sole, needs, clear, -⟩ := h
  refine ⟨sole, fun p hp => .inr ?_, clear, fun p hp => ?_⟩
  · exact List.mem_filter.mpr ⟨List.mem_finRange p, beq_iff_eq.mpr ((needs p hp).resolve_right (by simp))⟩
  · simp at hp

theorem restartPrv_claims (h : s.claimsBut L) : (restartPrv s).claimsBut L := by
  refine evalAll_claims ((claimsBut_stable L).of _ (loadAttemptLimits_touches _) (by decide) ?_)
  exact (claimsBut_stable L).nil _ { Touches.refl _ (endContexts s) with } ((claimsBut_stable L).nil s (endContexts_touches s) h)

theorem loadLimits_claims (h : s.claimsBut L) : (loadLimits s).claimsBut L :=
  evalAll_claims ((claimsBut_stable L).of _ (loadAttemptLimits_touches _) (by decide)
    ((claimsBut_stable L).nil s { Touches.refl _ _ with } h))

theorem tellUser_claims (h : s.claimsBut L) (c : Setting) : (tellUser c s).claimsBut L := by
  cases c with
  | limits l => exact loadLimits_claims h
  | meter p m => exact (claimsBut_stable L).nil _ (evalService_touches _ p) h
  | _ => exact h

theorem placeHold_claims (h : s.claimsBut L) (n : Nat) (x : Session) (p : Port) (room : s.nvs.hasRoom = true) :
    (placeHold n x p s).claimsBut L := by
  have held := (claimsBut_stable L).of s (holders_touches s (upd s.sva.holders p (· ++ [⟨x.badge, x.num, s.mtu.hall, false, false⟩])))
    (by decide) h
  rw [placeHold_eq]
  split
  · have store := (isolated_touches (addHold p ⟨x.badge, x.num, s.mtu.hall, false, false⟩ s) p).store (by decide)
    have room : (isolateRobot p (isolatePort p (addHold p ⟨x.badge, x.num, s.mtu.hall, false, false⟩ s))).nvs.hasRoom = true := by
      rw [store]
      exact room
    exact (claimsBut_stable L).of _ (awaitsHold_touches _ n p x _ room) (by decide)
      ((claimsBut_stable L).of _ (isolateRobot_touches _ p) (by decide) (isolatePort_claims held p))
  · exact (claimsBut_stable L).of _ (awaitsHold_touches _ n p x _ room) (by decide) held

end

/-! ### Claims and doses -/

/-- FCO changes with no port holding more. -/
theorem Part.claimsBut.fco {L : List Port} {s : Part} (h : s.claimsBut L) {d : Fco} (places : ∀ f p, d.places f p ≤ s.fco.places f p)
    (needs : ∀ p, d.needs p → s.fco.needs p ∨ s.ports[p].admission = .admitted) (clear : d.notesClear) :
    ({ s with fco := d } : Part).claimsBut L := by
  obtain ⟨sole, admitted, -, contexts⟩ := h
  refine ⟨sole.mono places, fun p hp => ?_, clear, contexts⟩
  rcases needs p hp with old | new
  · exact admitted p old
  · exact .inl new

theorem takeClaim_claims {s : Part} (h : s.claimsBut []) (p : Port) (feed : Byte) (c : Half) (doses : Byte)
    (admitted : s.ports[p].admission = .admitted) : (takeClaim p feed c doses s).claimsBut [] := by
  unfold takeClaim
  split
  · exact (claimsBut_stable []).nil s (refuse_touches s p _ _) h
  · next f passed =>
    obtain ⟨idle, -⟩ := claimCheck_ok passed
    simp only [Fco.busy, Bool.or_eq_false_iff, Option.isSome_eq_false_iff, Option.isNone_iff_eq_none] at idle
    obtain ⟨⟨serving, queueing⟩, free⟩ := idle
    obtain ⟨sole, needs, clear, contexts⟩ := h
    have empty (g : Feed) : s.fco.places g p = 0 := by
      have serves := List.find?_eq_none.mp serving g (List.mem_finRange g)
      have queued := List.find?_eq_none.mp queueing g (List.mem_finRange g)
      have none : s.fco.feeds[g].queue.countP (·.port == p) = 0 := List.countP_eq_zero.mpr fun e he hp =>
        queued (List.any_eq_true.mpr ⟨e, he, hp⟩)
      simp [-Fin.getElem_fin, Fco.places, FeedRec.places, none, serves, free]
    refine (claimsBut_stable []).nil _ (askTrk_touches _ _) ⟨fun q => ?_, fun q hq => ?_, clear, contexts⟩
    · rw [holdings_eq_sum]
      by_cases e : q = p
      · subst e
        rw [Finset.sum_congr rfl fun g _ => claimed_places (k := ⟨f, c, doses.toNat, none⟩) free g q]
        simp [empty]
      · rw [Finset.sum_congr rfl fun g _ => claimed_places (k := ⟨f, c, doses.toNat, none⟩) free g q]
        simp only [e, false_and, if_false, Nat.add_zero]
        rw [← holdings_eq_sum]
        exact sole q
    · rcases hq with queued | ⟨k, hk, valid⟩
      · exact needs q (.inl queued)
      · simp only [set_get] at hk
        split at hk
        · next e => exact .inl (e ▸ admitted)
        · exact needs q (.inr ⟨k, hk, valid⟩)

/-- R66, R70: a remnant is placed for a port that is ADMITTED. -/
theorem remnantPlaced_claims {s : Part} (h : s.claimsBut []) (f : Feed) {l : Lease} (leased : s.fco.feeds[f].state.lease? = some l)
    (admitted : s.ports[l.port].admission = .admitted) : (setFeed f l.target.state (placeRemnant f l s)).claimsBut [] := by
  by_cases none : l.after = 0
  · simp only [placeRemnant, none, if_true]
    exact (claimsBut_stable []).of s (endFeed_touches s f l.target.state_lease) (by decide) h
  · rw [placeRemnant_eq s f l none]
    refine h.fco (remnant_places leased l.target.state_lease rfl) (fun p hp => ?_) fun g p serves => ?_
    · rcases hp with ⟨g, hg⟩ | claim
      · simp only [upd_get] at hg
        split at hg
        · rcases hg with ⟨e, he, hp⟩ | ⟨k, hk, -⟩
          · rcases List.mem_cons.mp he with rfl | he
            · exact .inr (hp ▸ admitted)
            · exact .inl (.inl ⟨g, .inl ⟨e, he, hp⟩⟩)
          · have := l.target.state_lease
            simp only at hk
            rw [hk] at this
            cases this
        · exact .inl (.inl ⟨g, hg⟩)
      · exact .inl (.inr claim)
    · simp only [upd_get] at serves
      split at serves
      · simp [FeedRec.servesPort, l.target.state_lease] at serves
      · exact h.2.2.1 g p serves

theorem doseOk_claims {s : Part} (h : s.claimsBut []) (f : Feed) {l : Lease} (leased : s.fco.feeds[f].state.lease? = some l)
    (admitted : s.ports[l.port].admission = .admitted) : (doseOk f l s).claimsBut [] := by
  have told := (claimsBut_stable []).nil s (askTrk_touches s (.doseDone l.container l.port f)) h
  unfold doseOk
  dsimp only
  split
  · exact (claimsBut_stable []).of _ (holdFeed_touches (askTrk (.doseDone l.container l.port f) s) f leased rfl) (by decide) told
  · exact (claimsBut_stable []).of _ ((leaseEnded_touches _ f l.port false).trans (arbitrate_touches _ f)) (by decide)
      (remnantPlaced_claims told f leased admitted)

theorem doseEndHeld_claims {s : Part} (h : s.claimsBut []) (f : Feed) {l : Lease} (leased : s.fco.feeds[f].state.lease? = some l)
    (admitted : s.ports[l.port].admission = .admitted) (r : DoseResult) : (doseEndHeld f l r s).claimsBut [] := by
  have stable := claimsBut_stable []
  cases r with
  | ok => exact doseOk_claims h f leased admitted
  | short => exact stable.of s (doseFailed_touches s f l .short) (by decide) h
  | retry => exact stable.of s (doseRetry_touches s f leased) (by decide) h
  | fault => exact stable.of s (doseFailed_touches s f l .fault) (by decide) h

/-- R90: a DOSE END that finds its lease HELD comes from an ADMITTED port: for one in LISTENING the lease would be DRAINING, or a late note
would stand beside it. -/
theorem heldDose_admitted {s : Part} (h : s.claimsBut []) {p : Port} {f : Feed} {l : Lease} (held : s.fco.feeds[f].state = .held l)
    (port : l.port = p) (accepted : acceptsDoseEnd p s = true) : s.ports[p].admission = .admitted := by
  obtain ⟨sole, -, clear, -⟩ := h
  have serves : s.fco.feeds[f].servesPort p = true := by
    rw [FeedRec.servesPort_of (l := l) rfl held, port]
    exact beq_self_eq_true _
  simp only [acceptsDoseEnd, portIn, Bool.or_eq_true, Bool.and_eq_true, List.contains_eq_mem, List.mem_singleton,
    decide_eq_true_eq] at accepted
  rcases accepted with admitted | ⟨-, drains | noted⟩
  · exact admitted
  · obtain ⟨g, -, hg⟩ := List.any_eq_true.mp drains
    split at hg
    · next k draining =>
      have ne : f ≠ g := by
        rintro rfl
        rw [held] at draining
        cases draining
      have one := sole.single p f g ne (Fco.serves_places serves)
      have two : 0 < s.fco.places g p := Fco.serves_places (by rw [FeedRec.servesPort_of (l := k) rfl draining]; exact hg)
      omega
    · cases hg
  · rw [Fco.hasDoseEndNote, clear f p serves] at noted
    cases noted

theorem acceptDoseEnd_claims {s : Part} (h : s.claimsBut []) (f : Feed) {l : Lease} {draining : Bool}
    (leased : s.fco.feeds[f].state.lease? = some l) (admitted : draining = false → s.ports[l.port].admission = .admitted)
    (r : DoseResult) : (acceptDoseEnd f l draining r s).claimsBut [] := by
  have counted := meterInc_touches s (meterA l.port)
  obtain ⟨feeds, -, -⟩ := counted.feeds (by decide)
  have admission := counted.admission (by decide) l.port
  have kept := (claimsBut_stable []).nil s counted h
  have leased : (meterInc (meterA l.port) s).fco.feeds[f].state.lease? = some l := by rwa [feeds]
  unfold acceptDoseEnd
  dsimp only
  generalize meterInc (meterA l.port) s = t at *
  cases draining with
  | true =>
    exact (claimsBut_stable []).of t ((drainFeed_touches t f (k := { l with inFlight := false }) leased rfl).trans
      (doseEndDraining_touches _ f _ r)) (by decide) kept
  | false =>
    exact doseEndHeld_claims ((claimsBut_stable []).of t (holdFeed_touches t f (k := { l with inFlight := false }) leased rfl)
      (by decide) kept) f (l := { l with inFlight := false }) (by rw [setFeed_state]; rfl) (admission.trans (admitted rfl)) r

theorem takeDoseEnd_claims {s : Part} (h : s.claimsBut []) (p : Port) (c : Half) (i result : Byte)
    (accepted : acceptsDoseEnd p s = true) : (takeDoseEnd p c i result s).claimsBut [] := by
  have stable := claimsBut_stable []
  unfold takeDoseEnd
  split
  · exact stable.nil s (refuse_touches s p _ _) h
  · split
    · next f l draining found =>
      obtain ⟨serving, state, -⟩ := endable_eq found
      have leased : s.fco.feeds[f].state.lease? = some l := by rw [state]; cases draining <;> rfl
      obtain rfl := feedServing_port serving leased
      exact acceptDoseEnd_claims h f leased (fun held => heldDose_admitted h (by rw [state, held]; rfl) rfl accepted) _
    · split
      · exact stable.of s ((clearNote_touches s p).then ((refuse_touches _ p _ _).trans (meterInc_touches _ _)) (by decide))
          (by decide) h
      · exact stable.nil s (refuse_touches s p _ _) h

/-! ### The statement -/

theorem boot_claims (cause : RestartCause) (strap : Bool) (s : Part) : (boot cause strap s).claimsBut [] := by
  have empty := bootFco_empty s.nvs
  refine ⟨fun p => ?_, fun p needs => absurd needs (empty.needs p), empty.notesClear, fun p hp => by simp [boot, bootPrv] at hp⟩
  change (bootFco s.nvs).holdings p ≤ 1
  rw [holdings_eq_sum, Finset.sum_congr rfl fun f _ => empty.places f p]
  simp

/-- Claims after a station frame, by what the frame does where it is accepted. -/
theorem stationFrameIn_claims {s : Part} (h : s.claimsBut []) (p : Port) (k : Byte) (accepts : Part → Bool) {serve : Part → Part}
    (served : ∀ t : Part, accepts t = true → t.claimsBut [] → (serve t).claimsBut []) : (stationFrameIn p k accepts serve s).claimsBut [] :=
  stationFrameIn_keeps s p k accepts (fun h => heard_claims h p) (fun _ ht => unexpected_claims ht p k) served h

theorem portIn_eq {p : Port} {a : Admission} {s : Part} (h : portIn p [a] s = true) : s.ports[p].admission = a := by
  simpa [-Fin.getElem_fin, portIn] using h

theorem exec_claims {c : Instr} {s : State} {t : Part} (h : s.part.claimsBut []) (gives : Gives c s t)
    (touches : Touches (.names :: viewsOf c) s.part t) : t.claimsBut [] := by
  have stable := claimsBut_stable []
  have stored (n : Nvs) : ({ s.part with nvs := n } : Part).claimsBut [] := h
  cases c
  case hello p identity role =>
    obtain rfl := gives_act gives
    exact stationFrameIn_claims h p _ _ fun t listening ht => takeHello_claims ht p identity role (portIn_eq listening)
  case proof p nb proof =>
    obtain rfl := gives_act gives
    exact stationFrameIn_claims h p _ _ fun t challenged ht => takeProof_claims ht p nb proof (portIn_eq challenged)
  case disown p =>
    obtain rfl := gives_act gives
    exact stationFrameIn_claims h p _ _ fun t admitted ht =>
      leaveAdmitted_claims ht p _ _ (ht.noContext (by rw [portIn_eq admitted]; decide))
  case report p b =>
    obtain rfl := gives_act gives
    exact stationFrameIn_claims h p _ _ fun t _ ht => stable.of t (takeReport_touches t p b) (by decide) ht
  case undefinedKind p k =>
    obtain rfl := gives_act (f := fun s => if isStationKind k then s else stationFrameIn p k (fun _ => false) id s) gives
    split
    · exact h
    · exact stationFrameIn_claims h p _ _ fun t _ ht => ht
  case claim p feed n doses =>
    obtain rfl := gives_act gives
    exact stationFrameIn_claims h p _ _ fun t admitted ht => takeClaim_claims ht p feed n doses (portIn_eq admitted)
  case cancel p =>
    obtain rfl := gives_act gives
    exact stationFrameIn_claims h p _ _ fun t _ ht => stable.of t (takeCancel_touches t p) (by decide) ht
  case take p feed =>
    obtain rfl := gives_act gives
    exact stationFrameIn_claims h p _ _ fun t _ ht => stable.of t (takeTake_touches t p feed) (by decide) ht
  case doseStart p n i =>
    obtain rfl := gives_act gives
    exact stationFrameIn_claims h p _ _ fun t _ ht => stable.of t (takeDoseStart_touches t p n i) (by decide) ht
  case doseEnd p n i r =>
    obtain rfl := gives_act gives
    exact stationFrameIn_claims h p _ _ fun t accepted ht => takeDoseEnd_claims ht p n i r accepted
  case verdict p n r w =>
    obtain rfl := gives_act gives
    exact stationFrameIn_claims h p _ _ fun t _ ht => stable.of t (takeVerdict_touches t p n r w) (by decide) ht
  case stationRelay p d =>
    obtain rfl := gives_act gives
    split
    · exact stationFrameIn_claims h p _ _ fun t _ ht => stable.nil t (raise_touches t _) ht
    · exact stable.nil _ (discardFrame_touches _ p) h
  case idleMarker p =>
    obtain rfl := gives_act gives
    exact ite_keeps _ (fun _ => heard_claims (stable.nil _ (modPort_touches _ p rfl le_rfl) h) p) h
  case linkTimerExpiry p =>
    obtain rfl := gives_act gives
    exact ite_keeps _ (fun _ => linkDown_claims h p) h
  case proofTimerExpiry p =>
    obtain rfl := gives_act gives
    exact proofExpiry_claims h p
  case portPark tag d =>
    obtain rfl := gives_act gives
    exact takeRequest_keeps stable _ _ _ _ (fun n t _ _ ht => orBadValue_keeps stable t n (fun p _ =>
      check_keeps stable t n _ (fun admitted => check_keeps stable t n _ (fun _ =>
        stable.nil _ (reply_touches _ n .done) (parkPort_claims ht p _ (eq_of_beq admitted))) ht) ht) ht) h
  case portWake tag d =>
    obtain rfl := gives_act gives
    exact takeRequest_keeps stable _ _ _ _ (fun n t _ _ ht => orBadValue_keeps stable t n (fun p _ =>
      stable.nil _ (reply_touches _ n .done) (wakePort_claims ht p)) ht) h
  case quiet tag d =>
    obtain rfl := gives_act gives
    exact takeRequest_keeps stable _ _ _ _ (fun n t _ _ ht => serveQuiet_claims ht n) h
  case lockout tag d =>
    obtain rfl := gives_act gives
    exact takeRequest_keeps stable _ _ _ _ (fun n t _ _ ht => withSession_keeps stable t n _ _ (fun x u hu =>
      orBadValue_keeps stable u n (fun p _ => check_keeps stable u n _ (fun _ => check_keeps stable u n _ (fun _ =>
        check_keeps stable u n _ (fun room => placeHold_claims hu n x p room) hu) hu) hu) hu) ht) h
  case spxRestart =>
    obtain rfl := gives_act gives
    exact owed_keeps stable _ (fun t ht => restartSpx_claims ht) h
  case prvRestart =>
    obtain rfl := gives_act gives
    exact owed_keeps stable _ (fun t ht => restartPrv_claims ht) h
  case settingJobEnd =>
    obtain rfl := gives_act gives
    refine endJob_keeps _ (fun j a _ _ _ => ?_) (fun j a _ _ _ => ?_) h
    · exact stable.nil _ (replyAll_touches _ j.origin .done) (tellUser_claims (stored _) a)
    · exact stable.nil _ ((raise_touches _ (.storeFault j.body)).trans (replyAll_touches _ j.origin .storeFault)) (stored _)
  case failcountJobEnd =>
    obtain rfl := gives_act gives
    refine endJob_keeps _ (fun j a _ _ _ => ?_) (fun j a _ _ _ => ?_) h
    · unfold failcountWritten
      split
      · refine stable.nil _ (replyAll_touches _ j.origin .done) (evalSubject_claims ?_ _)
        split
        · exact stored _
        · exact stable.of _ (putCount_touches _ _ _) (by decide) (stored _)
      · exact stored _
    · exact stable.nil _ ((raise_touches _ (.storeFault j.body)).trans (replyAll_touches _ j.origin .storeFault)) (stored _)
  case saveHoldExpiry | powerOn =>
    obtain rfl := gives_act gives
    exact ite_keeps (P := Part.claimsBut []) s.part (fun _ => boot_claims _ _ _) h
  all_goals exact stable.of _ touches (of_decide_eq_true rfl) h

/-- Settles O9: FCO's operations let no port hold more (`Fco.Shrinks`); a claim comes from an ADMITTED port that holds nothing, a remnant
goes to an ADMITTED port, and a port that leaves ADMITTED is told to FCO, which drops what it holds. -/
theorem stepKeepsClaimsSound : Obligations.StepKeepsClaimsSound := by
  unfold Obligations.StepKeepsClaimsSound
  intro s t sound stepped
  rw [claimsSound_iff] at sound ⊢
  exact step_keeps (P := Part.claimsBut []) (fun c s t h gives touches => exec_claims h gives touches) sound stepped

end Sys2Proof.Machine
end

section
/-! Barring: a port is BARRED, and the reader, exactly when the failed count has reached a nonzero limit. What changes a count or a limit
evaluates the subject after it, and the evaluation sets it right whatever it was. -/

namespace Sys2Proof.Machine

/-! ### A subject set right -/

/-- The subject is barred exactly when its count has reached a nonzero limit. -/
def Part.right (s : Part) : Subject → Prop
  | .port p => s.ports[p].admission = .barred ↔ s.portBarred p = true
  | .reader => s.sva.reader = .barred ↔ s.readerBarred = true

/-- Outside SAVE and with supply every subject but these is right. -/
def Part.barringBut (S : Set Subject) (s : Part) : Prop :=
  s.psc.state ≠ .save → s.psc.state ≠ .off → ∀ w ∉ S, s.right w

theorem barringSound_iff (s : Part) : s.barringSound ↔ s.barringBut ∅ := by
  constructor
  · intro h save off w _
    obtain ⟨ports, reader⟩ := h save off
    cases w with
    | port p => exact ports p
    | reader => exact reader
  · intro h save off
    exact ⟨fun p => h save off (.port p) (Set.notMem_empty _), h save off .reader (Set.notMem_empty _)⟩

/-- The views that barring does not look at. -/
def barless : List View :=
  [.hlc, .trk, .feeds, .places, .needs, .admission, .relay, .contexts, .sessions, .holders, .store, .queue, .lines, .holds]

theorem right_iff {s t : Part} (touches : Touches (.names :: barless) s t) (w : Subject) : t.right w ↔ s.right w := by
  obtain ⟨counts, readerCount, station, badge⟩ := touches.counts (by decide)
  cases w with
  | port p =>
    unfold Part.right Part.portBarred
    rw [counts, station]
    exact iff_congr (touches.barred (by decide) p) Iff.rfl
  | reader =>
    unfold Part.right Part.readerBarred
    rw [readerCount, badge, touches.reader (by decide)]

theorem barringBut_stable (S : Set Subject) : Stable barless (Part.barringBut S) := by
  intro s t touches h save off w hw
  obtain ⟨saved, lost⟩ := touches.supply (by decide)
  exact (right_iff touches w).mpr (h (mt saved.mpr save) (mt lost.mpr off) w hw)

section
variable {S : Set Subject} {s : Part}

/-- What a subject is set right by lets go of the others. -/
theorem Part.barringBut.mono {T : Set Subject} (h : s.barringBut S) (sub : S ⊆ T) : s.barringBut T := fun save off w hw =>
  h save off w fun m => hw (sub m)

end

/-! ### The evaluation sets a subject right -/

theorem setAdmission_admission (p q : Port) (a : Admission) (s : Part) :
    (setAdmission p a s).ports[q].admission = if p = q then a else s.ports[q].admission := by
  rw [setAdmission, modPort_ports, upd_get]
  split <;> rfl

theorem leaveAdmitted_admission (p q : Port) (a : Admission) (why : LeaveCause) (s : Part) :
    (leaveAdmitted p a why s).ports[q].admission = if p = q then a else s.ports[q].admission :=
  ((left_touches _ p a why).admission (by decide) q).trans (setAdmission_admission p q a s)

theorem barPort_admission (p q : Port) (s : Part) :
    (barPort p s).ports[q].admission = if p = q then .barred else s.ports[q].admission := by
  unfold barPort
  dsimp only
  rw [(raise_touches _ _).admission (by decide)]
  split
  · exact leaveAdmitted_admission p q _ _ (endContext p s)
  · exact setAdmission_admission p q _ (endContext p s)

theorem portBarred_evalPort (p q : Port) (s : Part) : (evalPort p s).portBarred q = s.portBarred q := by
  obtain ⟨counts, -, station, -⟩ := (evalPort_touches s p).counts (by decide)
  rw [Part.portBarred, Part.portBarred, counts, station]

theorem evalPort_right {s : Part} (save : s.psc.state ≠ .save) (p : Port) : (evalPort p s).right (.port p) := by
  change (evalPort p s).ports[p].admission = .barred ↔ (evalPort p s).portBarred p = true
  rw [portBarred_evalPort]
  unfold evalPort
  rw [if_neg save]
  cases reached : s.portBarred p <;> by_cases barred : s.ports[p].admission = .barred
  · have free : (unbarPort p s).ports[p].admission ≠ .barred := by
      rw [unbarPort, modPort_ports, upd_self]
      dsimp only
      split
      · exact waitingState_ne_barred _
      · decide
    simpa [-Fin.getElem_fin, barred] using free
  · rw [if_neg (by simp), if_neg (by simpa [-Fin.getElem_fin] using barred)]
    exact iff_of_false barred (by decide)
  · simp [-Fin.getElem_fin, barred]
  · simp [-Fin.getElem_fin, barred, barPort_admission]

theorem evalPort_other {p : Port} {w : Subject} (h : w ≠ .port p) (s : Part) : (evalPort p s).right w ↔ s.right w := by
  cases w with
  | port q =>
    have ne : p ≠ q := fun e => h (e ▸ rfl)
    have same : (evalPort p s).ports[q].admission = s.ports[q].admission := by
      unfold evalPort
      split
      · rfl
      · split
        · exact (barPort_admission p q s).trans (if_neg ne)
        · split
          · exact congrArg PortRec.admission (upd_ne s.ports _ ne)
          · rfl
    rw [Part.right, Part.right, portBarred_evalPort, same]
  | reader =>
    have touches := evalPort_touches s p
    obtain ⟨-, count, -, badge⟩ := touches.counts (by decide)
    rw [Part.right, Part.right, Part.readerBarred, Part.readerBarred, count, badge, touches.reader (by decide)]

theorem evalReader_right {s : Part} (save : s.psc.state ≠ .save) : (evalReader s).right .reader := by
  obtain ⟨-, count, -, badge⟩ := (evalReader_touches s).counts (by decide)
  have same : (evalReader s).readerBarred = s.readerBarred := by rw [Part.readerBarred, Part.readerBarred, count, badge]
  change (evalReader s).sva.reader = .barred ↔ (evalReader s).readerBarred = true
  rw [same]
  unfold evalReader
  rw [if_neg save]
  cases reached : s.readerBarred <;> by_cases barred : s.sva.reader = .barred
  · simp [barred, unbarReader]
  · rw [if_neg (by simp), if_neg (by simpa using barred)]
    exact iff_of_false barred (by decide)
  · simp [barred]
  · simp [barred, barReader_reader]

theorem evalReader_other {w : Subject} (h : w ≠ .reader) (s : Part) : (evalReader s).right w ↔ s.right w := by
  cases w with
  | port p =>
    have touches := evalReader_touches s
    obtain ⟨counts, -, station, -⟩ := touches.counts (by decide)
    rw [Part.right, Part.right, Part.portBarred, Part.portBarred, counts, station, touches.admission (by decide)]
  | reader => exact absurd rfl h

theorem evalSubject_right {s : Part} (save : s.psc.state ≠ .save) (w : Subject) : (evalSubject w s).right w := by
  cases w with
  | port p => exact evalPort_right save p
  | reader => exact evalReader_right save

theorem evalSubject_other {w v : Subject} (h : v ≠ w) (s : Part) : (evalSubject w s).right v ↔ s.right v := by
  cases w with
  | port p => exact evalPort_other h s
  | reader => exact evalReader_other h s

theorem evalSubject_supply (w : Subject) (s : Part) : ((evalSubject w s).psc.state = .save ↔ s.psc.state = .save) ∧
    ((evalSubject w s).psc.state = .off ↔ s.psc.state = .off) :=
  (evalSubject_touches s w).supply (by cases w <;> simp [Subject.views])

theorem evalSubject_barring {S : Set Subject} {s : Part} {w : Subject} (h : s.barringBut (insert w S)) : (evalSubject w s).barringBut S := by
  intro save off v hv
  obtain ⟨saved, lost⟩ := evalSubject_supply w s
  have save := mt saved.mpr save
  by_cases e : v = w
  · exact e ▸ evalSubject_right save w
  · exact (evalSubject_other e s).mpr (h save (mt lost.mpr off) v fun m => (Set.mem_insert_iff.mp m).elim e hv)

/-- R113, R115, R117: the evaluation of them all. -/
theorem evalAll_barring (s : Part) : (evalAll s).barringBut ∅ := by
  have ports (l : List Port) (S : Set Subject) (s : Part) (h : s.barringBut ({w | ∃ p ∈ l, w = .port p} ∪ S)) :
      (forEach l evalPort s).barringBut S := by
    induction l generalizing s with
    | nil => exact h.mono (by simp)
    | cons p l ih =>
      refine ih (evalPort p s) (evalSubject_barring (w := .port p) (h.mono fun w hw => ?_))
      simpa [or_assoc] using hw
  refine evalSubject_barring (w := .reader) (ports (List.finRange 12) _ s fun _ _ w hw => ?_)
  cases w <;> simp at hw

/-! ### Counts -/

theorem putCount_right {w v : Subject} (h : v ≠ w) (n : Nat) (s : Part) : (putCount w n s).right v ↔ s.right v := by
  cases w with
  | port p =>
    cases v with
    | port q =>
      have ne : p ≠ q := fun e => h (e ▸ rfl)
      simp only [Part.right, Part.portBarred, putCount, set_get, if_neg ne]
    | reader => rfl
  | reader =>
    cases v with
    | port q => rfl
    | reader => exact absurd rfl h

/-- A count put leaves the other subjects right. -/
theorem putCount_barring {S : Set Subject} {s : Part} {w : Subject} (h : s.barringBut (insert w S)) (n : Nat) :
    (putCount w n s).barringBut (insert w S) := by
  intro save off v hv
  have same : (putCount w n s).psc = s.psc := by cases w <;> rfl
  rw [same] at save off
  exact (putCount_right (fun e => hv (Set.mem_insert_iff.mpr (.inl e))) n s).mpr (h save off v hv)

theorem setCount_barring {S : Set Subject} {s : Part} {w : Subject} (h : s.barringBut (insert w S)) (n : Nat) :
    (setCount w n s).barringBut (insert w S) := by
  unfold setCount
  split
  · exact h
  · exact (barringBut_stable _).of _ (queueCount_touches _ w n) (by decide) (putCount_barring h n)

theorem countFailure_barring {S : Set Subject} {s : Part} {w : Subject} (h : s.barringBut (insert w S)) :
    (countFailure w s).barringBut S := by
  unfold countFailure
  refine evalSubject_barring ?_
  split
  · exact (barringBut_stable _).of s (retakeCount_touches s w _) (by decide) h
  · exact setCount_barring h _

/-- A count set to 0 lets its port go. -/
theorem setCount_zero_port {s : Part} {p : Port} (free : s.ports[p].admission ≠ .barred) : (setCount (.port p) 0 s).right (.port p) := by
  have count : (setCount (.port p) 0 s).prv.counts[p] = 0 := setCount_count (.port p) 0 s
  have reached : (setCount (.port p) 0 s).portBarred p = false := by
    simp only [Part.portBarred, count, limitReached, decide_eq_false_iff_not]
    omega
  rw [Part.right, reached, setCount_ports]
  exact iff_of_false free (by decide)

/-- A count set to 0 lets the reader go. -/
theorem setCount_zero_reader {s : Part} (free : s.sva.reader ≠ .barred) : (setCount .reader 0 s).right .reader := by
  have count : (setCount .reader 0 s).prv.readerCount = 0 := setCount_count .reader 0 s
  have reached : (setCount .reader 0 s).readerBarred = false := by
    simp only [Part.readerBarred, count, limitReached, decide_eq_false_iff_not]
    omega
  rw [Part.right, reached, setCount_sva]
  exact iff_of_false free (by decide)

/-- A subject that is right joins the others. -/
theorem Part.barringBut.settled {S : Set Subject} {s : Part} {w : Subject} (h : s.barringBut (insert w S)) (right : s.right w) :
    s.barringBut S := fun save off v hv => by
  by_cases e : v = w
  · exact e ▸ right
  · exact h save off v fun m => (Set.mem_insert_iff.mp m).elim e hv

/-! ### Stations -/

section
variable {s : Part} (h : s.barringBut ∅)
include h

/-- A port moves, and is evaluated or let go after that. -/
theorem Part.barringBut.moved (p : Port) (g : PortRec → PortRec) : (modPort p g s).barringBut (insert (.port p) ∅) := by
  intro save off w hw
  have old := h save off w (Set.notMem_empty _)
  cases w with
  | port q =>
    have ne : p ≠ q := fun e => hw (Set.mem_insert_iff.mpr (.inl (e ▸ rfl)))
    rw [Part.right, modPort_ports, upd_ne _ _ ne]
    exact old
  | reader => exact old

theorem failExchange_barring (p : Port) : (failExchange p s).barringBut ∅ :=
  countFailure_barring (((barringBut_stable ∅).nil s (endContext_touches s p) h).moved p _)

theorem unexpected_barring (p : Port) (k : Byte) : (unexpected p k s).barringBut ∅ := by
  have listened {t : Part} (ht : t.barringBut ∅) : (refuseIfListening p k t).barringBut ∅ :=
    (barringBut_stable ∅).nil t (refuseIfListening_touches t p k) ht
  unfold unexpected
  split
  · exact (barringBut_stable ∅).nil s (refuse_touches s p _ k) h
  · next challenged =>
    split
    · exact listened (failExchange_barring h p)
    · exact listened ((barringBut_stable ∅).of s (modPort_touches_admission s p
        (iff_of_false (waitingState_ne_barred _) (by rw [challenged]; decide)) le_rfl) (by decide) h)
  · next admitted =>
    exact listened ((barringBut_stable ∅).of s (leaveAdmitted_touches_free s p _ (waitingState_ne_barred _)
      (by rw [admitted]; decide)) (by decide) h)
  · exact h

theorem takeHello_barring (p : Port) (identity : Identity) (role : Byte) (listening : s.ports[p].admission = .listening) :
    (takeHello p identity role s).barringBut ∅ := by
  have refused {t : Part} (ht : t.barringBut ∅) (w : Reason) : (refuse p w 0x01 t).barringBut ∅ :=
    (barringBut_stable ∅).nil t (refuse_touches t p w _) ht
  have touches : Touches [] s (loadBinding p s) := modPort_touches s p rfl le_rfl
  have loaded := (barringBut_stable ∅).nil s touches h
  unfold takeHello
  split
  · exact refused h _
  · split
    · exact refused h _
    · dsimp only
      split
      · exact refused loaded _
      · have listening := (touches.admission (by decide) p).trans listening
        generalize loadBinding p s = t at *
        have drawn : Touches [.contexts] t { t with
            prv.contexts := t.prv.contexts.set p (some ⟨t.nonce, t.prv.keys[t.ports[p].cfg.slot], t.timer Config.proofTime⟩)
            prv.draws := t.prv.draws + 1 } := { Touches.refl _ _ with contexts := fun hv => absurd (by decide) hv }
        have told := drawn.then (sendStation_touches _ p (.challenge t.nonce)) (by decide)
        have free := (told.admission (by decide) p).trans listening
        exact (barringBut_stable ∅).of t ((told.mono (by decide)).then
          (setAdmission_touches_free _ p (a := .challenged) (by decide) (by rw [free]; decide)) (by decide)
            : Touches [.contexts, .admission] t _) (by decide) loaded

theorem admitPort_barring (p : Port) (k : Context) (nb : Block) : (admitPort p k nb s).barringBut ∅ := by
  have ended := (barringBut_stable ∅).nil s (endContext_touches s p) h
  have welcome := sendStation_touches (endContext p s) p (.welcome (proofValue k.key nb k.nonce) s.mtu.hall)
  have welcomed := (barringBut_stable ∅).nil _ welcome ended
  have admitted := setCount_barring (welcomed.moved p fun r => { r with admission := .admitted }) 0
  refine (barringBut_stable ∅).nil _ (raise_touches _ _) (admitted.settled (setCount_zero_port ?_))
  rw [modPort_ports, upd_self]
  nofun

theorem takeProof_barring (p : Port) (nb proof : Block) : (takeProof p nb proof s).barringBut ∅ := by
  unfold takeProof
  split
  · exact unexpected_barring h p _
  · split
    · exact admitPort_barring h p _ nb
    · exact failExchange_barring h p

theorem proofExpiry_barring (p : Port) : (proofExpiry p s).barringBut ∅ := by
  unfold proofExpiry
  split
  · exact h
  · split
    · exact failExchange_barring h p
    · exact h

/-! ### The reader -/

/-- The reader changes, and is evaluated or let go after that. -/
theorem Part.barringBut.readerMoved {t : Part} (touches : Touches (.reader :: barless) s t) : t.barringBut (insert .reader ∅) := by
  intro save off w hw
  obtain ⟨saved, lost⟩ := touches.supply (by decide)
  have old := h (mt saved.mpr save) (mt lost.mpr off) w (Set.notMem_empty _)
  cases w with
  | port p =>
    obtain ⟨counts, -, station, -⟩ := touches.counts (by decide)
    unfold Part.right Part.portBarred at *
    rw [counts, station]
    exact (touches.barred (by decide) p).trans old
  | reader => exact absurd (Set.mem_insert _ _) hw

/-- A reader that is not BARRED goes to another state that is none. -/
theorem Part.barringBut.readerFree {t : Part} (touches : Touches (.reader :: barless) s t) (before : s.sva.reader ≠ .barred)
    (after : t.sva.reader ≠ .barred) : t.barringBut ∅ := by
  intro save off w hw
  obtain ⟨saved, lost⟩ := touches.supply (by decide)
  have old := h (mt saved.mpr save) (mt lost.mpr off) w hw
  cases w with
  | port p =>
    exact h.readerMoved touches save off (.port p) (by simp)
  | reader =>
    obtain ⟨-, count, -, badge⟩ := touches.counts (by decide)
    unfold Part.right Part.readerBarred at *
    rw [count, badge]
    exact (iff_of_false after before).trans old

omit h in
theorem readerSet_touches (s : Part) (r : Reader) (k : Option ReaderContext) (sessions : List Session) (last : Byte) (draws : Nat) :
    Touches [.reader, .sessions, .contexts] s { s with
      sva.reader := r, sva.sessions := sessions, sva.lastSession := last, prv.readerContext := k, prv.draws := draws } :=
  { Touches.refl _ _ with
    reader := fun hv => absurd (by decide) hv
    sessions := fun hv => absurd (by decide) hv
    contexts := fun hv => absurd (by decide) hv }

theorem denyBadge_barring : (denyBadge s).barringBut ∅ := by
  unfold denyBadge
  exact countFailure_barring ((barringBut_stable _).nil _ (sendReader_touches _ _)
    (h.readerMoved ((readerSet_touches s .ready none s.sva.sessions s.sva.lastSession s.prv.draws).mono (by decide))))

theorem takePresent_barring (badge : Word) : (takePresent badge s).barringBut ∅ := by
  unfold takePresent
  split
  · have awake := (barringBut_stable ∅).nil s (wakeUp_touches s .reader) h
    have told {t : Part} (ht : t.barringBut ∅) (f : ReaderOut) : (sendReader f t).barringBut ∅ :=
      (barringBut_stable ∅).nil t (sendReader_touches t f) ht
    generalize wakeUp .reader s = t at *
    unfold servePresent
    split
    · next ready =>
      unfold presentReady
      split
      · exact told awake _
      · split
        · exact told awake _
        · split
          · exact denyBadge_barring awake
          · next r _ =>
            have touches := readerSet_touches t (.challenging r.badge r.role)
              (some ⟨t.nonce, t.prv.keys[r.slot], r.badge, t.timer Config.proofTime⟩) t.sva.sessions t.sva.lastSession (t.prv.draws + 1)
            exact told (awake.readerFree (touches.mono (by decide)) (by rw [ready]; nofun) nofun) _
    · exact denyBadge_barring awake
    · exact told awake _
  · exact h

theorem openSession_barring (badge : Word) (role : BadgeRole) (proof : Block) : (openSession badge role proof s).barringBut ∅ := by
  unfold openSession
  dsimp only
  refine (barringBut_stable ∅).nil _ (raise_touches _ _) ?_
  have ready := h.readerMoved ((readerSet_touches s .ready none
    (s.sva.sessions ++ [⟨s.sva.newSession, badge, role, s.mtu.hall, s.timer (s.sva.timeout * Config.minute)⟩])
    s.sva.newSession s.prv.draws).mono (by decide))
  refine (setCount_barring ((barringBut_stable _).nil _ (sendReader_touches _ _) ready) 0).settled (setCount_zero_reader ?_)
  rw [(sendReader_touches _ _).reader (by decide)]
  nofun

theorem takeReaderProof_barring (nb proof : Block) : (takeReaderProof nb proof s).barringBut ∅ := by
  unfold takeReaderProof
  split
  · split
    · next badge role exchange =>
      have touches := wakeUp_touches s .reader
      have awake := (barringBut_stable ∅).nil s touches h
      have exchange := (touches.reader (by decide)).trans exchange
      generalize wakeUp .reader s = t at *
      unfold badgeProof
      split
      · exact (barringBut_stable ∅).nil _ (sendReader_touches _ _)
          (awake.readerFree ((readerSet_touches t .ready t.prv.readerContext t.sva.sessions t.sva.lastSession t.prv.draws).mono (by decide))
            (by rw [exchange]; nofun) nofun)
      · split
        · exact openSession_barring awake _ _ _
        · exact denyBadge_barring awake
    · exact (barringBut_stable ∅).nil s (sendReader_touches s _) h
  · exact h

theorem readerProofExpiry_barring : (readerProofExpiry s).barringBut ∅ := by
  unfold readerProofExpiry
  split
  · exact h
  · split
    · exact denyBadge_barring h
    · exact h

theorem barExpiry_barring : (barExpiry s).barringBut ∅ := by
  unfold barExpiry
  split
  · have count : (unbarReader (setCount .reader 0 s)).prv.readerCount = 0 := setCount_count .reader 0 s
    refine Part.barringBut.settled (w := .reader) (fun save off w hw => ?_) ?_
    · have counted := setCount_barring (w := .reader) (h.mono (Set.empty_subset _)) 0 save off w hw
      cases w with
      | port p => exact counted
      | reader => exact absurd (Set.mem_insert _ _) hw
    · have reached : (unbarReader (setCount .reader 0 s)).readerBarred = false := by
        simp only [Part.readerBarred, count, limitReached, decide_eq_false_iff_not]
        omega
      rw [Part.right, reached]
      exact iff_of_false nofun nofun
  · exact h

/-! ### The store, the restarts and the supply -/

theorem tellUser_barring (c : Setting) : (tellUser c s).barringBut ∅ := by
  have stable := barringBut_stable ∅
  cases c with
  | limits l =>
    change (loadLimits s).barringBut ∅
    rw [loadLimits]
    exact evalAll_barring _
  | meter p m =>
    refine stable.nil _ (evalService_touches _ p) (stable.nil s ?_ h)
    exact { Touches.refl _ _ with }
  | _ => exact h

theorem failcountWritten_barring (k : Subject × Nat × Bool × Bool) (origin : List Nat) :
    (failcountWritten k origin s).barringBut ∅ := by
  unfold failcountWritten
  split
  · refine (barringBut_stable ∅).nil _ (replyAll_touches _ origin .done) (evalSubject_barring ?_)
    split
    · exact h.mono (Set.empty_subset _)
    · exact putCount_barring (h.mono (Set.empty_subset _)) _
  · exact h

theorem restartSva_barring : (restartSva s).barringBut ∅ := by
  intro save off w hw
  have old := h save off w hw
  cases w with
  | port p => exact old
  | reader =>
    refine Iff.trans (?_ : s.sva.reader.restarted = .barred ↔ s.sva.reader = .barred) old
    cases s.sva.reader <;> simp [Reader.restarted]

end

/-- R103, R119, R194: at power-on the counts and the limits of the store decide. -/
theorem boot_barring (cause : RestartCause) (strap : Bool) (s : Part) : (boot cause strap s).barringBut ∅ := by
  intro _ _ w _
  cases w with
  | port p =>
    simp only [Part.right, Part.portBarred, boot, bootPrv, bootPort, Fin.getElem_fin, Vector.getElem_ofFn]
    split <;> simp_all
  | reader =>
    simp only [Part.right, Part.readerBarred, boot, bootPrv, bootSva, Nvs.bootsReaderBarred]
    by_cases reached : limitReached s.nvs.limits.badgeLimit s.nvs.readerFailed <;> simp [reached]

theorem barringBut_of_save {S : Set Subject} {s : Part} (save : s.psc.state = .save) : s.barringBut S := fun h => absurd save h

theorem barringBut_of_off {S : Set Subject} {s : Part} (off : s.psc.state = .off) : s.barringBut S := fun _ h => absurd off h

/-! ### The statement -/

/-- The barring after a station frame, by what the frame does where it is accepted. -/
theorem stationFrameIn_barring {s : Part} (h : s.barringBut ∅) (p : Port) (k : Byte) (accepts : Part → Bool) {serve : Part → Part}
    (served : ∀ t : Part, accepts t = true → t.barringBut ∅ → (serve t).barringBut ∅) :
    (stationFrameIn p k accepts serve s).barringBut ∅ :=
  stationFrameIn_keeps s p k accepts (fun h => (barringBut_stable ∅).of _ (heard_touches s p) (by decide) h)
    (fun _ ht => unexpected_barring ht p k) served h

theorem exec_barring {c : Instr} {s : State} {t : Part} (h : s.part.barringBut ∅) (gives : Gives c s t)
    (touches : Touches (.names :: viewsOf c) s.part t) : t.barringBut ∅ := by
  have stable := barringBut_stable ∅
  have stored (n : Nvs) : ({ s.part with nvs := n } : Part).barringBut ∅ := h
  cases c
  case hello p identity role =>
    obtain rfl := gives_act gives
    exact stationFrameIn_barring h p _ _ fun t listening ht => takeHello_barring ht p identity role (portIn_eq listening)
  case proof p nb proof =>
    obtain rfl := gives_act gives
    exact stationFrameIn_barring h p _ _ fun t _ ht => takeProof_barring ht p nb proof
  case disown p =>
    obtain rfl := gives_act gives
    exact stationFrameIn_barring h p _ _ fun t admitted ht =>
      stable.of t (leaveAdmitted_touches_free t p _ (by decide) (by rw [portIn_eq admitted]; decide)) (by decide) ht
  case report p b =>
    obtain rfl := gives_act gives
    exact stationFrameIn_barring h p _ _ fun t _ ht => stable.of t (takeReport_touches t p b) (by decide) ht
  case undefinedKind p k =>
    obtain rfl := gives_act (f := fun s => if isStationKind k then s else stationFrameIn p k (fun _ => false) id s) gives
    split
    · exact h
    · exact stationFrameIn_barring h p _ _ fun t _ ht => ht
  case claim p feed n doses =>
    obtain rfl := gives_act gives
    exact stationFrameIn_barring h p _ _ fun t _ ht => stable.of t (takeClaim_touches t p feed n doses) (by decide) ht
  case cancel p =>
    obtain rfl := gives_act gives
    exact stationFrameIn_barring h p _ _ fun t _ ht => stable.of t (takeCancel_touches t p) (by decide) ht
  case take p feed =>
    obtain rfl := gives_act gives
    exact stationFrameIn_barring h p _ _ fun t _ ht => stable.of t (takeTake_touches t p feed) (by decide) ht
  case doseStart p n i =>
    obtain rfl := gives_act gives
    exact stationFrameIn_barring h p _ _ fun t _ ht => stable.of t (takeDoseStart_touches t p n i) (by decide) ht
  case doseEnd p n i r =>
    obtain rfl := gives_act gives
    exact stationFrameIn_barring h p _ _ fun t _ ht => stable.of t (takeDoseEnd_touches t p n i r) (by decide) ht
  case verdict p n r w =>
    obtain rfl := gives_act gives
    exact stationFrameIn_barring h p _ _ fun t _ ht => stable.of t (takeVerdict_touches t p n r w) (by decide) ht
  case stationRelay p d =>
    obtain rfl := gives_act gives
    split
    · exact stationFrameIn_barring h p _ _ fun t _ ht => stable.nil t (raise_touches t _) ht
    · exact stable.nil _ (discardFrame_touches _ p) h
  case proofTimerExpiry p =>
    obtain rfl := gives_act gives
    exact proofExpiry_barring h p
  case present badge =>
    obtain rfl := gives_act gives
    exact takePresent_barring h badge
  case readerProof nb proof =>
    obtain rfl := gives_act gives
    exact takeReaderProof_barring h nb proof
  case readerProofTimerExpiry =>
    obtain rfl := gives_act gives
    exact readerProofExpiry_barring h
  case barTimerExpiry =>
    obtain rfl := gives_act gives
    exact barExpiry_barring h
  case prvRestart =>
    obtain rfl := gives_act gives
    exact owed_keeps stable _ (fun t _ => evalAll_barring _) h
  case svaRestart =>
    obtain rfl := gives_act gives
    exact owed_keeps stable _ (fun t ht => restartSva_barring ht) h
  case settingJobEnd =>
    obtain rfl := gives_act gives
    refine endJob_keeps _ (fun j a _ _ _ => ?_) (fun j a _ _ _ => ?_) h
    · exact stable.nil _ (replyAll_touches _ j.origin .done) (tellUser_barring (stored _) a)
    · exact stable.nil _ ((raise_touches _ (.storeFault j.body)).trans (replyAll_touches _ j.origin .storeFault)) (stored _)
  case failcountJobEnd =>
    obtain rfl := gives_act gives
    refine endJob_keeps _ (fun j a _ _ _ => ?_) (fun j a _ _ _ => ?_) h
    · exact failcountWritten_barring (stored _) a j.origin
    · exact stable.nil _ ((raise_touches _ (.storeFault j.body)).trans (replyAll_touches _ j.origin .storeFault)) (stored _)
  case supplyLowTimerExpiry =>
    obtain rfl := gives_act gives
    exact ite_keeps (P := Part.barringBut ∅) s.part (fun _ => barringBut_of_save (enterSave_state _)) h
  case saveHoldExpiry | powerOn =>
    obtain rfl := gives_act gives
    exact ite_keeps (P := Part.barringBut ∅) s.part (fun _ => boot_barring _ _ _) h
  case powerLoss =>
    obtain rfl := gives_act gives
    exact barringBut_of_off (losePower_state _ _)
  all_goals exact stable.of _ touches (of_decide_eq_true rfl) h

/-- Settles O10: what changes a count or a limit evaluates the subject it concerns, and the evaluation bars it or lets it go by the count
and the limit alone (`evalSubject_right`); what sets a count to 0 has the subject free. -/
theorem stepKeepsBarringSound : Obligations.StepKeepsBarringSound := by
  unfold Obligations.StepKeepsBarringSound
  intro s t sound stepped
  rw [barringSound_iff] at sound ⊢
  exact step_keeps (P := Part.barringBut ∅) (fun c s t h gives touches => exec_barring h gives touches) sound stepped

end Sys2Proof.Machine
end

section
/-! The stored hold list: it is always the set of the holds marked recorded, and every hold job has its hold. A LOCKOUT adds a hold and
its job, a release marks a hold and adds its job, the end of a job takes the job away and changes the hold and the store together. -/

namespace Sys2Proof.Machine

/-! ### Holds, store and jobs together -/

/-- The port and badge of what a hold job writes. -/
def JobBody.holdKey? : JobBody → Option (Port × Word)
  | .holdAdd h => some (h.port, h.badge)
  | .holdRemove p b => some (p, b)
  | _ => none

/-- What a hold job writes has its hold among those of the ports. -/
def JobBody.backed (v : Vector (List Hold) 12) : JobBody → Prop
  | .holdAdd h => (⟨h.badge, h.session, h.placed, false, false⟩ : Hold) ∈ v[h.port]
  | .holdRemove p b => ∃ x ∈ v[p], x.badge = b ∧ x.releasing = true
  | _ => True

/-- The stored list: no port with more than three holds, none with a badge twice. -/
def holdsFit (l : List StoredHold) : Prop :=
  (∀ p : Port, (l.filter (·.port == p)).length ≤ Config.holdSize) ∧ (l.map fun h => (h.port, h.badge)).Nodup

/-- The holds of the ports, the stored list and what the hold jobs write belong together. -/
structure HoldsKept (v : Vector (List Hold) 12) (l : List StoredHold) (jobs : List JobBody) : Prop where
  room : ∀ p : Port, v[p].length ≤ Config.holdSize
  badges : ∀ p : Port, (v[p].map (·.badge)).Nodup
  recorded : ∀ h : StoredHold, h ∈ l ↔ ∃ x ∈ v[h.port], x.recorded = true ∧ x.stored h.port = h
  backed : ∀ b ∈ jobs, b.backed v
  keys : (jobs.filterMap JobBody.holdKey?).Nodup

theorem holdKeys_eq (l : List Job) : (l.filterMap Job.holdBody?).filterMap JobBody.holdKey? = l.filterMap Job.holdKey? := by
  rw [List.filterMap_filterMap]
  congr
  funext ⟨body, origin⟩
  cases body <;> rfl

theorem backed_iff (v : Sva) (l : List Job) :
    (∀ b ∈ l.filterMap Job.holdBody?, b.backed v.holders) ↔ ∀ j ∈ l, v.backs j := by
  simp only [List.mem_filterMap, forall_exists_index, and_imp]
  constructor
  · intro h j hj
    obtain ⟨body, origin⟩ := j
    cases body
    case holdAdd a => exact h _ _ hj rfl
    case holdRemove p b => exact h _ _ hj rfl
    all_goals exact True.intro
  · intro h b j hj hb
    obtain ⟨body, origin⟩ := j
    cases body <;> simp only [Job.holdBody?, Option.some.injEq, reduceCtorEq] at hb
    all_goals exact hb ▸ h _ hj

theorem holdsSound_iff (s : Part) : s.holdsSound ↔
    holdsFit s.nvs.holds ∧ (s.psc.state ≠ .off → HoldsKept s.sva.holders s.nvs.holds s.nvs.holdBodies) := by
  unfold Part.holdsSound holdsFit
  rw [and_assoc]
  refine and_congr Iff.rfl (and_congr Iff.rfl (imp_congr Iff.rfl ⟨?_, ?_⟩))
  · rintro ⟨ports, recorded, backs, keys⟩
    exact ⟨fun p => (ports p).1, fun p => (ports p).2, recorded, (backed_iff _ _).mpr backs, (holdKeys_eq _).symm ▸ keys⟩
  · rintro ⟨room, badges, recorded, backed, keys⟩
    exact ⟨fun p => ⟨room p, badges p⟩, recorded, (backed_iff _ _).mp backed, holdKeys_eq _ ▸ keys⟩

/-- The views that the hold list does not look at. -/
def holdless : List View :=
  [.hlc, .trk, .feeds, .places, .needs, .admission, .barred, .relay, .contexts, .counts, .reader, .sessions, .store, .queue, .lines]

theorem HoldsKept.fewerJobs {v : Vector (List Hold) 12} {l : List StoredHold} {a b : List JobBody} (h : HoldsKept v l a)
    (sub : b.Subperm a) : HoldsKept v l b where
  room := h.room
  badges := h.badges
  recorded := h.recorded
  backed c hc := h.backed c (sub.subset hc)
  keys := by
    obtain ⟨c, perm, sub⟩ := sub
    exact (perm.filterMap _).nodup_iff.mp (h.keys.sublist (sub.filterMap _))

theorem holdsSound_stable : Stable holdless Part.holdsSound := by
  intro s t touches h
  rw [holdsSound_iff] at h ⊢
  obtain ⟨fit, kept⟩ := h
  obtain ⟨same, sub⟩ := touches.holds (by decide)
  rw [same, touches.holders (by decide)]
  exact ⟨fit, fun on => (kept (mt (touches.supply (by decide)).2.mpr on)).fewerJobs sub⟩

/-! ### One hold -/

section
variable {v : Vector (List Hold) 12} {l : List StoredHold} {jobs : List JobBody}

/-- R138: the hold is in release, or no longer. -/
def Hold.marked (m : Bool) (x : Hold) : Hold := { x with releasing := m }

/-- A badge has one hold on a port. -/
theorem HoldsKept.unique (h : HoldsKept v l jobs) {p : Port} {x y : Hold} (hx : x ∈ v[p]) (hy : y ∈ v[p]) (e : x.badge = y.badge) :
    x = y := List.inj_on_of_nodup_map (h.badges p) hx hy e

/-- The holds of a port with a change to those of one badge. -/
def modHolds (v : Vector (List Hold) 12) (p : Port) (b : Word) (f : Hold → Hold) : Vector (List Hold) 12 :=
  upd v p fun l => l.map fun x => if x.badge == b then f x else x

theorem mem_modHolds {p q : Port} {b : Word} {f : Hold → Hold} {x : Hold} :
    x ∈ (modHolds v p b f)[q] ↔ ∃ y ∈ v[q], (if p = q ∧ y.badge = b then f y else y) = x := by
  rw [modHolds, upd_get]
  by_cases e : p = q
  · simp only [e, if_true, List.mem_map, beq_iff_eq, true_and]
  · simp only [e, if_false, false_and, exists_eq_right]

/-- A hold of another port or badge stays as it is. -/
theorem mem_modHolds_other {p q : Port} {b : Word} {f : Hold → Hold} {x : Hold} (h : x ∈ v[q]) (other : ¬(p = q ∧ x.badge = b)) :
    x ∈ (modHolds v p b f)[q] := mem_modHolds.mpr ⟨x, h, if_neg other⟩

theorem mem_modHolds_same {p : Port} {b : Word} {f : Hold → Hold} {x : Hold} (h : x ∈ v[p]) (same : x.badge = b) :
    f x ∈ (modHolds v p b f)[p] := mem_modHolds.mpr ⟨x, h, if_pos ⟨rfl, same⟩⟩

theorem modHolds_badges {p : Port} {b : Word} {f : Hold → Hold} (same : ∀ x, (f x).badge = x.badge) (q : Port) :
    (modHolds v p b f)[q].map (·.badge) = v[q].map (·.badge) := by
  rw [modHolds, upd_get]
  split
  · rw [List.map_map]
    refine List.map_congr_left fun x _ => ?_
    simp only [Function.comp_apply]
    split
    · exact same x
    · rfl
  · rfl

theorem HoldsKept.modBadges {p : Port} {b : Word} {f : Hold → Hold} (h : HoldsKept v l jobs) (q : Port)
    (same : ∀ x, (f x).badge = x.badge) : ((modHolds v p b f)[q].map (·.badge)).Nodup := by
  rw [modHolds_badges same]
  exact h.badges q

theorem modHolds_length {p : Port} {b : Word} {f : Hold → Hold} (q : Port) : (modHolds v p b f)[q].length = v[q].length := by
  rw [modHolds, upd_get]
  split
  · exact List.length_map _
  · rfl

/-- A job for another port and badge keeps its hold. -/
theorem JobBody.backed.kept {c : JobBody} {w : Vector (List Hold) 12} {p : Port} {b : Word} (h : c.backed v)
    (key : c.holdKey? ≠ some (p, b)) (others : ∀ q, ∀ x ∈ v[q], ¬(p = q ∧ x.badge = b) → x ∈ w[q]) : c.backed w := by
  cases c
  case holdAdd a =>
    refine others a.port _ h ?_
    rintro ⟨rfl, rfl⟩
    exact key rfl
  case holdRemove q b' =>
    obtain ⟨x, hx, rfl, releasing⟩ := h
    refine ⟨x, others q x hx ?_, rfl, releasing⟩
    rintro ⟨rfl, rfl⟩
    exact key rfl
  all_goals exact True.intro

/-- A job's key is that of a hold. -/
theorem JobBody.backed.held {c : JobBody} {p : Port} {b : Word} (h : c.backed v) (key : c.holdKey? = some (p, b)) :
    ∃ x ∈ v[p], x.badge = b ∧ ((∃ a, c = .holdAdd a ∧ a.port = p ∧ a.badge = b) ∨ x.releasing = true) := by
  cases c <;> simp only [JobBody.holdKey?, Option.some.injEq, Prod.mk.injEq, reduceCtorEq] at key
  case holdAdd a =>
    obtain ⟨rfl, rfl⟩ := key
    exact ⟨_, h, rfl, .inl ⟨a, rfl, rfl, rfl⟩⟩
  case holdRemove q b' =>
    obtain ⟨rfl, rfl⟩ := key
    obtain ⟨x, hx, badge, releasing⟩ := h
    exact ⟨x, hx, badge, .inr releasing⟩

/-- After the job at the front the others have other keys. -/
theorem HoldsKept.otherKeys {c d : JobBody} (h : HoldsKept v l (c :: jobs)) (hd : d ∈ jobs) {k : Port × Word}
    (key : c.holdKey? = some k) : d.holdKey? ≠ some k := by
  intro e
  have keys := h.keys
  rw [List.filterMap_cons_some key] at keys
  exact (List.nodup_cons.mp keys).1 (List.mem_filterMap.mpr ⟨d, hd, e⟩)

/-- R132: the stored list fits as long as it names each hold once. -/
theorem HoldsKept.fit (h : HoldsKept v l jobs) (once : (l.map fun h => (h.port, h.badge)).Nodup) : holdsFit l := by
  refine ⟨fun p => ?_, once⟩
  have nodup : ((l.filter (·.port == p)).map (·.badge)).Nodup := by
    refine List.Nodup.map_on (fun x hx y hy e => ?_) (once.of_map.filter _)
    obtain ⟨hx, px⟩ := List.mem_filter.mp hx
    obtain ⟨hy, py⟩ := List.mem_filter.mp hy
    exact List.inj_on_of_nodup_map once hx hy (by rw [beq_iff_eq.mp px, beq_iff_eq.mp py, e])
  have sub : (l.filter (·.port == p)).map (·.badge) ⊆ v[p].map (·.badge) := by
    intro b hb
    obtain ⟨a, ha, rfl⟩ := List.mem_map.mp hb
    obtain ⟨ha, pa⟩ := List.mem_filter.mp ha
    obtain ⟨x, hx, -, stored⟩ := (h.recorded a).mp ha
    obtain rfl := beq_iff_eq.mp pa
    exact List.mem_map.mpr ⟨x, hx, congrArg StoredHold.badge stored⟩
  have le := (List.subperm_of_subset nodup sub).length_le
  rw [List.length_map, List.length_map] at le
  exact le.trans (h.room p)

/-! ### A hold placed (R134) -/

theorem HoldsKept.placed (h : HoldsKept v l jobs) {p : Port} {b : Word} (n : Byte) (at_ : Stamp) (place : v[p].length < Config.holdSize)
    (free : ∀ x ∈ v[p], x.badge ≠ b) :
    HoldsKept (upd v p (· ++ [⟨b, n, at_, false, false⟩])) l (jobs ++ [.holdAdd ⟨p, b, n, at_⟩]) where
  room q := by
    rw [upd_get]
    split
    · next e => subst e; simpa using place
    · exact h.room q
  badges q := by
    rw [upd_get]
    split
    · next e =>
      subst e
      rw [List.map_append]
      exact (h.badges p).append (List.nodup_singleton _) (by simpa [List.Disjoint] using free)
    · exact h.badges q
  recorded a := by
    rw [h.recorded a, upd_get]
    split
    · simp [List.mem_append, or_and_right, exists_or]
    · rfl
  backed c hc := by
    rcases List.mem_append.mp hc with hc | hc
    · refine (h.backed c hc).kept (p := p) (b := b) (fun key => ?_) fun q x hx _ => ?_
      · obtain ⟨x, hx, badge, -⟩ := (h.backed c hc).held key
        exact free x hx badge
      · rw [upd_get]
        split
        · exact List.mem_append_left _ hx
        · exact hx
    · rw [List.mem_singleton.mp hc, JobBody.backed, upd_self]
      exact List.mem_append_right _ (List.mem_singleton_self _)
  keys := by
    rw [List.filterMap_append]
    refine h.keys.append (List.nodup_singleton (p, b)) fun k hk new => ?_
    obtain ⟨c, hc, key⟩ := List.mem_filterMap.mp hk
    obtain rfl := List.mem_singleton.mp new
    obtain ⟨x, hx, badge, -⟩ := (h.backed c hc).held key
    exact free x hx badge

/-! ### A release begun (R138) -/

/-- A change that leaves what is stored of a hold leaves the list of the recorded ones. -/
theorem recorded_modHolds {p : Port} {b : Word} {f : Hold → Hold} (same : ∀ x, (f x).recorded = x.recorded ∧ ∀ q, (f x).stored q = x.stored q)
    (a : StoredHold) : (∃ x ∈ v[a.port], x.recorded = true ∧ x.stored a.port = a) ↔
      ∃ x ∈ (modHolds v p b f)[a.port], x.recorded = true ∧ x.stored a.port = a := by
  have each (y : Hold) : (if p = a.port ∧ y.badge = b then f y else y).recorded = y.recorded ∧
      (if p = a.port ∧ y.badge = b then f y else y).stored a.port = y.stored a.port := by
    split
    · exact ⟨(same y).1, (same y).2 _⟩
    · exact ⟨rfl, rfl⟩
  constructor
  · rintro ⟨y, hy, recorded, stored⟩
    exact ⟨_, mem_modHolds.mpr ⟨y, hy, rfl⟩, (each y).1.trans recorded, (each y).2.trans stored⟩
  · rintro ⟨x, hx, recorded, stored⟩
    obtain ⟨y, hy, rfl⟩ := mem_modHolds.mp hx
    exact ⟨y, hy, (each y).1 ▸ recorded, (each y).2 ▸ stored⟩

theorem HoldsKept.released (h : HoldsKept v l jobs) {p : Port} {x : Hold} (hx : x ∈ v[p]) (settled : x.releasing = false)
    (idle : ∀ a, .holdAdd a ∈ jobs → ¬(a.port = p ∧ a.badge = x.badge)) :
    HoldsKept (modHolds v p x.badge (Hold.marked true)) l (jobs ++ [.holdRemove p x.badge]) := by
  have other (c : JobBody) (hc : c ∈ jobs) : c.holdKey? ≠ some (p, x.badge) := fun key => by
    obtain ⟨y, hy, badge, ⟨a, rfl, same⟩ | releasing⟩ := (h.backed c hc).held key
    · exact idle a hc same
    · rw [h.unique hy hx badge, settled] at releasing
      cases releasing
  refine ⟨fun q => (modHolds_length q).trans_le (h.room q), fun q => h.modBadges q fun _ => rfl, fun a => ?_, fun c hc => ?_, ?_⟩
  · refine (h.recorded a).trans ?_
    exact recorded_modHolds (f := Hold.marked _) (fun _ => ⟨rfl, fun _ => rfl⟩) a
  · rcases List.mem_append.mp hc with hc | hc
    · exact (h.backed c hc).kept (other c hc) fun q y hy => mem_modHolds_other hy
    · rw [List.mem_singleton.mp hc]
      exact ⟨_, mem_modHolds_same hx rfl, rfl, rfl⟩
  · rw [List.filterMap_append]
    refine h.keys.append (List.nodup_singleton (p, x.badge)) fun k hk new => ?_
    obtain ⟨c, hc, key⟩ := List.mem_filterMap.mp hk
    exact other c hc (List.mem_singleton.mp new ▸ key)

/-! ### The end of a hold job (R132, R140) -/

/-- R132: a hold recorded, in memory and in the store. -/
theorem HoldsKept.added {a : StoredHold} (h : HoldsKept v l (.holdAdd a :: jobs)) :
    HoldsKept (modHolds v a.port a.badge fun x => { x with recorded := true }) (l ++ [a]) jobs := by
  have mine : (⟨a.badge, a.session, a.placed, false, false⟩ : Hold) ∈ v[a.port] := h.backed (.holdAdd a) List.mem_cons_self
  refine ⟨fun q => (modHolds_length q).trans_le (h.room q), fun q => h.modBadges q fun _ => rfl, fun c => ?_, fun c hc => ?_, ?_⟩
  · rw [List.mem_append, List.mem_singleton, h.recorded c]
    constructor
    · rintro (⟨x, hx, recorded, stored⟩ | rfl)
      · refine ⟨_, mem_modHolds.mpr ⟨x, hx, rfl⟩, ?_, ?_⟩ <;> split
        · rfl
        · exact recorded
        · exact stored
        · exact stored
      · exact ⟨_, mem_modHolds_same mine rfl, rfl, rfl⟩
    · rintro ⟨x, hx, recorded, stored⟩
      obtain ⟨y, hy, rfl⟩ := mem_modHolds.mp hx
      split at stored
      · next same =>
        obtain ⟨port, badge⟩ := same
        obtain ⟨q, badge', session', placed'⟩ := c
        subst port
        rw [h.unique hy mine badge] at stored
        exact .inr stored.symm
      · next other =>
        rw [if_neg other] at recorded
        exact .inl ⟨y, hy, recorded, stored⟩
  · exact (h.backed c (List.mem_cons_of_mem _ hc)).kept (h.otherKeys hc rfl) fun q y hy => mem_modHolds_other hy
  · exact (h.fewerJobs (List.sublist_cons_self _ _).subperm).keys

/-- R132: a hold job adds a hold that is not in the store. -/
theorem HoldsKept.added_once {a : StoredHold} (h : HoldsKept v l (.holdAdd a :: jobs))
    (once : (l.map fun h => (h.port, h.badge)).Nodup) : ((l ++ [a]).map fun h => (h.port, h.badge)).Nodup := by
  have mine : (⟨a.badge, a.session, a.placed, false, false⟩ : Hold) ∈ v[a.port] := h.backed (.holdAdd a) List.mem_cons_self
  rw [List.map_append]
  refine once.append (List.nodup_singleton _) fun k hk new => ?_
  obtain ⟨c, hc, rfl⟩ := List.mem_map.mp hk
  obtain ⟨port, badge⟩ := Prod.mk.inj (List.mem_singleton.mp new)
  obtain ⟨x, hx, recorded, stored⟩ := (h.recorded c).mp hc
  have same : x.badge = a.badge := (congrArg StoredHold.badge stored).trans badge
  have hx : x ∈ v[a.port] := congrArg (fun q : Port => v[q]) port ▸ hx
  rw [h.unique hx mine same] at recorded
  cases recorded

/-- R140: a hold removed, from memory and from the store. -/
theorem HoldsKept.removed {p : Port} {b : Word} (h : HoldsKept v l (.holdRemove p b :: jobs)) :
    HoldsKept (upd v p fun l => l.filter (·.badge != b)) (l.filter fun h => !(h.port == p && h.badge == b)) jobs where
  room q := by
    rw [upd_get]
    split
    · exact (List.length_filter_le _ _).trans (h.room q)
    · exact h.room q
  badges q := by
    rw [upd_get]
    split
    · exact (h.badges q).sublist (List.filter_sublist.map _)
    · exact h.badges q
  recorded a := by
    rw [List.mem_filter, h.recorded a, upd_get]
    by_cases port : p = a.port
    · subst port
      rw [if_pos rfl]
      simp only [List.mem_filter, beq_self_eq_true, Bool.true_and, Bool.not_eq_true', beq_eq_false_iff_ne, bne_iff_ne]
      constructor
      · rintro ⟨⟨x, hx, recorded, stored⟩, other⟩
        exact ⟨x, ⟨hx, fun e => other ((congrArg StoredHold.badge stored).symm.trans e)⟩, recorded, stored⟩
      · rintro ⟨x, ⟨hx, other⟩, recorded, stored⟩
        exact ⟨⟨x, hx, recorded, stored⟩, fun e => other ((congrArg StoredHold.badge stored).trans e)⟩
    · have ne : (a.port == p) = false := beq_eq_false_iff_ne.mpr (Ne.symm port)
      rw [if_neg port, ne]
      exact and_iff_left rfl
  backed c hc := (h.backed c (List.mem_cons_of_mem _ hc)).kept (h.otherKeys hc rfl) fun q x hx other => by
    rw [upd_get]
    split
    · next port => exact List.mem_filter.mpr ⟨hx, bne_iff_ne.mpr fun badge => other ⟨port, badge⟩⟩
    · exact hx
  keys := (h.fewerJobs (List.sublist_cons_self _ _).subperm).keys

/-- R140: a removal that failed lets its hold stay. -/
theorem HoldsKept.stays {p : Port} {b : Word} (h : HoldsKept v l (.holdRemove p b :: jobs)) :
    HoldsKept (modHolds v p b (Hold.marked false)) l jobs := by
  refine ⟨fun q => (modHolds_length q).trans_le (h.room q), fun q => h.modBadges q fun _ => rfl, fun a => ?_, fun c hc => ?_, ?_⟩
  · refine (h.recorded a).trans ?_
    exact recorded_modHolds (f := Hold.marked _) (fun _ => ⟨rfl, fun _ => rfl⟩) a
  · exact (h.backed c (List.mem_cons_of_mem _ hc)).kept (h.otherKeys hc rfl) fun q y hy => mem_modHolds_other hy
  · exact (h.fewerJobs (List.sublist_cons_self _ _).subperm).keys

end

/-! ### The operations -/

section
variable {s : Part}

theorem holdsSound_of_kept (h : s.holdsSound) {t : Part} (state : t.psc.state = .off ↔ s.psc.state = .off) (holds : t.nvs.holds = s.nvs.holds)
    (kept : HoldsKept s.sva.holders s.nvs.holds s.nvs.holdBodies → HoldsKept t.sva.holders t.nvs.holds t.nvs.holdBodies) :
    t.holdsSound := by
  rw [holdsSound_iff] at h ⊢
  obtain ⟨fit, sound⟩ := h
  exact ⟨holds ▸ fit, fun on => kept (sound (mt state.mpr on))⟩

theorem holdBodies_queued (n : Nvs) (b : JobBody) (o : List Nat) (hold : (⟨b, o⟩ : Job).holdBody? = some b) :
    ({ n with queue := n.queue ++ [⟨b, o⟩] } : Nvs).holdBodies = n.holdBodies ++ [b] := by
  simp [Nvs.holdBodies, Nvs.jobs, hold]

theorem placeHold_holds (h : s.holdsSound) (n : Nat) (x : Session) (p : Port) (place : s.sva.holders[p].length < Config.holdSize)
    (free : ∀ y ∈ s.sva.holders[p], y.badge ≠ x.badge) : (placeHold n x p s).holdsSound := by
  let held : Part := addHold p ⟨x.badge, x.num, s.mtu.hall, false, false⟩ s
  have touches : Touches [.feeds, .admission] held (if s.sva.holders[p].isEmpty then isolateRobot p (isolatePort p held) else held) := by
    split
    · exact isolated_touches held p
    · exact .refl _ _
  rw [placeHold_eq]
  generalize (if s.sva.holders[p].isEmpty then isolateRobot p (isolatePort p held) else held) = t at *
  have store := touches.store (by decide)
  have holds : t.nvs.holds = s.nvs.holds := congrArg Nvs.holds store
  refine holdsSound_of_kept h (touches.supply (by decide)).2 holds fun kept => ?_
  change HoldsKept t.sva.holders t.nvs.holds ({ t.nvs with queue := t.nvs.queue ++ [⟨_, [n]⟩] } : Nvs).holdBodies
  rw [holdBodies_queued _ _ _ rfl, touches.holders (by decide), store]
  exact kept.placed x.num s.mtu.hall place free

theorem lockoutPort_holds (h : s.holdsSound) (n : Nat) (x : Session) (p : Port) : (lockoutPort n x p s).holdsSound := by
  have stable := holdsSound_stable
  refine check_keeps stable s n _ (fun place => check_keeps stable s n _ (fun free => check_keeps stable s n _
    (fun _ => placeHold_holds h n x p (of_decide_eq_true place) ?_) h) h) h
  simpa [-Fin.getElem_fin] using free

theorem releaseHold_holds (h : s.holdsSound) (n : Nat) (badge : Word) (p : Port) : (releaseHold n badge p s).holdsSound := by
  have stable := holdsSound_stable
  unfold releaseHold
  split
  · exact stable.nil s (reply_touches s n _) h
  · next x found =>
    have mine := List.mem_of_find?_eq_some found
    have named := List.find?_some found
    obtain rfl : x.badge = badge := beq_iff_eq.mp named
    refine check_keeps stable s n _ (fun idle => check_keeps stable s n _ (fun _ => ?_) h) h
    obtain ⟨settled, idle⟩ := Bool.and_eq_true_iff.mp idle
    refine holdsSound_of_kept h Iff.rfl rfl fun kept => ?_
    change HoldsKept _ _ ({ s.nvs with queue := s.nvs.queue ++ [⟨.holdRemove p x.badge, [n]⟩] } : Nvs).holdBodies
    rw [holdBodies_queued _ _ _ rfl]
    refine kept.released mine (by simpa using settled) fun a ha same => ?_
    obtain ⟨j, hj, body⟩ := List.mem_filterMap.mp ha
    have adds : s.nvs.jobs.any (·.addsHold p x.badge) = true := List.any_eq_true.mpr ⟨j, hj, by
      obtain ⟨b, o⟩ := j
      cases b <;> simp_all [Job.holdBody?, Job.addsHold]⟩
    rw [adds] at idle
    cases idle

/-- A hold job in flight stands before the others. -/
theorem holdBodies_inFlight {n : Nvs} {j : Job} {b : JobBody} (flying : n.inFlight = some j) (body : j.holdBody? = some b) :
    n.holdBodies = b :: ({ n with inFlight := none } : Nvs).holdBodies := by
  simp [Nvs.holdBodies, Nvs.jobs, flying, body]

theorem on_of_receives (receives : s.hostReceives = true) : s.psc.state ≠ .off := by
  rintro off
  simp [Part.hostReceives, Part.active, off] at receives

/-- R132: the end of a written HOLD-ADD. -/
theorem holdAdded_holds (h : s.holdsSound) {j : Job} {a : StoredHold} (flying : s.nvs.inFlight = some j) (body : j.body = .holdAdd a)
    (on : s.psc.state ≠ .off) : (holdAdded a j.origin { s with nvs := { s.nvs with inFlight := none }.commit j.body }).holdsSound := by
  have stable := holdsSound_stable
  obtain ⟨b, origin⟩ := j
  obtain rfl : b = .holdAdd a := body
  obtain ⟨⟨-, once⟩, kept⟩ := (holdsSound_iff s).mp h
  have kept := kept on
  rw [holdBodies_inFlight (b := .holdAdd a) flying rfl] at kept
  have written : (modHold a.port a.badge (fun x => { x with recorded := true })
      { s with nvs := { s.nvs with inFlight := none }.commit (.holdAdd a) }).holdsSound :=
    (holdsSound_iff _).mpr ⟨kept.added.fit (kept.added_once once), fun _ => kept.added⟩
  unfold holdAdded
  dsimp only
  split
  · refine stable.nil _ (replyAll_touches _ origin .done) (stable.nil _ ?_ written)
    exact { Touches.refl _ _ with }
  · exact written

/-- R140: the end of a written HOLD-REMOVE. -/
theorem holdRemoved_holds (h : s.holdsSound) {j : Job} {k : Port × Word} (flying : s.nvs.inFlight = some j)
    (body : j.body = .holdRemove k.1 k.2) (on : s.psc.state ≠ .off) :
    (holdRemoved k j.origin { s with nvs := { s.nvs with inFlight := none }.commit j.body }).holdsSound := by
  have stable := holdsSound_stable
  obtain ⟨b, origin⟩ := j
  obtain rfl : b = .holdRemove k.1 k.2 := body
  obtain ⟨⟨-, once⟩, kept⟩ := (holdsSound_iff s).mp h
  have kept := kept on
  rw [holdBodies_inFlight (b := .holdRemove k.1 k.2) flying rfl] at kept
  unfold holdRemoved
  refine forEach_keeps Part.holdsSound _ _ (fun x _ t ht => stable.nil t (reply_touches t x.request .aborted) ht) _
    (stable.nil _ (replyAll_touches _ origin .done) ?_)
  exact (holdsSound_iff _).mpr ⟨kept.removed.fit (once.sublist (List.filter_sublist.map _)), fun _ => kept.removed⟩

/-- R140: the end of a HOLD-REMOVE that failed. -/
theorem holdRemoveFailed_holds (h : s.holdsSound) {j : Job} {k : Port × Word} (flying : s.nvs.inFlight = some j)
    (body : j.body = .holdRemove k.1 k.2) :
    (replyFault k j.origin (modHold k.1 k.2 (fun x => { x with releasing := false })
      (raise (.storeFault j.body) { s with nvs.inFlight := none }))).holdsSound := by
  refine holdsSound_stable.nil _ (replyAll_touches _ j.origin .storeFault) ?_
  have touches := raise_touches { s with nvs.inFlight := none } (.storeFault j.body)
  generalize raise (.storeFault j.body) { s with nvs.inFlight := none } = t at *
  have store : t.nvs = { s.nvs with inFlight := none } := touches.store (by decide)
  have holds : t.nvs.holds = s.nvs.holds := by rw [store]
  refine holdsSound_of_kept h (touches.supply (by decide)).2 holds fun kept => ?_
  rw [holdBodies_inFlight (b := .holdRemove k.1 k.2) flying (by simp [Job.holdBody?, body])] at kept
  change HoldsKept (modHolds t.sva.holders k.1 k.2 (Hold.marked false)) t.nvs.holds t.nvs.holdBodies
  rw [store, touches.holders (by decide)]
  exact kept.stays

/-- The end of a HOLD-ADD that failed: its hold stays, not recorded. -/
theorem holdAddFailed_holds (h : s.holdsSound) {j : Job} {a : StoredHold} (flying : s.nvs.inFlight = some j) :
    (replyFault a j.origin (dropLockouts j.origin (raise (.storeFault j.body) { s with nvs.inFlight := none }))).holdsSound := by
  have stable := holdsSound_stable
  have ended : ({ s with nvs.inFlight := none } : Part).holdsSound := by
    refine holdsSound_of_kept h Iff.rfl rfl fun kept => kept.fewerJobs (List.Sublist.subperm (List.Sublist.filterMap _ ?_))
    simp [Nvs.jobs, flying]
  refine stable.nil _ (replyAll_touches _ j.origin .storeFault)
    (stable.nil (raise (.storeFault j.body) { s with nvs.inFlight := none }) ?_ (stable.nil _ (raise_touches _ _) ended))
  exact { Touches.refl _ _ with }

/-- R131, R195: a write in flight when the supply is lost is in the store or is not. -/
theorem commit_holdsFit (h : s.holdsSound) (on : s.psc.state ≠ .off) {j : Job} (flying : s.nvs.inFlight = some j) :
    holdsFit (s.nvs.commit j.body).holds := by
  obtain ⟨⟨room, once⟩, kept⟩ := (holdsSound_iff s).mp h
  have kept := kept on
  obtain ⟨b, origin⟩ := j
  cases b
  case holdAdd a =>
    rw [holdBodies_inFlight (b := .holdAdd a) flying rfl] at kept
    exact kept.added.fit (kept.added_once once)
  case holdRemove p b =>
    rw [holdBodies_inFlight (b := .holdRemove p b) flying rfl] at kept
    exact kept.removed.fit (once.sublist (List.filter_sublist.map _))
  all_goals
    rw [commit_holds _ (fun _ => by simp) (fun _ _ => by simp)]
    exact ⟨room, once⟩

theorem losePower_holds (h : s.holdsSound) (written : Bool) : (losePower written s).holdsSound := by
  by_cases off : s.psc.state = .off
  · simp only [losePower, off, if_true]
    exact h
  · rw [losePower, if_neg off]
    refine (holdsSound_iff _).mpr ⟨?_, fun on => absurd rfl on⟩
    change holdsFit (match s.nvs.inFlight with
      | none => s.nvs
      | some j => if written then s.nvs.commit j.body else s.nvs).holds
    have fit := ((holdsSound_iff s).mp h).1
    split
    · exact fit
    · next j flying =>
      split
      · exact commit_holdsFit h off flying
      · exact fit

/-- R145: at power-on the holds are those of the store. -/
theorem boot_holds (fit : holdsFit s.nvs.holds) (cause : RestartCause) (strap : Bool) : (boot cause strap s).holdsSound := by
  obtain ⟨room, once⟩ := fit
  have loaded (p : Port) : (boot cause strap s).sva.holders[p] = (s.nvs.holds.filter (·.port == p)).map StoredHold.loaded := by
    simp [boot, bootSva]
  refine (holdsSound_iff _).mpr ⟨⟨room, once⟩, fun _ => ⟨fun p => ?_, fun p => ?_, fun a => ?_, nofun, List.nodup_nil⟩⟩
  · rw [loaded, List.length_map]
    exact room p
  · rw [loaded, List.map_map]
    refine List.Nodup.map_on (fun x hx y hy e => ?_) (once.of_map.filter _)
    obtain ⟨hx, px⟩ := List.mem_filter.mp hx
    obtain ⟨hy, py⟩ := List.mem_filter.mp hy
    exact List.inj_on_of_nodup_map once hx hy (Prod.ext ((beq_iff_eq.mp px).trans (beq_iff_eq.mp py).symm) e)
  · rw [loaded]
    change a ∈ s.nvs.holds ↔ _
    simp only [List.mem_map, List.mem_filter, beq_iff_eq]
    constructor
    · intro ha
      exact ⟨_, ⟨a, ⟨ha, rfl⟩, rfl⟩, rfl, rfl⟩
    · rintro ⟨-, ⟨c, ⟨hc, port⟩, rfl⟩, -, stored⟩
      have same : c = a := by rw [← stored, ← port]; rfl
      exact same ▸ hc

end

/-! ### The statement -/

theorem exec_holds {c : Instr} {s : State} {t : Part} (h : s.part.holdsSound) (gives : Gives c s t)
    (touches : Touches (.names :: viewsOf c) s.part t) : t.holdsSound := by
  have stable := holdsSound_stable
  cases c
  case lockout tag d =>
    obtain rfl := gives_act gives
    exact takeRequest_keeps stable _ _ _ _ (fun n t _ _ ht => withSession_keeps stable t n _ _ (fun x u hu =>
      orBadValue_keeps stable u n (fun p _ => lockoutPort_holds hu n x p) hu) ht) h
  case release tag d =>
    obtain rfl := gives_act gives
    exact takeRequest_keeps stable _ _ _ _ (fun n t _ _ ht => withSession_keeps stable t n _ _ (fun x u hu =>
      orBadValue_keeps stable u n (fun p _ => releaseHold_holds hu n x.badge p) hu) ht) h
  case removeHold tag d =>
    obtain rfl := gives_act gives
    exact takeRequest_keeps stable _ _ _ _ (fun n t _ _ ht => withSession_keeps stable t n _ _ (fun x u hu =>
      orBadValue_keeps stable u n (fun p _ => releaseHold_holds hu n _ p) hu) ht) h
  case holdAddJobEnd =>
    obtain rfl := gives_act gives
    refine endJob_keeps _ (fun j a flying picked receives => ?_) (fun j a flying _ _ => holdAddFailed_holds h flying) h
    refine holdAdded_holds h flying ?_ (on_of_receives receives)
    obtain ⟨b, origin⟩ := j
    cases b <;> simp_all [JobBody.holdAdd?]
  case holdRemoveJobEnd =>
    obtain rfl := gives_act gives
    have body {j : Job} {k : Port × Word} (picked : j.body.holdRemove? = some k) : j.body = .holdRemove k.1 k.2 := by
      obtain ⟨b, origin⟩ := j
      cases b <;> simp_all [JobBody.holdRemove?]
      exact ⟨congrArg Prod.fst picked, congrArg Prod.snd picked⟩
    exact endJob_keeps _ (fun j k flying picked receives => holdRemoved_holds h flying (body picked) (on_of_receives receives))
      (fun j k flying picked _ => holdRemoveFailed_holds h flying (body picked)) h
  case supplyLowTimerExpiry =>
    obtain rfl := gives_act gives
    have touches := saveUnits_touches { s.part with
      psc.state := .save, psc.supplyLowTimer := none, psc.saveHold := none, psc.restart := none, psc.owed := Owed.none }
    refine ite_keeps (P := Part.holdsSound) s.part (fun low => ?_) h
    have on : s.part.psc.state ≠ .off := on_of_receives (by
      rw [Part.hostReceives, (Bool.and_eq_true_iff.mp low).1]
      rfl)
    exact stable.of _ touches (by decide) (holdsSound_of_kept h (iff_of_false nofun on) rfl fun kept => kept)
  case saveHoldExpiry | powerOn =>
    obtain rfl := gives_act gives
    exact ite_keeps (P := Part.holdsSound) s.part (fun _ => boot_holds ((holdsSound_iff _).mp h).1 _ _) h
  case powerLoss written =>
    obtain rfl := gives_act gives
    exact losePower_holds h written
  all_goals exact stable.of _ touches (of_decide_eq_true rfl) h

/-- Settles O11: a LOCKOUT, a release and the ends of the hold jobs keep holds, stored list and hold jobs together (`HoldsKept`), and so
does power-on, which loads the list; the loss of supply leaves the list with the write in flight or without it. -/
theorem stepKeepsHoldsStored : Obligations.StepKeepsHoldsStored := by
  unfold Obligations.StepKeepsHoldsStored
  intro s t sound stepped
  exact step_keeps (P := Part.holdsSound) (fun c s t h gives touches => exec_holds h gives touches) sound stepped

end Sys2Proof.Machine
end

section
/-! Power-on and reset: the part begins from its store alone. -/

namespace Sys2Proof.Machine

/-! ### Power-on (R194) -/

section
variable (cause : RestartCause) (strap : Bool) (s : Part)

theorem boot_ports (p : Port) : (boot cause strap s).ports[p] = bootPort s.nvs p s.ports[p].sent := by
  simp [boot]

theorem boot_feeds (f : Feed) : (boot cause strap s).fco.feeds[f] = ⟨.closed, s.nvs.feeds[f], [], none⟩ := by
  simp [boot, bootFco]

theorem boot_holders (p : Port) :
    (boot cause strap s).sva.holders[p] = (s.nvs.holds.filter (·.port == p)).map StoredHold.loaded := by
  simp [boot, bootSva]

theorem boot_runEnable (p : Port) : (boot cause strap s).runEnable p = false := by
  have idle : (boot cause strap s).active = false := rfl
  rw [Part.runEnable, idle, Bool.false_and]

/-- R194 and the power-on rules of the blocks: the part begins from its store. -/
theorem boot_startsFrom : (boot cause strap s).startsFrom s.nvs := by
  have trk : (boot cause strap s).trk.startsFrom s.nvs.line := ⟨rfl, rfl, rfl, rfl, rfl, rfl, rfl, rfl, rfl, rfl, rfl, rfl, rfl⟩
  have fco : (boot cause strap s).fco.startsFrom s.nvs.feeds := by
    refine ⟨fun f => ?_, fun p => by simp [boot, bootFco, Fco.atReset]⟩
    rw [boot_feeds]
    exact ⟨rfl, rfl, rfl, rfl⟩
  have ports (p : Port) : (boot cause strap s).ports[p].startsFrom s.nvs p := by
    rw [boot_ports]
    exact ⟨rfl, rfl, rfl, rfl, rfl, rfl, rfl⟩
  have prv : (boot cause strap s).prv.startsFrom s.nvs :=
    ⟨rfl, fun p => ⟨by simp [boot, bootPrv], rfl⟩, rfl, rfl, rfl, rfl, rfl, rfl⟩
  have sva : (boot cause strap s).sva.startsFrom s.nvs :=
    ⟨rfl, rfl, rfl, rfl, fun p => ⟨by simp [boot, bootSva], boot_holders cause strap s p⟩, rfl, rfl⟩
  have mtu : (boot cause strap s).mtu.startsFrom s.nvs := ⟨rfl, rfl, rfl, rfl, rfl, rfl, rfl⟩
  have permits (f : Feed) : (boot cause strap s).permitOutput f = false := by
    have idle : (boot cause strap s).active = false := rfl
    rw [Part.permitOutput, idle, Bool.false_and]
  exact ⟨rfl, trk, fco, fun p => ⟨ports p, boot_runEnable cause strap s p⟩, permits, rfl, prv, sva, mtu, rfl, rfl, rfl, rfl, rfl,
    rfl, rfl⟩

end

/-! ### Reset -/

/-- Settles O2: reset is a power-on, which begins from the store, over the defaults of a fresh one. -/
theorem resetIsPowerOnOfAFreshStore : Obligations.ResetIsPowerOnOfAFreshStore := by
  unfold Obligations.ResetIsPowerOnOfAFreshStore
  exact ⟨rfl, boot_startsFrom .power false State.reset.part, by decide⟩

/-- Settles O3: claims, barring and holds meet their invariants at every power-on; the rest is empty after reset. -/
theorem resetMeetsTheInvariants : Obligations.ResetMeetsTheInvariants := by
  unfold Obligations.ResetMeetsTheInvariants
  have claims : State.reset.part.claimsSound := (claimsSound_iff _).mpr (boot_claims .power false State.reset.part)
  have barring : State.reset.part.barringSound := (barringSound_iff _).mpr (boot_barring .power false State.reset.part)
  have fit : holdsFit State.reset.part.nvs.holds := ⟨fun _ => Nat.zero_le _, List.nodup_nil⟩
  have holds : State.reset.part.holdsSound := boot_holds (s := State.reset.part) fit .power false
  have trk : State.reset.part.trk.sound := by
    unfold Trk.sound
    decide
  have ordered : State.reset.part.trackOrdered :=
    ⟨.nil, nofun, ⟨by decide, fun i hi => absurd hi (Nat.not_lt_zero i)⟩, Nat.zero_le _, by decide, by decide, nofun⟩
  have hlc : State.reset.part.hlc.sound := by
    unfold Hlc.sound
    decide
  have sessions : State.reset.part.sva.sessionsSound := ⟨Nat.zero_le _, .nil, .nil, nofun, True.intro⟩
  have queues : State.reset.part.queuesFit := by
    unfold Part.queuesFit
    decide
  exact ⟨trk, ordered, hlc, sessions, queues, claims, barring, holds⟩

end Sys2Proof.Machine
end

section
/-! The host link: the checks of a good frame, the receiver, the mask level and the transmitter. -/

namespace Sys2Proof.Machine

/-- A command gives what its effect makes of the part. -/
theorem gives_of_act {c : Instr} {s : State} {f : Part → Part} {t : Part} (hc : exec c s = act f s) (h : f s.part = t) : Gives c s t := by
  rw [Gives, hc, act, h]

/-! ### The checks of a request (R183, R184) -/

section
variable {s : Part} {k : ReqKind} {tag : Byte} {d : List Byte}

theorem immediate_refused (kind : Byte) (code : Code) (ready : s.hlc.receiver = .ready) :
    immediate kind tag code s = s.refused kind tag code := by
  rw [immediate_eq, Part.refused, Hlc.refused, ← ready]

/-- A good frame of a request kind goes to the checks. -/
theorem takeRequest_checks (receives : s.hostReceives = true) (ready : s.hlc.receiver = .ready) (fits : d.length ≤ 248)
    (serve : Nat → Part → Part) : takeRequest k tag d serve s = checkRequest k tag d serve s :=
  takeFrame_good receives ready k.byte tag fits _

theorem checkRequest_badLength (serve : Nat → Part → Part) (ready : s.hlc.receiver = .ready) (short : lengthFits k d = false) :
    checkRequest k tag d serve s = s.refused k.byte tag .badLength := by
  rw [checkRequest, short, ← immediate_refused _ _ ready]
  rfl

theorem checkRequest_saving (serve : Nat → Part → Part) (ready : s.hlc.receiver = .ready) (fits : lengthFits k d = true)
    (save : s.psc.state = .save) : checkRequest k tag d serve s = s.refused k.byte tag .saving := by
  rw [checkRequest, fits, ← immediate_refused _ _ ready]
  simp [save]

theorem checkRequest_quiet (serve : Nat → Part → Part) (ready : s.hlc.receiver = .ready) (fits : lengthFits k d = true)
    (quiet : s.psc.state = .quiet) (unserved : k.servedInQuiet = false) :
    checkRequest k tag d serve s = s.refused k.byte tag .quiet := by
  rw [checkRequest, fits, ← immediate_refused _ _ ready]
  simp [quiet, unserved]

theorem checkRequest_busy (serve : Nat → Part → Part) (ready : s.hlc.receiver = .ready) (fits : lengthFits k d = true)
    (served : s.psc.state = .run ∨ s.psc.state = .quiet ∧ k.servedInQuiet = true) (full : 8 ≤ s.hlc.table.length) :
    checkRequest k tag d serve s = s.refused k.byte tag .busy := by
  have full : Config.tableSize ≤ s.hlc.table.length := full
  rw [checkRequest, fits, ← immediate_refused _ _ ready]
  rcases served with run | ⟨quiet, inQuiet⟩
  · simp [run, full]
  · simp [quiet, inQuiet, full]

end

theorem servedInQuiet_iff (k : ReqKind) : k.servedInQuiet = true ↔ k ∈ [.status, .identify, .timeRead, .meterRead, .wake] := by
  cases k <;> decide

/-! ### The sizes of the payloads (11.2) -/

theorem unitSize_iff (area size : Nat) : unitSize area = some size ↔
    (area, size) ∈ [(0, 50), (1, 5), (2, 11), (3, 12), (4, 7), (5, 16), (6, 7)] := by
  unfold unitSize
  split <;> simp_all [eq_comm]

theorem lengthFits_settingWrite (d : List Byte) : lengthFits .settingWrite d = true ↔
    3 ≤ d.length ∧ ∀ area size : Nat, (byteAt d 1).toNat = area →
      (area, size) ∈ [(0, 50), (1, 5), (2, 11), (3, 12), (4, 7), (5, 16), (6, 7)] → d.length = 3 + size := by
  simp only [← unitSize_iff, lengthFits, Bool.and_eq_true, decide_eq_true_eq]
  refine and_congr Iff.rfl ?_
  change (match unitSize (byteAt d 1).toNat with
    | some size => d.length == 3 + size
    | none => true) = true ↔ _
  rw [forall_comm]
  simp only [forall_eq']
  cases unitSize (byteAt d 1).toNat with
  | none => simp
  | some size => simp

theorem lengthFits_iff (k : ReqKind) (d : List Byte) :
    let n := d.length
    (k ∈ [.identify, .status, .restart, .quiet, .wake, .lineStart, .lineStop, .sessionRead, .timeRead] →
      (lengthFits k d = true ↔ n = 0)) ∧
    (k ∈ [.mask, .feedOpen, .feedClose, .feedRead, .portRead, .portPark, .portWake, .holdList, .sessionClose, .locksFreeze] →
      (lengthFits k d = true ↔ n = 1)) ∧
    (k ∈ [.lockout, .release, .signOff, .unbar, .meterRead, .boundarySet] → (lengthFits k d = true ↔ n = 2)) ∧
    (k ∈ [.trackRead, .exitRead, .settingRead, .sectionLock] → (lengthFits k d = true ↔ n = 3)) ∧
    (k ∈ [.removeHold, .timeSet, .meterAdd] → (lengthFits k d = true ↔ n = 6)) := by
  cases k <;> simp [lengthFits]

/-! ### The reply of an owner (R185) -/

section
variable {h : Hlc} {e : Entry} (distinct : (h.table.map (·.handle)).Nodup) (entered : e ∈ h.table)
include distinct entered

/-- The handle of an entry is its alone. -/
theorem handle_unique {x : Entry} (hx : x ∈ h.table) (same : x.handle = e.handle) : x = e :=
  List.inj_on_of_nodup_map distinct hx entered same

theorem reply_replied (code : Code) (content : List Byte) (replied : e.condition = .replied) :
    h.reply e.handle code content = h := by
  have none : h.unreplied e.handle = none := by
    refine List.find?_eq_none.mpr fun x hx open_ => ?_
    simp only [Bool.and_eq_true, beq_iff_eq, bne_iff_ne] at open_
    exact open_.2 (handle_unique distinct entered hx open_.1 ▸ replied)
  rw [Hlc.reply, none]

theorem reply_unreplied (code : Code) (content : List Byte) (waits : e.condition ≠ .replied) :
    h.reply e.handle code content = { h with
      table := h.table.map fun x => if x.handle = e.handle then { x with condition := .replied } else x
      replies := h.replies ++ [⟨some e.handle, e.kind.byte, e.tag, code, if code = .done then content else []⟩] } := by
  have found : h.unreplied e.handle = some e := by
    cases found : h.unreplied e.handle with
    | none => exact absurd (List.find?_eq_none.mp found e entered) (by simp [waits])
    | some x =>
      have open_ := List.find?_some found
      simp only [Bool.and_eq_true, beq_iff_eq] at open_
      rw [handle_unique distinct entered (List.mem_of_find?_eq_some found) open_.1]
  rw [Hlc.reply, found]
  simp only [beq_iff_eq]

end

/-- R184: a request that is served is entered behind the entries that stand there, and none leaves. -/
theorem served_names {c : Instr} {k : ReqKind} {tag : Byte} {d : List Byte} {s : State} (request : requestOf c = some (k, tag, d))
    (fits : lengthFits k d = true) (short : d.length ≤ 248) (serves : s.part.serves k) : ∃ t, Gives c s t ∧
      t.hlc.table.map Entry.name = s.part.hlc.table.map Entry.name ++ [(s.part.hlc.nextHandle, k, tag, d)] := by
  obtain ⟨serve, taken, touches⟩ := exec_request c request
  refine ⟨_, gives_of_serve (taken s) serves fits short rfl, ?_⟩
  have active : (s.part.entered k tag d).active = true := by
    obtain ⟨run | ⟨quiet, -⟩, -⟩ := serves
    · simp [Part.active, Part.entered, run]
    · simp [Part.active, Part.entered, quiet]
  obtain ⟨-, -, -, free, -⟩ := serves
  have untouched : .names ∉ viewsOf c := by
    cases c
    case transmitterFrameEnd | saveHoldExpiry | powerOn => cases request
    all_goals exact of_decide_eq_true rfl
  rw [(touches s.part.hlc.nextHandle _ active free).names untouched]
  simp [Part.entered, Hlc.entered, Entry.name]

/-- Settles O12: the checks by `checkRequest`, for every request alike (`exec_request`); the entry by what no owner's rule touches. -/
theorem goodFramesAreCheckedInOrder : Obligations.GoodFramesAreCheckedInOrder := by
  unfold Obligations.GoodFramesAreCheckedInOrder
  refine ⟨⟨fun k d => ?sizes, ?unknown, ?checks⟩, ?entry, ?reply⟩
  case sizes =>
    obtain ⟨none, one, two, three, six⟩ := lengthFits_iff k d
    refine ⟨none, one, two, three, six, ?_, ?_⟩
    · rintro rfl
      exact decide_eq_true_iff
    · rintro rfl
      exact lengthFits_settingWrite d
  case unknown =>
    intro kind tag d s short receives ready unknown
    have outside : isRequestKind kind = false := decide_eq_false unknown
    have taken : unknownFrame kind tag d s.part = s.part.refused kind tag .unknownKind := by
      rw [unknownFrame, outside, ← immediate_refused _ _ ready]
      exact takeFrame_good receives ready kind tag short _
    exact gives_of_act rfl taken
  case checks =>
    intro c k tag d s request short receives ready
    obtain ⟨serve, taken, -⟩ := exec_request c request
    have checked {t : Part} (h : checkRequest k tag d serve s.part = t) : Gives c s t := by
      rw [Gives, taken, act, takeRequest_checks receives ready short, h]
    refine ⟨fun bad => checked (checkRequest_badLength serve ready bad), fun fits save => checked (checkRequest_saving serve ready fits save),
      fun fits quiet unserved => checked (checkRequest_quiet serve ready fits quiet ?_),
      fun fits served full => checked (checkRequest_busy serve ready fits ?_ full)⟩
    · exact Bool.eq_false_iff.mpr (mt (servedInQuiet_iff k).mp unserved)
    · exact served.imp_right fun ⟨quiet, inQuiet⟩ => ⟨quiet, (servedInQuiet_iff k).mpr inQuiet⟩
  case entry =>
    intro c k tag d s request fits short serves
    exact served_names request fits short serves
  case reply =>
    intro h e code content distinct entered
    exact ⟨reply_replied distinct entered code content, reply_unreplied distinct entered code content⟩

end Sys2Proof.Machine
end

section
/-! The host's receiver, character by character. -/

namespace Sys2Proof.Machine

/-! ### Characters in a row (R182) -/

theorem Receiver.run_append (r : Receiver) (l m : List Character) : r.run (l ++ m) = (r.run l).run m := List.foldl_append

theorem Receiver.endsGood_append (r : Receiver) (l m : List Character) :
    r.endsGood (l ++ m) = (r.endsGood l || (r.run l).endsGood m) := by
  induction l generalizing r with
  | nil => rfl
  | cons c l ih => simp only [List.cons_append, Receiver.endsGood, Receiver.run_cons, ih, Bool.or_assoc]

theorem Receiver.endsGood_waiting (l : List Character) : Receiver.gapWanted.endsGood l = false := by
  induction l with
  | nil => rfl
  | cons c l ih => simp [Receiver.endsGood, ih]

/-- Characters bring the receiver from one state to another with no good frame among them. -/
def Receiver.Goes (r : Receiver) (l : List Character) (q : Receiver) : Prop := r.endsGood l = false ∧ r.run l = q

theorem Receiver.Goes.trans {r q t : Receiver} {l m : List Character} (h : r.Goes l q) (k : q.Goes m t) : r.Goes (l ++ m) t := by
  obtain ⟨quiet, rfl⟩ := h
  obtain ⟨still, rfl⟩ := k
  exact ⟨by rw [Receiver.endsGood_append, quiet, still]; rfl, Receiver.run_append r l m⟩

theorem Receiver.Goes.nil (r : Receiver) : r.Goes [] r := ⟨rfl, rfl⟩

/-- One character that ends no frame. -/
theorem Receiver.Goes.one {r q : Receiver} {c : Character} (h : r.next c = q) (open_ : q ≠ .ready) : r.Goes [c] q := by
  subst h
  exact ⟨by simp [Receiver.endsGood, open_], rfl⟩

/-- After a fault nothing is taken until an idle gap. -/
theorem Receiver.Goes.fault {r : Receiver} {c : Character} (h : r.next c = .gapWanted) (rest : List Character) :
    r.Goes (c :: rest) .gapWanted :=
  (Receiver.Goes.one h (by simp)).trans ⟨Receiver.endsGood_waiting rest, Receiver.run_waiting rest⟩

/-! ### Inside a frame (R181, R199) -/

/-- The bytes taken do not end the frame they announce. -/
def Receiver.unended (taken : List Byte) : Prop :=
  taken.length < 2 ∨ fromLe (taken.take 2) ≤ 248 ∧ taken.length < fromLe (taken.take 2) + 6

theorem Receiver.inFrame_unended {taken : List Byte} (h : Receiver.unended taken) : Receiver.inFrame taken = .insideFrame taken := by
  unfold Receiver.inFrame
  dsimp only
  split
  · rfl
  · next two =>
    obtain ⟨fits, short⟩ := h.resolve_left two
    have fits : ¬ Config.payloadSize < fromLe (taken.take 2) := Nat.not_lt.mpr fits
    rw [if_neg fits, if_pos short]

theorem Receiver.unended.before {taken : List Byte} {b : Byte} (h : Receiver.unended (taken ++ [b])) : Receiver.unended taken := by
  by_cases two : taken.length < 2
  · exact .inl two
  · have same : (taken ++ [b]).take 2 = taken.take 2 := List.take_append_of_le_length (Nat.not_lt.mp two)
    unfold Receiver.unended at h
    rw [same, List.length_append, List.length_singleton] at h
    exact .inr (by omega)

/-- The bytes of a frame that has not ended leave the receiver inside it. -/
theorem Receiver.goes_inside {taken : List Byte} (h : Receiver.unended taken) :
    (Receiver.insideFrame []).Goes (taken.map some) (.insideFrame taken) := by
  induction taken using List.reverseRecOn with
  | nil => exact .nil _
  | append_singleton taken b ih =>
    rw [List.map_append]
    exact (ih h.before).trans (.one (Receiver.inFrame_unended h) (by simp))

theorem Receiver.next_tooLong {lo hi : Byte} (h : 248 < lo.toNat + 256 * hi.toNat) :
    (Receiver.insideFrame [lo]).next (some hi) = .gapWanted := by
  have long : Config.payloadSize < fromLe [lo, hi] := by simpa [fromLe, Config.payloadSize] using h
  simp [Receiver.next, Receiver.inFrame, long]

/-- The last byte of a frame: it ends good exactly when its CRC is the one computed. -/
theorem Receiver.next_last (kind tag lo hi : Byte) {payload : List Byte} (fits : payload.length ≤ 248) :
    (Receiver.insideFrame (le 2 payload.length ++ [kind, tag] ++ payload ++ [lo])).next (some hi) =
      if (hi ++ lo : Half) = crc16 (le 2 payload.length ++ [kind, tag] ++ payload) then .ready else .gapWanted := by
  let checked := le 2 payload.length ++ [kind, tag] ++ payload
  have length : checked.length = payload.length + 4 := by simp [checked, le_length]; omega
  have spelled : fromLe ((checked ++ [lo, hi]).take 2) = payload.length := by
    have front : (checked ++ [lo, hi]).take 2 = le 2 payload.length := by
      simp only [checked, List.append_assoc]
      exact List.take_left' (le_length _ _)
    rw [front]
    exact fromLe_le_two (by omega)
  have taken : (checked ++ [lo, hi]).take (payload.length + 4) = checked := List.take_left' length
  have left : (checked ++ [lo, hi]).drop (payload.length + 4) = [lo, hi] := List.drop_left' length
  have received : BitVec.ofNat 16 (fromLe [lo, hi]) = (hi ++ lo : Half) := by
    have value : fromLe [lo, hi] = (hi ++ lo : Half).toNat := (toNat_append_byte hi lo).symm
    rw [value, BitVec.ofNat_toNat, BitVec.setWidth_eq]
  have run := Receiver.run_frame (checked ++ [lo, hi]) (spelled ▸ fits) (by rw [spelled]; simp [length]) [hi] (checked ++ [lo])
    (by simp) (by simp)
  rw [spelled, taken, left, received] at run
  refine run.trans (if_congr ?_ rfl rfl)
  rw [frameGood, beq_iff_eq, eq_comm]

/-! ### The statement -/

section
variable {s : State} {r : Receiver} (receives : s.part.hostReceives = true)
include receives

theorem gives_receiver {l : List Character} (goes : s.part.hlc.receiver.Goes l r) :
    Gives (.hostFrameDiscarded l) s { s.part with hlc := { s.part.hlc with receiver := r } } := by
  obtain ⟨quiet, rfl⟩ := goes
  refine gives_of_act rfl ?_
  rw [discardHostFrame, receives, quiet]
  rfl

omit receives in
/-- Characters among which a good frame ends are no event (log entry 20). -/
theorem gives_endsGood {l : List Character} (good : s.part.hlc.receiver.endsGood l = true) : Gives (.hostFrameDiscarded l) s s.part := by
  refine gives_of_act rfl ?_
  rw [discardHostFrame, good, Bool.not_true, Bool.and_false]
  rfl

end

/-- Settles O13: the receiver by what each character makes of it, inside a frame by the bytes taken (`Receiver.goes_inside`). -/
theorem receiverWaitsForAnIdleGap : Obligations.ReceiverWaitsForAnIdleGap := by
  unfold Obligations.ReceiverWaitsForAnIdleGap
  refine ⟨fun s receives => ⟨?gap, ?waits, ?stray, ?inside⟩, ?deaf, ?request, ?unknown⟩
  case gap =>
    refine gives_of_act rfl ?_
    rw [hostGap, receives]
    rfl
  case waits =>
    intro l waiting
    exact gives_receiver receives (by rw [waiting]; exact ⟨Receiver.endsGood_waiting l, Receiver.run_waiting l⟩)
  case stray =>
    intro c rest ready noSync
    refine gives_receiver receives (ready ▸ Receiver.Goes.fault ?_ rest)
    cases c with
    | none => rfl
    | some b => exact if_neg fun e => noSync (congrArg some e)
  case inside =>
    intro taken before unended start
    have unended : Receiver.unended taken := unended
    have goes : s.part.hlc.receiver.Goes before (.insideFrame taken) := by
      rcases start with ⟨ready, rfl⟩ | ⟨inside, rfl⟩
      · rw [ready]
        exact (Receiver.Goes.one (c := some 0xA5) Receiver.next_sync (by simp)).trans (Receiver.goes_inside unended)
      · rw [inside]
        exact .nil _
    refine ⟨gives_receiver receives goes, fun rest => gives_receiver receives (goes.trans (.fault rfl rest)), ?_, ?_⟩
    · rintro lo hi rest rfl long
      exact gives_receiver receives (goes.trans (.fault (Receiver.next_tooLong long) rest))
    · intro kind tag lo hi payload rest fits
      rintro checked received rfl
      have last := Receiver.next_last kind tag lo hi fits
      refine ⟨fun bad => gives_receiver receives (goes.trans (.fault (last.trans (if_neg bad)) rest)), fun good => gives_endsGood ?_⟩
      have ends : (Receiver.insideFrame (checked ++ [lo])).next (some hi) = .ready := last.trans (if_pos good)
      rw [Receiver.endsGood_append, goes.2, Receiver.endsGood, ends, beq_self_eq_true, Bool.true_or, Bool.or_true]
  case deaf =>
    intro l s deaf
    refine ⟨gives_of_act (f := discardHostFrame l) rfl ?_, gives_of_act (f := hostGap) rfl ?_⟩
    · rw [discardHostFrame, deaf]
      rfl
    · rw [hostGap, deaf]
      rfl
  case request =>
    intro c k tag d s request deaf
    obtain ⟨serve, taken, -⟩ := exec_request c request
    rw [Gives, taken, act, takeRequest_deaf deaf]
  case unknown =>
    intro kind tag d s deaf
    refine gives_of_act rfl ?_
    unfold unknownFrame
    split
    · rfl
    · exact takeFrame_deaf deaf _ _ _ _

end Sys2Proof.Machine
end

section
/-! The mask level and the transmitter. -/

namespace Sys2Proof.Machine

/-! ### MASK (R188) -/

theorem serveMask_eq (level : Byte) (h : Nat) (s : Part) : serveMask [level] h s =
    check h (decide (level.toNat ≤ 7)) .badValue (fun s => reply h .done { s with hlc.mask := level.toNat }) s := rfl

/-- Settles O14: the level by `serveMask_eq`; QUIET and SAVE turn MASK away as any such request. -/
theorem maskSetsTheLevel : Obligations.MaskSetsTheLevel := by
  unfold Obligations.MaskSetsTheLevel
  refine ⟨fun tag level s serves => ⟨fun low => ⟨?accepted, fun n => decide_eq_true_iff⟩, fun high => ?refused⟩,
    fun tag level => onlyInRun_of_takeRequest (fun _ => rfl) rfl rfl (number_fits level)⟩
  case accepted =>
    refine gives_of_serve (serve := serveMask [level]) rfl serves rfl (number_fits level) ?_
    rw [serveMask_eq, decide_eq_true low, check_true]
    exact reply_entered (s := { s.part with hlc.mask := level.toNat }) serves.below .mask tag [level] .done
  case refused =>
    refine gives_of_serve (serve := serveMask [level]) rfl serves rfl (number_fits level) ?_
    rw [serveMask_eq, decide_eq_false (Nat.not_le.mpr high), check_false]
    exact reply_entered serves.below .mask tag [level] .badValue

/-! ### The transmitter (R186, R189, R191) -/

section
variable {s : Part}

/-- R184, R186: HLC after the frame under way has been sent whole. -/
def Hlc.finished (h : Hlc) (f : Sending) : Hlc :=
  { h with
    sending := none
    sent := h.sent ++ [f.bytes]
    table := match f with
      | .reply r => h.table.filter fun e => some e.handle != r.entry
      | .notice _ => h.table }

theorem finishFrame_sending {f : Sending} (sending : s.hlc.sending = some f) : finishFrame s = { s with hlc := s.hlc.finished f } := by
  rw [finishFrame, sending]
  cases f <;> rfl

theorem finishFrame_idle (idle : s.hlc.sending = none) : finishFrame s = s := by
  rw [finishFrame, idle]

theorem transmitterEvent_idle (sends : s.hostSends = true) (idle : s.hlc.sending = none) : transmitterEvent s = chooseFrame s := by
  rw [transmitterEvent, sends, finishFrame_idle idle]
  rfl

theorem noSendable (masked : ∀ n ∈ s.hlc.notices, n.body.priority ≤ s.hlc.mask) : s.hlc.notices.any s.hlc.sendable = false :=
  List.any_eq_false.mpr fun n hn => by simpa [Hlc.sendable] using masked n hn

/-- R186: the replies' turn. -/
theorem chooseFrame_reply (turn : s.hlc.replies ≠ [] ∧ s.hlc.lastNotice = true ∨ ∀ n ∈ s.hlc.notices, n.body.priority ≤ s.hlc.mask) :
    chooseFrame s = beginReply s := by
  rcases turn with ⟨waits, last⟩ | masked
  · rw [chooseFrame, last, List.isEmpty_eq_false_iff.mpr waits, Bool.not_true, Bool.or_self, Bool.and_false]
    rfl
  · rw [chooseFrame, noSendable masked, Bool.false_and]
    rfl

/-- R189: the notices' turn: the oldest sendable notice leaves the queue. -/
theorem chooseFrame_notice {before after : List Notice} {n : Notice} (queue : s.hlc.notices = before ++ n :: after)
    (masked : ∀ m ∈ before, m.body.priority ≤ s.hlc.mask) (sendable : s.hlc.mask < n.body.priority)
    (turn : s.hlc.lastNotice = false ∨ s.hlc.replies = []) : chooseFrame s = gapAfterFree { s with hlc := { s.hlc with
      sending := some (.notice n), notices := before ++ after, lastNotice := true } } := by
  have sends : s.hlc.sendable n = true := decide_eq_true sendable
  have held (m : Notice) (hm : m ∈ before) : ¬ s.hlc.sendable m = true := by simpa [Hlc.sendable] using masked m hm
  have found : s.hlc.notices.find? s.hlc.sendable = some n := by
    rw [queue, List.find?_append, List.find?_eq_none.mpr held, List.find?_cons_of_pos sends]
    rfl
  have left : s.hlc.notices.eraseP s.hlc.sendable = before ++ after := by
    rw [queue, List.eraseP_append_right _ held, List.eraseP_cons_of_pos sends]
  have any : s.hlc.notices.any s.hlc.sendable = true := List.any_eq_true.mpr ⟨n, by simp [queue], sends⟩
  have mine : (s.hlc.replies.isEmpty || !s.hlc.lastNotice) = true := by
    rcases turn with last | empty
    · simp [last]
    · simp [empty]
  rw [chooseFrame, any, mine, beginNotice, found]
  dsimp only
  rw [left]
  rfl

end

/-- Settles O15: what the transmitter chooses, by whose turn it is. -/
theorem transmitterTakesRepliesAndNoticesInTurn : Obligations.TransmitterTakesRepliesAndNoticesInTurn := by
  unfold Obligations.TransmitterTakesRepliesAndNoticesInTurn
  have given {s : State} {t : Part} (sends : s.part.hostSends = true) (idle : s.part.hlc.sending = none)
      (chosen : chooseFrame s.part = t) : Gives .transmitterFrameEnd s t :=
    gives_of_act rfl ((transmitterEvent_idle sends idle).trans chosen)
  refine ⟨⟨?deaf, ?finish, ?nothing, ?reply, ?notice⟩, ?gap⟩
  case deaf =>
    intro s silent
    refine gives_of_act (f := transmitterEvent) rfl ?_
    rw [transmitterEvent, silent]
    rfl
  case finish =>
    intro s f sends sending
    let after : Part := { s.part with hlc := s.part.hlc.finished f }
    have event : transmitterEvent s.part = transmitterEvent after := by
      have idle : transmitterEvent after = chooseFrame after := transmitterEvent_idle (s := after) sends rfl
      rw [idle, transmitterEvent, sends, finishFrame_sending sending]
      rfl
    exact congrArg (fun p => Host.Outcome.next { s with part := p }) event
  case nothing =>
    intro s sends idle none masked
    refine given sends idle ((chooseFrame_reply (.inr masked)).trans ?_)
    rw [beginReply, none]
  case reply =>
    intro s r rest sends idle waits turn
    refine given sends idle ((chooseFrame_reply (turn.imp_left fun last => ⟨by simp [waits], last⟩)).trans ?_)
    rw [beginReply, waits]
  case notice =>
    intro s before after n sends idle queue masked sendable turn
    have chosen := chooseFrame_notice queue masked sendable turn
    refine ⟨_, given sends idle chosen, ?_⟩
    unfold gapAfterFree
    split
    · exact ⟨rfl, rfl, fun _ => rfl⟩
    · next counted => exact ⟨rfl, rfl, fun zero => absurd zero counted⟩
  case gap =>
    intro s before after n sends idle queue masked sendable turn counted
    refine given sends idle ((chooseFrame_notice queue masked sendable turn).trans ?_)
    exact if_neg (Nat.ne_of_gt counted)

end Sys2Proof.Machine
end

section
/-! The layouts of the frames, the notices and the records (11.1, 11.2, 11.5). -/

namespace Sys2Proof.Machine

/-! ### Numbers in bytes -/

/-- The low byte first, the rest after it. -/
theorem le_succ (n v : Nat) : le (n + 1) v = BitVec.ofNat 8 v :: le n (v / 256) := by
  simp only [le, List.range_succ_eq_map, List.map_cons, List.map_map, Nat.pow_zero, Nat.div_one]
  refine congrArg (_ :: ·) (List.map_congr_left fun i _ => ?_)
  simp only [Function.comp_apply, Nat.succ_eq_add_one, Nat.pow_succ', Nat.div_div_eq_div_mul]

theorem le_append {w : Nat} (n : Nat) (hi : BitVec w) (lo : Byte) : le (n + 1) (hi ++ lo).toNat = lo :: le n hi.toNat := by
  have low : BitVec.ofNat 8 (lo.toNat + 256 * hi.toNat) = lo := by
    refine BitVec.eq_of_toNat_eq ?_
    have := lo.isLt
    rw [BitVec.toNat_ofNat]
    omega
  have high : (lo.toNat + 256 * hi.toNat) / 256 = hi.toNat := by
    have := lo.isLt
    omega
  rw [le_succ, toNat_append_byte, low, high]

theorem le_byte (b : Byte) : le 1 b.toNat = [b] := by
  rw [le_succ, BitVec.ofNat_toNat, BitVec.setWidth_eq]
  rfl

/-- The two bytes of a CRC. -/
theorem le_half (x : Half) : le 2 x.toNat = [x.setWidth 8, (x >>> 8).setWidth 8] := by
  have low : BitVec.ofNat 8 x.toNat = x.setWidth 8 := by rw [BitVec.ofNat_toNat]
  have high : BitVec.ofNat 8 (x.toNat / 256) = (x >>> 8).setWidth 8 := by
    rw [← BitVec.ofNat_toNat, BitVec.toNat_ushiftRight, Nat.shiftRight_eq_div_pow]
  rw [le_succ, le_succ, low, high]
  rfl

/-! ### Frames -/

theorem hostFrame_eq (kind tag : Byte) (payload : List Byte) :
    let checked := le 2 payload.length ++ [kind, tag] ++ payload
    hostFrame kind tag payload = [(0xA5 : Byte)] ++ checked ++ [(crc16 checked).setWidth 8, (crc16 checked >>> 8).setWidth 8] := by
  dsimp only
  rw [hostFrame, frame, le_half]
  rfl

theorem Notice.payload_eq (n : Notice) : n.payload =
    [BitVec.ofNat 8 n.body.priority] ++ le 6 n.hall.time.toNat ++ [if n.hall.unset then 1 else 0] ++ le 4 n.pitch.toNat ++
      n.body.subject := by
  simp [Notice.payload, Stamp.bytes, markByte]

/-! ### Records -/

theorem markByte_eq (b : Bool) : markByte b = if b then 1 else 0 := rfl

theorem Record.block_none {r : Record} (none : r.fill = none) (place : Nat) :
    r.block place = le 2 r.container.toNat ++ le 4 r.entry.toNat ++
      [BitVec.ofNat 8 place, 0, 0, 0, 0, 0, if r.crossed then 1 else 0, BitVec.ofNat 8 r.verdicts.length] ++
      r.verdicts.flatMap Verdict.bytes := by
  simp [Record.block, fillByte, fillBytes, none, markByte_eq]

theorem Record.block_some {r : Record} {x : Fill} (filled : r.fill = some x) (place : Nat) :
    r.block place = le 2 r.container.toNat ++ le 4 r.entry.toNat ++
      [BitVec.ofNat 8 place, x.result.byte, BitVec.ofNat 8 (x.port.val + 1), BitVec.ofNat 8 (x.feed.val + 1),
       BitVec.ofNat 8 x.planned, BitVec.ofNat 8 x.done, if r.crossed then 1 else 0, BitVec.ofNat 8 r.verdicts.length] ++
      r.verdicts.flatMap Verdict.bytes := by
  simp [Record.block, fillByte, fillBytes, filled, markByte_eq, numberByte, number]

theorem Record.item_none {r : Record} (none : r.fill = none) (place : Nat) :
    r.item place = le 2 r.container.toNat ++
      [BitVec.ofNat 8 place, BitVec.ofNat 8 (if r.crossed then 128 else 0), 0, BitVec.ofNat 8 r.verdicts.length] := by
  have flags : (0 : Byte) ||| markByte r.crossed <<< 7 = BitVec.ofNat 8 (if r.crossed then 128 else 0) := by
    cases r.crossed <;> decide
  simp only [Record.item, fillByte, dosesByte, none, flags]

theorem Record.item_some {r : Record} {x : Fill} (filled : r.fill = some x) (place : Nat) :
    r.item place = le 2 r.container.toNat ++
      [BitVec.ofNat 8 place, BitVec.ofNat 8 (x.result.byte.toNat + if r.crossed then 128 else 0),
       BitVec.ofNat 8 (x.done + 16 * x.planned), BitVec.ofNat 8 r.verdicts.length] := by
  have flags : x.result.byte ||| markByte r.crossed <<< 7 = BitVec.ofNat 8 (x.result.byte.toNat + if r.crossed then 128 else 0) := by
    cases x.result <;> cases r.crossed <;> decide
  simp only [Record.item, fillByte, dosesByte, filled, flags]

theorem Causes.byte_eq (k : Causes) : k.byte =
    BitVec.ofNat 8 ((if k.crossed then 1 else 0) + (if k.noFill then 2 else 0) + (if k.fillFailed then 4 else 0) +
      (if k.unreadable then 8 else 0) + (if k.rejected then 16 else 0) + (if k.missing then 32 else 0)) := by
  obtain ⟨crossed, noFill, fillFailed, unreadable, rejected, missing⟩ := k
  revert crossed noFill fillFailed unreadable rejected missing
  decide

theorem ExitEntry.bytes_eq (e : ExitEntry) : e.bytes = e.record.block e.gateOffset ++ [e.decision.byte, e.causes.byte] ++
    le 4 e.pitch.toNat ++ le 6 e.hall.time.toNat ++
    [if e.hall.unset then 1 else 0, if e.escape then 1 else 0, BitVec.ofNat 8 e.late.length] ++ e.late.flatMap Verdict.bytes := by
  simp [ExitEntry.bytes, Stamp.bytes, markByte_eq]

theorem ExitEntry.item_eq (e : ExitEntry) : e.item = le 2 e.record.container.toNat ++
    [e.decision.byte, BitVec.ofNat 8 ((if e.escape then 1 else 0) + (if e.unread then 2 else 0)), BitVec.ofNat 8 e.late.length] := by
  have flags : markByte e.escape ||| markByte e.unread <<< 1 =
      BitVec.ofNat 8 ((if e.escape then 1 else 0) + (if e.unread then 2 else 0)) := by
    cases e.escape <;> cases e.unread <;> decide
  rw [ExitEntry.item, flags]

/-- Settles O17: numbers by `le_succ`, frames by `hostFrame_eq`, records by their fill; the rest is the tables of codes. -/
theorem framesNoticesAndRecordsAreLaidOut : Obligations.FramesNoticesAndRecordsAreLaidOut := by
  unfold Obligations.FramesNoticesAndRecordsAreLaidOut
  refine ⟨?numbers, ?replies, rfl, ?notices, ?subjects, rfl, rfl, rfl, rfl, rfl, ?faults, rfl, fun _ => rfl, ?records, ?exits⟩
  case numbers =>
    intro b0 b1 b2 b3 b4 b5
    simp only [le_append, le_byte, and_self]
  case replies => exact fun r => hostFrame_eq _ _ _
  case notices =>
    intro n
    rw [← Notice.payload_eq]
    exact hostFrame_eq _ _ _
  case subjects =>
    intro lays num p f m c i k r role badgeRole a t g v b n d idle st
    have plain {b : NoticeBody} {kind : Byte} {priority : Nat} {subject : List Byte} (hk : b.kind = kind) (hp : b.priority = priority)
        (hs : b.subject = subject) : b.kind = kind ∧ b.priority = priority ∧ b.subject = subject := ⟨hk, hp, hs⟩
    exact ⟨plain rfl rfl rfl, plain rfl rfl rfl, plain rfl rfl rfl, plain rfl rfl rfl, plain rfl rfl rfl, plain rfl rfl rfl,
      fun _ => plain rfl rfl rfl, plain rfl rfl rfl, plain rfl rfl rfl, plain rfl rfl rfl, plain rfl rfl rfl, plain rfl rfl rfl,
      plain rfl rfl rfl, plain rfl rfl rfl, fun _ => plain rfl rfl rfl, plain rfl rfl rfl, plain rfl rfl rfl, plain rfl rfl rfl,
      plain rfl rfl rfl, plain rfl rfl rfl, plain rfl rfl rfl, plain rfl rfl rfl⟩
  case faults =>
    intro fault p b v k area h i x y
    exact ⟨fun _ => rfl, fun _ _ => rfl, fun _ => rfl, fun _ => rfl, fun _ _ => rfl, fun _ => rfl, fun _ => rfl, rfl, rfl, rfl, rfl,
      rfl, rfl, rfl, rfl, rfl, fun _ => rfl⟩
  case records =>
    intro r place
    exact ⟨fun none => ⟨Record.block_none none place, Record.item_none none place⟩,
      fun x filled => ⟨Record.block_some filled place, Record.item_some filled place⟩⟩
  case exits =>
    intro e
    dsimp only
    rw [← Causes.byte_eq]
    refine ⟨?_, ?_⟩
    · rw [ExitEntry.bytes_eq]
      rfl
    · rw [ExitEntry.item_eq]
      rfl

end Sys2Proof.Machine
end

section
/-! RESTART: the wait, the carrying out, and what becomes of the timers when uptime is set to 0 (R149, R192, R196). -/

namespace Sys2Proof.Machine

/-! ### Replies to a row of requests -/

theorem forEach_reply {α : Type} (l : List α) (n : α → Nat) (c : Code) (s : Part) :
    forEach l (fun e => reply (n e) c) s = { s with hlc := l.foldl (fun h e => h.reply (n e) c []) s.hlc } := by
  induction l generalizing s with
  | nil => rfl
  | cons e l ih => exact ih (reply (n e) c s)

/-- The reply to a request, as it joins the stream. -/
def Entry.replyOf (c : Code) (e : Entry) : Reply := ⟨some e.handle, e.kind.byte, e.tag, c, []⟩

/-- The table with the requests of these handles replied. -/
def Hlc.replied (h : Hlc) (handles : List Nat) : List Entry :=
  h.table.map fun x => if x.handle ∈ handles then { x with condition := .replied } else x

/-- Unreplied requests of a table, replied one after the other. -/
theorem foldl_reply {c : Code} {l : List Entry} {h : Hlc} (distinct : (h.table.map (·.handle)).Nodup) (once : (l.map (·.handle)).Nodup)
    (open_ : ∀ e ∈ l, e ∈ h.table ∧ e.condition ≠ .replied) : l.foldl (fun h e => h.reply e.handle c []) h =
      { h with table := h.replied (l.map (·.handle)), replies := h.replies ++ l.map (Entry.replyOf c) } := by
  induction l generalizing h with
  | nil => simp [Hlc.replied]
  | cons e l ih =>
    obtain ⟨entered, waits⟩ := open_ e List.mem_cons_self
    obtain ⟨fresh, once⟩ := List.nodup_cons.mp once
    have other {x : Entry} (hx : x ∈ l) : x.handle ≠ e.handle := fun same =>
      fresh (List.mem_map.mpr ⟨x, hx, same⟩)
    have next := reply_unreplied distinct entered c [] waits
    rw [List.foldl_cons, ih (h := h.reply e.handle c []) (by rwa [Hlc.reply_handles]) once fun x hx => ?_, next]
    · simp only [Hlc.replied, List.map_map, List.map_cons, List.append_assoc, ite_self, Hlc.mk.injEq, true_and, and_true]
      refine ⟨List.map_congr_left fun x _ => ?_, rfl⟩
      by_cases same : x.handle = e.handle
      · simp [same]
      · simp [same]
    · rw [next]
      obtain ⟨entered, waits⟩ := open_ x (List.mem_cons_of_mem e hx)
      exact ⟨List.mem_map.mpr ⟨x, entered, if_neg (other hx)⟩, waits⟩

/-! ### The carrying out (R192) -/

/-- R192: HLC when the restart of request `h`, whose entry is `e`, has been carried out. -/
def Hlc.carriedOut (l : Hlc) (e : Entry) (n : Notice) : Hlc :=
  { l with
    table := l.table.map fun x => { x with condition := .replied }
    replies := l.replies ++ (abortedEntries e.handle l).map (Entry.replyOf .aborted) ++ [e.replyOf .done]
    notices := [n]
    mask := 0
    gap := 0
    lastNotice := false }

section
variable {s : Part} {e : Entry}

/-- Every other request is replied ABORTED, then the RESTART DONE. -/
theorem restart_replies (distinct : (s.hlc.table.map (·.handle)).Nodup) (entered : e ∈ s.hlc.table) (waits : e.condition ≠ .replied) :
    reply e.handle .done (forEach (abortedEntries e.handle s.hlc) (fun x => reply x.handle .aborted) s) =
      { s with hlc := { s.hlc with
          table := s.hlc.table.map fun x => { x with condition := .replied }
          replies := s.hlc.replies ++ (abortedEntries e.handle s.hlc).map (Entry.replyOf .aborted) ++ [e.replyOf .done] } } := by
  have member {x : Entry} : x ∈ abortedEntries e.handle s.hlc ↔ x ∈ s.hlc.table ∧ x.condition ≠ .replied ∧ x.handle ≠ e.handle := by
    simp [abortedEntries]
  have handles {x : Entry} (hx : x ∈ s.hlc.table) :
      x.handle ∈ (abortedEntries e.handle s.hlc).map (·.handle) ↔ x.condition ≠ .replied ∧ x.handle ≠ e.handle := by
    constructor
    · intro hm
      obtain ⟨y, hy, same⟩ := List.mem_map.mp hm
      obtain ⟨hy, open_⟩ := member.mp hy
      exact handle_unique distinct hx hy same ▸ open_
    · exact fun open_ => List.mem_map_of_mem (member.mpr ⟨hx, open_⟩)
  have once : ((abortedEntries e.handle s.hlc).map (·.handle)).Nodup := distinct.sublist (List.filter_sublist.map _)
  have aborted := foldl_reply (c := .aborted) distinct once fun x hx =>
    have ⟨hx, open_, _⟩ := member.mp hx
    ⟨hx, open_⟩
  have still : e ∈ s.hlc.replied ((abortedEntries e.handle s.hlc).map (·.handle)) :=
    List.mem_map.mpr ⟨e, entered, if_neg fun hm => ((handles entered).mp hm).2 rfl⟩
  have unchanged : ((s.hlc.replied ((abortedEntries e.handle s.hlc).map (·.handle))).map (·.handle)).Nodup := by
    rw [Hlc.replied, List.map_map]
    refine List.map_congr_left (fun x _ => ?_) ▸ distinct
    simp only [Function.comp_apply]
    split <;> rfl
  rw [forEach_reply, aborted, reply]
  rw [reply_unreplied (h := { s.hlc with
    table := s.hlc.replied ((abortedEntries e.handle s.hlc).map (·.handle))
    replies := s.hlc.replies ++ (abortedEntries e.handle s.hlc).map (Entry.replyOf .aborted) }) unchanged still _ _ waits]
  have table : (s.hlc.replied ((abortedEntries e.handle s.hlc).map (·.handle))).map
      (fun x => if x.handle = e.handle then { x with condition := .replied } else x) =
        s.hlc.table.map fun x => { x with condition := .replied } := by
    rw [Hlc.replied, List.map_map]
    refine List.map_congr_left fun x hx => ?_
    simp only [Function.comp_apply, handles hx]
    by_cases mine : x.handle = e.handle
    · simp [mine]
    · by_cases replied : x.condition = .replied
      · have same : x = { x with condition := .replied } := by rw [← replied]
        simp only [replied, ne_eq, not_true_eq_false, false_and, if_false, mine]
        exact same
      · simp [mine, replied]
  simp only [table, ite_self]
  rfl

/-- R192, R196: the part when the restart of the request with entry `e` has been carried out. -/
def Part.carriedOut (s : Part) (e : Entry) : Part :=
  let q := zeroUptime { s with hlc := s.hlc.carriedOut e ⟨.restarted .request, s.mtu.hall, s.trk.pitch⟩ }
  { q with psc.cause := .request, psc.restart := none, psc.owed := Owed.all }

theorem carriedOut_port (p : Port) : (s.carriedOut e).ports[p] = { s.ports[p] with linkTimer := s.rebased s.ports[p].linkTimer } := by
  have ports : (s.carriedOut e).ports = each s.ports fun _ r => { r with linkTimer := s.rebased r.linkTimer } := rfl
  rw [ports, each_get]

theorem carriedOut_context (p : Port) :
    (s.carriedOut e).prv.contexts[p] = s.prv.contexts[p].map fun k => { k with timer := s.rebased k.timer } := by
  have contexts : (s.carriedOut e).prv.contexts = each s.prv.contexts fun _ k => k.map fun k => { k with timer := s.rebased k.timer } := rfl
  rw [contexts, each_get]

theorem carriedOut_feed (f : Feed) : (s.carriedOut e).fco.feeds[f] =
    { s.fco.feeds[f] with state := s.fco.feeds[f].state.mapTimer s.rebased } := by
  have feeds : (s.carriedOut e).fco.feeds = each s.fco.feeds fun _ r => { r with state := r.state.mapTimer s.rebased } := rfl
  rw [feeds, each_get]

theorem carryOut_eq (distinct : (s.hlc.table.map (·.handle)).Nodup) (entered : e ∈ s.hlc.table) (waits : e.condition ≠ .replied) :
    carryOut e.handle s = s.carriedOut e := by
  rw [carryOut, restart_replies distinct entered waits]
  rfl

end

/-! ### Timers and uptime (R149) -/

/-- A timer rebased to uptime 0 has the same time left, and is due exactly if it was. -/
theorem rebased_timeLeft {s t : Part} {e : Time} (zero : t.mtu.uptime = 0) (near : s.timeLeft (some e) < 2 ^ 47) :
    t.timeLeft (s.rebased (some e)) = s.timeLeft (some e) ∧ t.due (s.rebased (some e)) = s.due (some e) := by
  have value : (BitVec.ofNat 48 (s.timeLeft (some e))).toNat = s.timeLeft (some e) := by
    rw [BitVec.toNat_ofNat]
    omega
  have reached : t.reached (BitVec.ofNat 48 (s.timeLeft (some e))) = decide (s.timeLeft (some e) = 0) := by
    rw [Part.reached, zero]
    refine decide_eq_decide.mpr ?_
    have origin : (0 : Time).toNat = 0 := rfl
    rw [BitVec.toNat_sub, value, origin]
    omega
  have due : s.reached e = decide (s.timeLeft (some e) = 0) := by
    cases before : s.reached e
    · have later : ¬ (s.mtu.uptime - e).toNat < 2 ^ 47 := of_decide_eq_false before
      have ahead : (e - s.mtu.uptime).toNat ≠ 0 := by
        rw [BitVec.toNat_sub] at later ⊢
        have := e.isLt
        have := s.mtu.uptime.isLt
        omega
      refine (decide_eq_false ?_).symm
      rw [Part.timeLeft, before]
      exact ahead
    · simp [Part.timeLeft, before]
  refine ⟨?_, reached.trans due.symm⟩
  change (if t.reached (BitVec.ofNat 48 (s.timeLeft (some e))) then 0 else (BitVec.ofNat 48 (s.timeLeft (some e)) - t.mtu.uptime).toNat) = _
  have still : BitVec.ofNat 48 (s.timeLeft (some e)) - (0 : Time) = BitVec.ofNat 48 (s.timeLeft (some e)) := BitVec.sub_zero _
  rw [reached, zero, still, value]
  by_cases none : s.timeLeft (some e) = 0
  · simp [none]
  · simp [none]

/-! ### The statement -/

theorem startJob_restartWaits {s : Part} (waits : s.psc.restart.isSome = true) (run : s.psc.state = .run) : startJob s = s := by
  have idle : s.mayStartJob = false := by simp [Part.mayStartJob, waits]
  simp [startJob, idle, run]

theorem restartCarryOut_idle {s : Part} (idle : s.psc.restart = none ∨ s.psc.state ≠ .run ∨ s.nvs.inFlight.isSome = true) :
    restartCarryOut s = s := by
  unfold restartCarryOut
  split
  · rfl
  · next h restart =>
    refine if_neg ?_
    rintro ⟨run, free⟩
    rcases idle with none | other | busy
    · rw [restart] at none
      cases none
    · exact other run
    · rw [Option.isNone_iff_eq_none] at free
      rw [free] at busy
      cases busy

theorem restartCarryOut_acts {s : Part} {h : Nat} (run : s.psc.state = .run) (free : s.nvs.inFlight = none) (restart : s.psc.restart = some h) :
    restartCarryOut s = carryOut h s := by
  simp [restartCarryOut, restart, run, free]

/-- Settles O19: the wait by the checks of a request; the carrying out by `carryOut_eq`; a rebased timer by `rebased_timeLeft`. -/
theorem restartWaitsAndIsCarriedOut : Obligations.RestartWaitsAndIsCarriedOut := by
  unfold Obligations.RestartWaitsAndIsCarriedOut
  refine ⟨⟨?enters, ?inRun, ?waits, ?store⟩, ⟨?carried, ?idle⟩, ?timers⟩
  case enters =>
    intro tag s serves _
    exact gives_of_serve (serve := serveRestart) rfl serves rfl (Nat.zero_le _) rfl
  case inRun => exact fun tag => onlyInRun_of_takeRequest (fun _ => rfl) rfl rfl (Nat.zero_le _)
  case waits =>
    intro c k tag d s request fits short run ready room waits
    obtain ⟨serve, taken, -⟩ := exec_request c request
    rw [Gives, taken, act, takeRequest_waits run ready room waits fits short]
  case store => exact fun s waits run => gives_of_act rfl (startJob_restartWaits waits run)
  case carried =>
    intro s h e sound run free restart entered handle waits
    obtain rfl : e.handle = h := handle
    obtain ⟨-, -, distinct, -⟩ := sound
    have gives := gives_of_act (c := .restartCarryOut) (f := restartCarryOut) rfl
      ((restartCarryOut_acts run free restart).trans (carryOut_eq distinct entered waits))
    refine ⟨s.part.carriedOut e, gives, rfl, rfl, rfl, rfl, rfl, fun p => ⟨carriedOut_port p, carriedOut_context p⟩, rfl,
      fun f => (carriedOut_feed f).trans ?_, rfl, rfl⟩
    cases s.part.fco.feeds[f].state <;> rfl
  case idle => exact fun s idle => gives_of_act rfl (restartCarryOut_idle idle)
  case timers =>
    intro s h e run free restart near
    exact ⟨_, gives_of_act (f := restartCarryOut) rfl (restartCarryOut_acts run free restart), rebased_timeLeft rfl near⟩

end Sys2Proof.Machine
end

section
/-! The supply: the warning, the save, power-on and the loss of supply (R193 to R195). -/

namespace Sys2Proof.Machine

/-! ### The track at a save (R26) -/

/-- R26: the exit entry of a record decided in a save. -/
def Part.savedEntry (s : Part) (r : Record) : ExitEntry := s.exitEntry r { s.causes r with crossed := true }

/-- R40: entries pushed one after the other leave the last sixteen. -/
theorem foldl_pushExit (y l : List ExitEntry) :
    l.foldl pushExit (y.drop (y.length - 16)) = (y ++ l).drop ((y ++ l).length - 16) := by
  induction l generalizing y with
  | nil => simp
  | cons e l ih =>
    have pushed : pushExit (y.drop (y.length - 16)) e = (y ++ [e]).drop ((y ++ [e]).length - 16) := by
      rw [pushExit, ← List.drop_append_of_le_length (Nat.sub_le _ _), List.drop_drop]
      congr 1
      simp only [List.length_drop, List.length_append, List.length_singleton, Config.exitSize]
      omega
    rw [List.foldl_cons, pushed, ih, List.append_assoc]
    rfl

/-- A total that is no port's meter A rises, fills, or is left. -/
theorem meterInc_total {m : Meter} (total : ∀ p : Port, m ≠ meterA p) (s : Part) : ∃ (x : MeterRec) (l : Hlc),
    meterInc m s = { s with mtu.meters := s.mtu.meters.set m x, hlc := l } ∧
      (s.mtu.closed = false → s.mtu.meters[m].full = false → s.mtu.meters[m].value.toNat + 1 < 2 ^ 32 →
        x = ⟨s.mtu.meters[m].value + 1, false⟩) := by
  cases stopped : s.mtu.closed || s.mtu.meters[m].full
  · obtain ⟨closed, full⟩ := Bool.or_eq_false_iff.mp stopped
    by_cases last : s.mtu.meters[m].value.toNat = 4294967295
    · exact ⟨_, _, (meterInc_fills closed full last).trans rfl, fun _ _ below => by omega⟩
    · have below : s.mtu.meters[m].value.toNat < 4294967295 := by
        have := s.mtu.meters[m].value.isLt
        omega
      exact ⟨⟨s.mtu.meters[m].value + 1, s.mtu.meters[m].full⟩, s.hlc,
        (meterInc_rises closed full below).trans (evalMeter_other total _), fun _ _ _ => by rw [full]⟩
  · refine ⟨s.mtu.meters[m], s.hlc, ?_, fun closed full => ?_⟩
    · rw [meterInc_left (Bool.or_eq_true_iff.mp stopped)]
      have same : s.mtu.meters.set m s.mtu.meters[m] = s.mtu.meters := Vector.set_getElem_self _
      rw [same]
    · rw [closed, full] at stopped
      cases stopped

/-- The value of a meter that has risen by one. -/
theorem risen_toNat {v : Word} (below : v.toNat + 1 < 2 ^ 32) : (v + 1).toNat = v.toNat + 1 := by
  have one : (1 : Word).toNat = 1 := rfl
  rw [BitVec.toNat_add, one]
  omega

/-- R26: the records decided one after the other: exit entries, the reject total, and HLC. -/
theorem forEach_decideInSave (l : List Record) (s : Part) : ∃ (M : Vector MeterRec 28) (h : Hlc),
    forEach l decideInSave s = { s with
      trk.exits := (l.map s.savedEntry).foldl pushExit s.trk.exits, mtu.meters := M, hlc := h } ∧
      (∀ i : Meter, i ≠ 26 → M[i] = s.mtu.meters[i]) ∧
      (s.mtu.closed = false → s.mtu.meters[(26 : Meter)].full = false →
        s.mtu.meters[(26 : Meter)].value.toNat + l.length < 2 ^ 32 →
        M[(26 : Meter)].value.toNat = s.mtu.meters[(26 : Meter)].value.toNat + l.length) := by
  induction l generalizing s with
  | nil => exact ⟨s.mtu.meters, s.hlc, rfl, fun _ _ => rfl, fun _ _ _ => rfl⟩
  | cons r l ih =>
    obtain ⟨x, k, decided, risen⟩ := meterInc_total (m := 26) (by decide) { s with trk.exits := pushExit s.trk.exits (s.savedEntry r) }
    have rejected : ({ s.causes r with crossed := true } : Causes).decision.meter = 26 := rfl
    have decided : decideInSave r s = { s with
        trk.exits := pushExit s.trk.exits (s.savedEntry r), mtu.meters := s.mtu.meters.set 26 x, hlc := k } := by
      rw [decideInSave, recordDecision, rejected]
      exact decided
    obtain ⟨M, h, rest, others, counted⟩ := ih (decideInSave r s)
    have others : ∀ i : Meter, i ≠ 26 → M[i] = s.mtu.meters[i] := fun i hi => by
      rw [others i hi, decided]
      exact (set_get s.mtu.meters 26 i x).trans (if_neg (Ne.symm hi))
    refine ⟨M, h, ?_, others, fun open_ full below => ?_⟩
    · change forEach l decideInSave (decideInSave r s) = _
      rw [rest, decided]
      rfl
    · rw [List.length_cons] at below ⊢
      have one : s.mtu.meters[(26 : Meter)].value.toNat + 1 < 2 ^ 32 := by omega
      have up : x = ⟨s.mtu.meters[(26 : Meter)].value + 1, false⟩ := risen open_ full one
      have value : x.value.toNat = s.mtu.meters[(26 : Meter)].value.toNat + 1 := by rw [up, risen_toNat one]
      have here : (decideInSave r s).mtu.meters[(26 : Meter)] = x := by
        rw [decided]
        exact (set_get s.mtu.meters 26 26 x).trans (if_pos rfl)
      have still : (decideInSave r s).mtu.closed = false := by rw [decided]; exact open_
      rw [here] at counted
      rw [counted still (by rw [up]) (by omega), value]
      omega

/-! ### The supply warning (R193) -/

section
variable {s : Part}

theorem active_iff (s : Part) : s.active = true ↔ s.psc.state = .run ∨ s.psc.state = .quiet := by
  simp [Part.active]

theorem assertSupwarn_low (low : s.psc.supwarn = false) : assertSupwarn s = { s with psc := { s.psc with
    supwarn := true
    supplyLowTimer :=
      if s.psc.state = .run ∨ s.psc.state = .quiet then some (s.mtu.uptime + BitVec.ofNat 48 s.psc.supplyLowTime)
      else s.psc.supplyLowTimer
    saveHold := none } } := by
  simp only [assertSupwarn, low, Bool.false_eq_true, if_false, active_iff, Part.timer]

theorem assertSupwarn_high (high : s.psc.supwarn = true) : assertSupwarn s = s := by
  rw [assertSupwarn, if_pos high]

theorem deassertSupwarn_high (high : s.psc.supwarn = true) : deassertSupwarn s = { s with psc := { s.psc with
    supwarn := false
    supplyLowTimer := none
    saveHold :=
      if s.psc.state = .save ∧ s.psc.linksDropped = true then some (s.mtu.uptime + 10) else s.psc.saveHold } } := by
  rw [deassertSupwarn, if_pos high]
  dsimp only
  by_cases held : s.psc.state = .save ∧ s.psc.linksDropped = true
  · rw [if_pos held, if_pos held]
    rfl
  · rw [if_neg held, if_neg held]

theorem deassertSupwarn_low (low : s.psc.supwarn = false) : deassertSupwarn s = s := by
  simp [deassertSupwarn, low]

/-! ### Entry to SAVE (R195) -/

theorem supplyLowExpiry_due {e : Time} (on : s.psc.state = .run ∨ s.psc.state = .quiet) (timer : s.psc.supplyLowTimer = some e)
    (due : (s.mtu.uptime - e).toNat < 2 ^ 47) : supplyLowExpiry s = enterSave s := by
  refine if_pos ?_
  rw [(active_iff s).mpr on, timer]
  exact decide_eq_true due

theorem supplyLowExpiry_early (early : (s.psc.state ≠ .run ∧ s.psc.state ≠ .quiet) ∨ s.due s.psc.supplyLowTimer = false) :
    supplyLowExpiry s = s := by
  refine if_neg fun acts => ?_
  obtain ⟨active, due⟩ := Bool.and_eq_true_iff.mp acts
  rcases early with ⟨run, quiet⟩ | early
  · exact ((active_iff s).mp active).elim run quiet
  · rw [early] at due
    cases due

theorem save_idle {t : Part} (save : t.psc.state = .save) : t.active = false := by simp [Part.active, save]

/-- R195: the part in SAVE, by what the row of decisions leaves of exit list, meters and HLC. -/
def Part.saved (s : Part) (exits : List ExitEntry) (meters : Vector MeterRec 28) (h : Hlc) : Part :=
  saveNvs (saveMtu (saveSva (savePrv (saveSpx (saveFco { s with
    psc.state := .save, psc.supplyLowTimer := none, psc.saveHold := none, psc.restart := none, psc.owed := Owed.none
    trk.gate := false, trk.gateTimer := none, trk.track := [], trk.exits := exits, mtu.meters := meters, hlc := h })))))

theorem enterSave_eq (s : Part) : ∃ (M : Vector MeterRec 28) (h : Hlc),
    enterSave s = s.saved ((s.trk.track.map s.savedEntry).foldl pushExit s.trk.exits) M h ∧
      (∀ i : Meter, i ≠ 26 → M[i] = s.mtu.meters[i]) ∧
      (s.mtu.closed = false → s.mtu.meters[(26 : Meter)].full = false →
        s.mtu.meters[(26 : Meter)].value.toNat + s.trk.track.length < 2 ^ 32 →
        M[(26 : Meter)].value.toNat = s.mtu.meters[(26 : Meter)].value.toNat + s.trk.track.length) := by
  obtain ⟨M, h, decided, meters⟩ := forEach_decideInSave s.trk.track { s with
    psc.state := .save, psc.supplyLowTimer := none, psc.saveHold := none, psc.restart := none, psc.owed := Owed.none
    trk.gate := false, trk.gateTimer := none, trk.track := [] }
  refine ⟨M, h, ?_, meters⟩
  rw [enterSave, saveTrk]
  dsimp only
  rw [decided]
  rfl

section
variable (exits : List ExitEntry) (M : Vector MeterRec 28) (h : Hlc)

theorem saved_port (p : Port) : (s.saved exits M h).runEnable p = false ∧ (s.saved exits M h).ports[p].linkTimer = none ∧
    (s.saved exits M h).prv.contexts[p] = none := by
  have ports : (s.saved exits M h).ports = each s.ports fun _ r => { r with linkTimer := none } := rfl
  have contexts : (s.saved exits M h).prv.contexts = Vector.replicate 12 none := rfl
  refine ⟨?_, ?_, ?_⟩
  · rw [Part.runEnable, save_idle rfl, Bool.false_and]
  · rw [ports, each_get]
  · rw [contexts]
    simp

theorem saved_feed (f : Feed) : (s.saved exits M h).fco.feeds[f] =
    { s.fco.feeds[f] with state := s.fco.feeds[f].state.mapTimer fun _ => none } := by
  have feeds : (s.saved exits M h).fco.feeds = each s.fco.feeds fun _ r => { r with state := r.state.mapTimer fun _ => none } := rfl
  rw [feeds, each_get]

end

end

/-- Settles O20: the warning by its level; the save by `enterSave_eq`, the exit list by `foldl_pushExit`. -/
theorem supplyWarningLeadsToSave : Obligations.SupplyWarningLeadsToSave := by
  unfold Obligations.SupplyWarningLeadsToSave
  refine ⟨⟨fun s low => gives_of_act rfl (assertSupwarn_low low), fun s high => gives_of_act rfl (deassertSupwarn_high high),
    fun s high => gives_of_act rfl (assertSupwarn_high high), fun s low => gives_of_act rfl (deassertSupwarn_low low)⟩,
    ?saved, fun s early => gives_of_act rfl (supplyLowExpiry_early early)⟩
  intro s e on timer due
  obtain ⟨M, h, entered, others, counted⟩ := enterSave_eq s.part
  refine ⟨_, gives_of_act (f := supplyLowExpiry) rfl ((supplyLowExpiry_due on timer due).trans entered), rfl,
    fun f => (saved_feed _ M h f).trans ?_, saved_port _ M h, fun f => ?_, ?_, rfl, rfl, rfl, ?_, rfl, rfl, rfl, fun fits => ?_, counted, others,
    rfl, rfl, rfl⟩
  · cases s.part.fco.feeds[f].state <;> rfl
  · rw [Part.permitOutput, save_idle rfl, Bool.false_and]
  · rw [Part.gateOutput, save_idle rfl, Bool.false_and]
  · intro x hx
    obtain ⟨y, -, rfl⟩ := List.mem_map.mp hx
    rfl
  · have last := foldl_pushExit s.part.trk.exits (s.part.trk.track.map s.part.savedEntry)
    rw [Nat.sub_eq_zero_of_le fits, List.drop_zero] at last
    exact last

/-! ### Power-on and the loss of supply (R194, R195) -/

/-- Settles O21: power-on by `boot_startsFrom`; the loss of supply leaves the store with the job in flight or without it. -/
theorem storeOutlivesTheSupply : Obligations.StoreOutlivesTheSupply := by
  unfold Obligations.StoreOutlivesTheSupply
  have booted {c : Instr} {s : State} (cause : RestartCause) (strap : Bool) (gives : Gives c s (boot cause strap s.part)) :
      ∃ t, Gives c s t ∧ t.startsFrom s.part.nvs ∧ t.psc.cause = cause ∧ t.hlc.rate = if strap then .baud921600 else .baud460800 :=
    ⟨_, gives, boot_startsFrom cause strap s.part, rfl, rfl⟩
  refine ⟨⟨?on, ?held, ?powered, ?early⟩, ?written, ?lost, ?off⟩
  case on => exact fun strap s off => booted .power strap (gives_of_act rfl (if_pos off))
  case held =>
    intro strap s e save timer due
    refine booted .supplyLow strap (gives_of_act rfl (if_pos ⟨save, ?_⟩))
    rw [timer]
    exact decide_eq_true due
  case powered => exact fun strap s on => gives_of_act rfl (if_neg on)
  case early =>
    intro strap s early
    refine gives_of_act rfl (if_neg fun ⟨save, due⟩ => ?_)
    rcases early with other | early
    · exact other save
    · rw [early] at due
      cases due
  case written =>
    intro s j on flying
    refine gives_of_act (f := losePower true) rfl ?_
    simp only [losePower, on, if_false, flying, if_true]
    rfl
  case lost =>
    intro s written on absent
    refine gives_of_act (f := losePower written) rfl ?_
    rw [losePower, if_neg on]
    rcases absent with none | unwritten
    · simp only [none]
      rfl
    · subst unwritten
      cases s.part.nvs.inFlight <;> rfl
  case off => exact fun s written off => gives_of_act (f := losePower written) rfl (if_pos off)

end Sys2Proof.Machine
end

section
/-! Rules that the statements share: notices raised in a row, what FCO drops of a port, and the status of every port evaluated afresh. -/

namespace Sys2Proof.Machine

/-! ### Notices in a row -/

/-- HLC after notices raised one after the other, all at the same hall time and pitch count. -/
def Hlc.raised (h : Hlc) (hall : Stamp) (pitch : Word) (l : List NoticeBody) : Hlc := l.foldl (fun h b => h.enqueue ⟨b, hall, pitch⟩) h

theorem Hlc.raised_append (h : Hlc) (hall : Stamp) (pitch : Word) (l m : List NoticeBody) :
    h.raised hall pitch (l ++ m) = (h.raised hall pitch l).raised hall pitch m := List.foldl_append

/-- The part after notices raised one after the other. -/
def Part.raises (s : Part) (l : List NoticeBody) : Part := { s with hlc := s.hlc.raised s.mtu.hall s.trk.pitch l }

theorem raises_append (s : Part) (l m : List NoticeBody) : s.raises (l ++ m) = (s.raises l).raises m := by
  rw [Part.raises, Hlc.raised_append]
  rfl

/-- Where there is room for them all, notices join the tail. -/
theorem Hlc.raised_room (h : Hlc) (hall : Stamp) (pitch : Word) {l : List NoticeBody} (room : h.notices.length + l.length ≤ 32) :
    h.raised hall pitch l = { h with notices := h.notices ++ l.map fun b => ⟨b, hall, pitch⟩ } := by
  induction l generalizing h with
  | nil => simp [Hlc.raised]
  | cons b l ih =>
    rw [List.length_cons] at room
    have first : h.enqueue ⟨b, hall, pitch⟩ = { h with notices := h.notices ++ [⟨b, hall, pitch⟩] } :=
      Hlc.enqueue_room (show h.notices.length < 32 by omega) _
    have rest := ih (h.enqueue ⟨b, hall, pitch⟩) (by
      rw [first]
      simp only [List.length_append, List.length_singleton]
      omega)
    rw [Hlc.raised, List.foldl_cons, ← Hlc.raised, rest, first]
    simp

theorem reply_raises (n : Nat) (c : Code) (l : List NoticeBody) (s : Part) : reply n c (s.raises l) = (reply n c s).raises l := by
  induction l generalizing s with
  | nil => rfl
  | cons b l ih => exact (ih (raise b s)).trans (congrArg (Part.raises · l) (reply_raise n c b s))

/-! ### Every status evaluated afresh (R158, R159, R165) -/

/-- R159: the notice of a port whose status has become what its meter A says. -/
def Part.serviceNotice (s : Part) (p : Port) : Option NoticeBody :=
  let role := s.ports[p].cfg.role
  let a := s.mtu.meters[meterA p].value
  let c := s.mtu.cfg[p]
  match serviceOf c a with
  | .none => none
  | .due => some (.serviceDue p role a c.threshold c.grace)
  | .limit => some (.hardLimit p role a c.threshold c.grace)

/-- The status that meter A gives a port. -/
def Part.serviceNow (s : Part) (p : Port) : Service := serviceOf s.mtu.cfg[p] s.mtu.meters[meterA p].value

theorem evalService_fresh {s : Part} {p : Port} (none : s.mtu.service[p] = .none) :
    evalService p s = ({ s with mtu.service := s.mtu.service.set p (s.serviceNow p) } : Part).raises (s.serviceNotice p).toList := by
  cases now : serviceOf s.mtu.cfg[p] s.mtu.meters[meterA p].value with
  | none =>
    have kept : s.mtu.service.set p (s.serviceNow p) = s.mtu.service := by
      rw [Part.serviceNow, now, ← none]
      exact Vector.set_getElem_self _
    rw [evalService_same (now.trans none.symm), kept, Part.serviceNotice]
    simp only [now]
    rfl
  | due =>
    rw [evalService_changes now (by rw [none]; decide), Part.serviceNotice, Part.serviceNow]
    simp only [now]
    rfl
  | limit =>
    rw [evalService_changes now (by rw [none]; decide), Part.serviceNotice, Part.serviceNow]
    simp only [now]
    rfl

/-- Ports without a status, evaluated one after the other. -/
theorem forEach_evalService {l : List Port} {s : Part} (once : l.Nodup) (fresh : ∀ p ∈ l, s.mtu.service[p] = .none) :
    ∃ v : Vector Service 12, (∀ p, v[p] = if p ∈ l then s.serviceNow p else s.mtu.service[p]) ∧
      forEach l evalService s = ({ s with mtu.service := v } : Part).raises (l.filterMap s.serviceNotice) := by
  induction l generalizing s with
  | nil => exact ⟨s.mtu.service, fun p => by simp, rfl⟩
  | cons p l ih =>
    obtain ⟨new, once⟩ := List.nodup_cons.mp once
    have first := evalService_fresh (fresh p List.mem_cons_self)
    have service (q : Port) : (evalService p s).mtu.service[q] = if p = q then s.serviceNow p else s.mtu.service[q] := by
      rw [first]
      exact set_get _ _ _ _
    obtain ⟨v, value, rest⟩ := ih (s := evalService p s) once fun q hq => by
      have other : p ≠ q := fun e => new (e.symm ▸ hq)
      rw [service, if_neg other]
      exact fresh q (List.mem_cons_of_mem p hq)
    have now (q : Port) : (evalService p s).serviceNow q = s.serviceNow q := by rw [first]; rfl
    have notice : (evalService p s).serviceNotice = s.serviceNotice := by rw [first]; rfl
    refine ⟨v, fun q => ?_, ?_⟩
    · rw [value, service, now]
      by_cases mine : p = q
      · subst mine
        simp
      · simp [mine, Ne.symm mine]
    · change forEach l evalService (evalService p s) = _
      have joined : (p :: l).filterMap s.serviceNotice = (s.serviceNotice p).toList ++ l.filterMap s.serviceNotice := by
        cases found : s.serviceNotice p with
        | none => simp [found]
        | some b => simp [found]
      rw [rest, notice, joined, raises_append, first]
      rfl

theorem evalServiceAfresh_eq (s : Part) : ∃ v : Vector Service 12, (∀ p, v[p] = s.serviceNow p) ∧
    evalServiceAfresh s = ({ s with mtu.service := v } : Part).raises ((List.finRange 12).filterMap s.serviceNotice) := by
  obtain ⟨v, value, evaluated⟩ := forEach_evalService (s := { s with mtu.service := Vector.replicate 12 .none })
    (List.nodup_finRange 12) fun p _ => by simp
  exact ⟨v, fun p => (value p).trans (if_pos (List.mem_finRange p)), evaluated⟩

/-! ### What FCO drops of a port (R54, R55, R57) -/

/-- FCO with the entries of a port dropped from the queue that holds them, and their reservations released. -/
def Fco.dropped (c : Fco) (p : Port) : Fco :=
  match c.feedQueueing p with
  | none => c
  | some f => { c with
      feeds := upd c.feeds f fun r => { r with queue := r.queue.filter (·.port != p) }
      toTrk := c.toTrk ++ (c.feeds[f].queue.filter (·.port == p)).map fun e => releaseRequest f e.port e.container e.remnant }

/-- FCO with a void mark on the claim of a port; the first mark stands. -/
def Fco.voided (c : Fco) (p : Port) (v : Void) : Fco :=
  { c with claims := upd c.claims p fun k => k.map fun k => { k with void := k.void <|> some v } }

theorem forEach_releaseEntry (f : Feed) (l : List QueueEntry) (s : Part) : forEach l (releaseEntry f) s =
    { s with fco.toTrk := s.fco.toTrk ++ l.map fun e => releaseRequest f e.port e.container e.remnant } := by
  induction l generalizing s with
  | nil => simp [forEach]
  | cons e l ih =>
    change forEach l (releaseEntry f) (releaseEntry f e s) = _
    rw [ih]
    simp [releaseEntry, askTrk]

theorem dropQueued_eq (p : Port) (s : Part) : dropQueued p s = { s with fco := s.fco.dropped p } := by
  unfold dropQueued Fco.dropped
  cases s.fco.feedQueueing p with
  | none => rfl
  | some f =>
    dsimp only
    rw [forEach_releaseEntry]
    have same : upd s.fco.feeds f (fun r => { r with queue := s.fco.feeds[f].queue.filter (·.port != p) }) =
        upd s.fco.feeds f fun r => { r with queue := r.queue.filter (·.port != p) } := by
      refine Vector.ext fun i hi => ?_
      simp only [upd_getElem]
      split
      · next e => subst e; rfl
      · rfl
    simp only [setQueue, modFeed, same]

theorem voidClaim_eq (p : Port) (v : Void) (s : Part) : voidClaim p v s = { s with fco := s.fco.voided p v } := rfl

section
variable (c : Fco) (p : Port)

theorem dropped_state (f : Feed) : (c.dropped p).feeds[f].state = c.feeds[f].state := by
  unfold Fco.dropped
  split
  · rfl
  · dsimp only
    rw [upd_get]
    split <;> rfl

theorem dropped_claims : (c.dropped p).claims = c.claims := by
  unfold Fco.dropped
  split <;> rfl

theorem feedQueueing_none {c : Fco} {p : Port} (empty : ∀ f : Feed, ∀ e ∈ c.feeds[f].queue, e.port ≠ p) : c.feedQueueing p = none := by
  refine List.find?_eq_none.mpr fun f _ => ?_
  simpa using empty f

theorem dropped_none {c : Fco} {p : Port} (empty : ∀ f : Feed, ∀ e ∈ c.feeds[f].queue, e.port ≠ p) : c.dropped p = c := by
  rw [Fco.dropped, feedQueueing_none empty]

/-- The feed that serves a port goes by the states alone. -/
theorem feedServing_congr {c d : Fco} (same : ∀ f : Feed, d.feeds[f].state = c.feeds[f].state) : d.feedServing p = c.feedServing p := by
  unfold Fco.feedServing FeedRec.servesPort
  simp only [same]

theorem feedServing_none {c : Fco} (empty : ∀ f : Feed, c.feeds[f].state.lease? = none) : c.feedServing p = none := by
  refine List.find?_eq_none.mpr fun f _ => ?_
  simp [-Fin.getElem_fin, FeedRec.servesPort, empty f]

end

/-- R57: a port without grant or lease leaves ADMITTED: its claim is void and its entry dropped. -/
theorem portLeft_unserved {s : Part} {p : Port} (unserved : s.fco.feedServing p = none) :
    portLeft p s = { s with fco := (s.fco.voided p .silent).dropped p } := by
  have still : ((s.fco.voided p .silent).dropped p).feedServing p = none :=
    (feedServing_congr p fun f => dropped_state _ p f).trans unserved
  rw [portLeft, voidClaim_eq, dropQueued_eq, withGrant]
  simp only [still]

end Sys2Proof.Machine
end

section
/-! Entry to RUN, QUIET and WAKE (R194, R197, R198): the settling of RunIsEnteredAndQuietRests. -/

namespace Sys2Proof.Machine

/-! ### Entry to RUN (R194) -/

theorem forEach_raise {α : Type} (body : α → Part → NoticeBody) (same : ∀ (a : α) (s : Part) (b : NoticeBody), body a (raise b s) = body a s)
    (l : List α) (s : Part) : forEach l (fun a s => raise (body a s) s) s = s.raises (l.map fun a => body a s) := by
  induction l generalizing s with
  | nil => rfl
  | cons a l ih =>
    rw [forEach_cons, ih]
    simp only [same]
    rfl

theorem announceBarredPorts_eq (s : Part) : announceBarredPorts s =
    s.raises (((List.finRange 12).filter fun p : Port => s.ports[p].admission = .barred).map fun p : Port => .portBarred p s.prv.counts[p]) := by
  have same : (fun p : Port => s.ports[p].admission == .barred) = fun p : Port => decide (s.ports[p].admission = .barred) :=
    funext fun p => Bool.beq_eq_decide_eq _ _
  rw [announceBarredPorts, forEach_raise _ fun _ _ _ => rfl, same]

theorem announceBarredReader_eq (s : Part) : announceBarredReader s =
    s.raises (if s.sva.reader = .barred then [.readerBarred s.prv.readerCount s.prv.barPeriod] else []) := by
  rw [announceBarredReader]
  split <;> rfl

/-- R159: the status notices of every port, by the loaded meters. -/
def Part.serviceNotices (s : Part) : List NoticeBody := (List.finRange 12).filterMap s.serviceNotice

theorem runNotices_length (s : Part) : s.runNotices.length ≤ 26 := by
  have barred : ((List.finRange 12).filter fun p : Port => s.ports[p].admission = .barred).length ≤ 12 :=
    (List.length_filter_le _ _).trans (List.length_finRange (n := 12)).le
  have services : s.serviceNotices.length ≤ 12 := (List.length_filterMap_le _ _).trans (List.length_finRange (n := 12)).le
  have whole : s.runNotices.length = 1 + ((List.finRange 12).filter fun p : Port => s.ports[p].admission = .barred).length +
      (if s.sva.reader = .barred then [NoticeBody.readerBarred s.prv.readerCount s.prv.barPeriod] else []).length +
      s.serviceNotices.length := by
    simp only [Part.runNotices, List.length_append, List.length_map, List.length_singleton]
    rfl
  split at whole <;> simp only [List.length_singleton, List.length_nil] at whole <;> omega

/-- R103, R165: the part in RUN with every link timer and the checkpoint timer started, and with the status of every port. -/
def Part.running (s : Part) (v : Vector Service 12) : Part :=
  { s with
    psc := { s.psc with state := .run }
    ports := each s.ports fun _ r => { r with linkTimer := s.timer Config.linkTime }
    mtu := { s.mtu with checkpointTimer := s.timer (s.mtu.checkpointPeriod * Config.second), service := v } }

theorem enterRun_eq (s : Part) : ∃ v : Vector Service 12, (∀ p, v[p] = s.serviceNow p) ∧ enterRun s = (s.running v).raises s.runNotices := by
  let started : Part := startCheckpointTimer (startLinks (raise (.restarted s.psc.cause) { s with psc := { s.psc with state := .run } }))
  have ports : started.ports = each s.ports fun _ r => { r with linkTimer := s.timer Config.linkTime } := rfl
  have admission (p : Port) : started.ports[p].admission = s.ports[p].admission := by rw [ports, each_get]
  have role (p : Port) : started.ports[p].cfg.role = s.ports[p].cfg.role := by rw [ports, each_get]
  have notice : started.serviceNotice = s.serviceNotice := by
    funext p
    simp only [Part.serviceNotice, role p]
    rfl
  obtain ⟨v, value, evaluated⟩ := evalServiceAfresh_eq (announceBarredReader (announceBarredPorts started))
  rw [announceBarredReader_eq, announceBarredPorts_eq] at value evaluated
  have entered : enterRun s = evalServiceAfresh (announceBarredReader (announceBarredPorts started)) := rfl
  refine ⟨v, fun p => (value p).trans rfl, ?_⟩
  rw [entered, announceBarredReader_eq, announceBarredPorts_eq, evaluated]
  simp only [admission]
  change (_ : Part).raises ((List.finRange 12).filterMap started.serviceNotice) = _
  rw [notice, Part.runNotices, raises_append, raises_append, raises_append]
  rfl

/-! ### Leaving ADMITTED without a grant or lease (R88) -/

theorem upd_upd {α : Type} {n : Nat} (v : Vector α n) (i : Fin n) (f g : α → α) : upd (upd v i f) i g = upd v i fun a => g (f a) := by
  refine Vector.ext fun j hj => ?_
  simp only [upd_getElem]
  split <;> rfl

theorem upd_congr {α : Type} {n : Nat} {v : Vector α n} {i : Fin n} {f g : α → α} (same : f v[i] = g v[i]) : upd v i f = upd v i g :=
  congrArg (v.set i) same

theorem modPort_congr {s : Part} {p : Port} {f g : PortRec → PortRec} (same : f s.ports[p] = g s.ports[p]) : modPort p f s = modPort p g s :=
  congrArg (fun v => ({ s with ports := v } : Part)) (upd_congr same)

theorem modPort_same {s : Part} {p : Port} {f : PortRec → PortRec} (same : f s.ports[p] = s.ports[p]) : modPort p f s = s :=
  (modPort_congr (g := id) same).trans (congrArg (fun v => ({ s with ports := v } : Part)) (Vector.set_getElem_self _))

theorem modPort_modPort (p : Port) (f g : PortRec → PortRec) (s : Part) : modPort p g (modPort p f s) = modPort p (fun r => g (f r)) s :=
  congrArg (fun v => ({ s with ports := v } : Part)) (upd_upd _ _ _ _)

/-- R88: the notices of a port that leaves ADMITTED. -/
def Part.leaveNotices (s : Part) (p : Port) (dest : Admission) (why : LeaveCause) : List NoticeBody :=
  (if s.ports[p].relay = [] then [] else [.relayDropped p s.ports[p].relay.length]) ++ [.portState p dest why]

theorem dropRelay_eq (p : Port) (s : Part) : dropRelay p s = ({ s with ports := upd s.ports p fun r => { r with relay := [] } } : Part).raises
    (if s.ports[p].relay = [] then [] else [.relayDropped p s.ports[p].relay.length]) := by
  cases queued : s.ports[p].relay with
  | nil =>
    have same : modPort p (fun r => { r with relay := [] }) s = s :=
      modPort_same (congrArg (fun l => ({ s.ports[p] with relay := l } : PortRec)) queued.symm)
    rw [dropRelay, queued]
    exact same.symm
  | cons m l =>
    rw [dropRelay, queued]
    rfl

/-- FCO once a port has left ADMITTED without grant or lease: its claim is void and its entry dropped. -/
def Fco.departed (c : Fco) (p : Port) : Fco := (c.voided p .silent).dropped p

/-- R88: the part once a port has left ADMITTED without grant or lease. -/
theorem leaveAdmitted_unserved {s : Part} {p : Port} (unserved : s.fco.feedServing p = none) (dest : Admission) (why : LeaveCause) :
    leaveAdmitted p dest why s = ({ s with
      ports := upd s.ports p fun r => { r with admission := dest, relay := [] }
      fco := s.fco.departed p } : Part).raises (s.leaveNotices p dest why) := by
  rw [leaveAdmitted, portLeft_unserved (s := setAdmission p dest s) unserved, dropRelay_eq, Part.leaveNotices]
  have relay : (setAdmission p dest s).ports[p].relay = s.ports[p].relay := by
    change (upd s.ports p fun r => { r with admission := dest })[p].relay = _
    rw [upd_self]
  have ports : upd (setAdmission p dest s).ports p (fun r => { r with relay := [] }) =
      upd s.ports p fun r => { r with admission := dest, relay := [] } :=
    upd_upd s.ports p (fun r => { r with admission := dest }) fun r => { r with relay := [] }
  simp only [ports, relay]
  rw [raises_append]
  rfl

/-! ### Parking (R94, R105) -/

/-- The record of a port that is parked: PARK goes out, and the parked mark stays. -/
def PortRec.parkedNow (r : PortRec) : PortRec :=
  { r with admission := .parked, parked := true, relay := [], sent := if r.link then r.sent ++ [StationOut.park.bytes] else r.sent }

/-- The record of a port that a frame goes out to: with the link down it is dropped (R92). -/
def PortRec.given (f : StationOut) (r : PortRec) : PortRec := { r with sent := if r.link then r.sent ++ [f.bytes] else r.sent }

theorem PortRec.given_up {r : PortRec} (up : r.link = true) (f : StationOut) : r.given f = { r with sent := r.sent ++ [f.bytes] } := by
  rw [PortRec.given, if_pos up]

theorem PortRec.given_down {r : PortRec} (down : r.link = false) (f : StationOut) : r.given f = r := by
  rw [PortRec.given, down]
  obtain ⟨⟩ := r
  cases down
  rfl

/-- R92: in RUN and QUIET a frame goes out. -/
theorem sendStation_active {s : Part} (active : s.active = true) (p : Port) (f : StationOut) : sendStation p f s = modPort p (·.given f) s := by
  rw [sendStation_eq, active, Bool.true_and]
  cases up : s.ports[p].link with
  | false => exact (modPort_same (PortRec.given_down up f)).symm
  | true => exact modPort_congr (PortRec.given_up up f).symm

theorem parkPort_unserved {s : Part} {p : Port} (active : s.active = true) (unserved : s.fco.feedServing p = none) (why : LeaveCause) :
    parkPort p why s = ({ s with ports := upd s.ports p PortRec.parkedNow, fco := s.fco.departed p } : Part).raises
      (s.leaveNotices p .parked why) := by
  have relay : (modPort p (fun r => { r.given .park with parked := true }) s).ports[p].relay = s.ports[p].relay := by
    rw [modPort_ports, upd_self]
    rfl
  rw [parkPort, sendStation_active active, modPort_modPort, leaveAdmitted_unserved (by exact unserved), Part.leaveNotices, relay, modPort_ports,
    upd_upd]
  rfl

/-! ### Entry to QUIET (R197, R105, R112) -/

/-- R105, R112: what entry to QUIET makes of a port's record. -/
def PortRec.quieted (r : PortRec) : PortRec :=
  if r.admission = .admitted then r.parkedNow else if r.admission = .challenged then { r with admission := .listening } else r

/-- R105: the notices of a port at entry to QUIET. -/
def Part.quietNotices (s : Part) (p : Port) : List NoticeBody := if s.ports[p].admission = .admitted then s.leaveNotices p .parked .quiet else []

/-- R105, R112: what entry to QUIET has made of the part once the ports `l` are done. -/
structure Quieted (l : List Port) (s t : Part) : Prop where
  ports : ∀ p, t.ports[p] = if p ∈ l then s.ports[p].quieted else s.ports[p]
  contexts : ∀ p, t.prv.contexts[p] = if p ∈ l ∧ s.ports[p].admission = .challenged then none else s.prv.contexts[p]
  claims : ∀ p, t.fco.claims[p] = if p ∈ l ∧ s.ports[p].admission = .admitted then
    s.fco.claims[p].map fun k => { k with void := k.void <|> some .silent } else s.fco.claims[p]
  hlc : t.hlc = s.hlc.raised s.mtu.hall s.trk.pitch (l.flatMap s.quietNotices)
  states : ∀ f : Feed, t.fco.feeds[f].state = s.fco.feeds[f].state
  empty : (∀ f : Feed, s.fco.feeds[f].queue = []) → t.fco.feeds = s.fco.feeds ∧ t.fco.toTrk = s.fco.toTrk ∧ t.fco.notes = s.fco.notes
  counts : t.prv.counts = s.prv.counts
  readerContext : t.prv.readerContext = s.prv.readerContext
  psc : t.psc = s.psc
  trk : t.trk = s.trk
  sva : t.sva = s.sva
  mtu : t.mtu = s.mtu
  nvs : t.nvs = s.nvs

theorem Quieted.refl (s : Part) : Quieted [] s s where
  ports _ := by simp
  contexts _ := by simp
  claims _ := by simp
  hlc := rfl
  states _ := rfl
  empty _ := ⟨rfl, rfl, rfl⟩
  counts := rfl
  readerContext := rfl
  psc := rfl
  trk := rfl
  sva := rfl
  mtu := rfl
  nvs := rfl

theorem quietPort_quieted {s : Part} (active : s.active = true) (unserved : ∀ f : Feed, s.fco.feeds[f].state.lease? = none) (p : Port) :
    Quieted [p] s (quietPort p s) := by
  have other (h : s.ports[p].admission ≠ .admitted) (g : s.ports[p].admission ≠ .challenged) : Quieted [p] s s := {
    Quieted.refl s with
    ports q := by
      by_cases mine : q = p
      · subst mine
        rw [PortRec.quieted, if_neg h, if_neg g, ite_self]
      · rw [if_neg (by simpa using mine)]
    contexts q := (if_neg fun ⟨mine, is⟩ => g (List.mem_singleton.mp mine ▸ is)).symm
    claims q := (if_neg fun ⟨mine, is⟩ => h (List.mem_singleton.mp mine ▸ is)).symm
    hlc := by simp [Part.quietNotices, h, Hlc.raised, -Fin.getElem_fin] }
  unfold quietPort
  split
  · next is =>
    have notices : [p].flatMap s.quietNotices = s.leaveNotices p .parked .quiet := by
      simp [Part.quietNotices, is, -Fin.getElem_fin]
    rw [parkPort_unserved active (feedServing_none p unserved)]
    exact {
      ports q := by
        change (upd s.ports p PortRec.parkedNow)[q] = _
        by_cases mine : p = q
        · subst mine
          rw [upd_self, if_pos (List.mem_singleton_self p), PortRec.quieted, if_pos is]
        · rw [upd_ne _ _ mine, if_neg (by simpa using Ne.symm mine)]
      contexts q := (if_neg fun ⟨mine, c⟩ => by rw [List.mem_singleton.mp mine, is] at c; cases c).symm
      claims q := by
        change ((s.fco.voided p .silent).dropped p).claims[q] = _
        rw [dropped_claims]
        change (upd s.fco.claims p _)[q] = _
        by_cases mine : p = q
        · subst mine
          rw [upd_self, if_pos ⟨List.mem_singleton_self p, is⟩]
        · rw [upd_ne _ _ mine, if_neg fun ⟨e, _⟩ => mine (List.mem_singleton.mp e).symm]
      hlc := by rw [notices]; rfl
      states f := dropped_state (s.fco.voided p .silent) p f
      empty none := by
        have same : s.fco.departed p = s.fco.voided p .silent :=
          dropped_none fun f e he => by
            have none : (s.fco.voided p .silent).feeds[f].queue = [] := none f
            rw [none] at he
            cases he
        change (s.fco.departed p).feeds = _ ∧ (s.fco.departed p).toTrk = _ ∧ (s.fco.departed p).notes = _
        rw [same]
        exact ⟨rfl, rfl, rfl⟩
      counts := rfl
      readerContext := rfl
      psc := rfl
      trk := rfl
      sva := rfl
      mtu := rfl
      nvs := rfl }
  · next is =>
    have still : s.ports[p].admission ≠ .admitted := by rw [is]; decide
    exact {
      Quieted.refl s with
      ports q := by
        change (upd s.ports p fun r => { r with admission := .listening })[q] = _
        by_cases mine : p = q
        · subst mine
          rw [upd_self, if_pos (List.mem_singleton_self p), PortRec.quieted, if_neg still, if_pos is]
        · rw [upd_ne _ _ mine, if_neg (by simpa using Ne.symm mine)]
      contexts q := by
        refine (set_get s.prv.contexts p q none).trans ?_
        by_cases mine : p = q
        · subst mine
          rw [if_pos rfl, if_pos ⟨List.mem_singleton_self p, is⟩]
        · rw [if_neg mine, if_neg fun ⟨e, _⟩ => mine (List.mem_singleton.mp e).symm]
      claims q := (if_neg fun ⟨mine, a⟩ => still (List.mem_singleton.mp mine ▸ a)).symm
      hlc := by simp [Part.quietNotices, still, Hlc.raised, setAdmission, endContext, modPort, -Fin.getElem_fin] }
  · next h g => exact other h g

theorem Quieted.trans {l m : List Port} {s t u : Part} (apart : ∀ p ∈ l, p ∉ m) (hst : Quieted l s t) (htu : Quieted m t u) :
    Quieted (l ++ m) s u := by
  have untouched {p : Port} (hp : p ∈ m) : t.ports[p] = s.ports[p] := by rw [hst.ports, if_neg fun h => apart p h hp]
  have notices : m.flatMap t.quietNotices = m.flatMap s.quietNotices :=
    List.flatMap_congr fun p hp => by rw [Part.quietNotices, Part.leaveNotices, untouched hp]; rfl
  exact {
    ports p := by
      rw [htu.ports]
      by_cases hm : p ∈ m
      · rw [if_pos hm, untouched hm, if_pos (List.mem_append_right l hm)]
      · rw [if_neg hm, hst.ports]
        simp [hm]
    contexts p := by
      rw [htu.contexts]
      by_cases hm : p ∈ m
      · have out : p ∉ l := fun h => apart p h hm
        rw [untouched hm, hst.contexts]
        simp [hm, out]
      · rw [if_neg fun h => hm h.1, hst.contexts]
        simp [hm]
    claims p := by
      rw [htu.claims]
      by_cases hm : p ∈ m
      · have out : p ∉ l := fun h => apart p h hm
        rw [untouched hm, hst.claims]
        simp [hm, out]
      · rw [if_neg fun h => hm h.1, hst.claims]
        simp [hm]
    hlc := by rw [htu.hlc, hst.hlc, hst.mtu, hst.trk, notices, List.flatMap_append, Hlc.raised_append]
    states f := (htu.states f).trans (hst.states f)
    empty none := by
      obtain ⟨feeds, toTrk, notes⟩ := hst.empty none
      obtain ⟨feeds', toTrk', notes'⟩ := htu.empty fun f => by rw [feeds]; exact none f
      exact ⟨feeds'.trans feeds, toTrk'.trans toTrk, notes'.trans notes⟩
    counts := htu.counts.trans hst.counts
    readerContext := htu.readerContext.trans hst.readerContext
    psc := htu.psc.trans hst.psc
    trk := htu.trk.trans hst.trk
    sva := htu.sva.trans hst.sva
    mtu := htu.mtu.trans hst.mtu
    nvs := htu.nvs.trans hst.nvs }

theorem forEach_quietPort {l : List Port} {s : Part} (once : l.Nodup) (active : s.active = true)
    (unserved : ∀ f : Feed, s.fco.feeds[f].state.lease? = none) : Quieted l s (forEach l quietPort s) := by
  induction l generalizing s with
  | nil => exact .refl s
  | cons p l ih =>
    obtain ⟨new, once⟩ := List.nodup_cons.mp once
    have first := quietPort_quieted active unserved p
    have rest := ih (s := quietPort p s) once (by rw [Part.active, first.psc]; exact active) fun f => by rw [first.states]; exact unserved f
    exact first.trans (fun q hq => by rw [List.mem_singleton.mp hq]; exact new) rest

/-! ### The statement -/

theorem mayRest_iff {s : Part} : s.mayRest = true ↔ s.trk.line = .stopped ∧ (∀ f : Feed, s.fco.feeds[f].state.lease? = none) ∧
    s.nvs.queue = [] ∧ s.nvs.inFlight = none ∧ s.nvs.deferred = [] := by
  simp [Part.mayRest, and_assoc, -Fin.getElem_fin]

theorem serveQuiet_refused {s : Part} {tag : Byte} (serves : s.serves .quiet) (busy : s.trk.line ≠ .stopped ∨
    (∃ f : Feed, s.fco.feeds[f].state.lease?.isSome = true) ∨ s.nvs.queue ≠ [] ∨ s.nvs.inFlight.isSome = true ∨ s.nvs.deferred ≠ []) :
    serveQuiet s.hlc.nextHandle (s.entered .quiet tag []) = s.answered .quiet tag [] .wrongState [] := by
  have refused : (s.entered .quiet tag []).mayRest = false := by
    refine Bool.eq_false_iff.mpr fun h => ?_
    obtain ⟨stopped, unserved, queue, flight, deferred⟩ := mayRest_iff.mp h
    rcases busy with line | ⟨f, lease⟩ | queued | flying | marked
    · exact line stopped
    · rw [show s.fco.feeds[f].state.lease? = none from unserved f] at lease
      cases lease
    · exact queued queue
    · rw [show s.nvs.inFlight = none from flight] at flying
      cases flying
    · exact marked deferred
  rw [serveQuiet, refused, check_false, reply_entered serves.below]

/-- R197: an accepted QUIET. -/
theorem serveQuiet_rests {s : Part} (tag : Byte) (may : s.mayRest = true) : ∃ t,
    Quieted (List.finRange 12) { s.entered .quiet tag [] with psc := { s.psc with state := .quiet } } t ∧
      serveQuiet s.hlc.nextHandle (s.entered .quiet tag []) = reply s.hlc.nextHandle .done t := by
  have rests : (s.entered .quiet tag []).mayRest = true := may
  obtain ⟨-, unserved, -⟩ := mayRest_iff.mp may
  refine ⟨enterQuiet (s.entered .quiet tag []), forEach_quietPort (List.nodup_finRange 12) rfl unserved, ?_⟩
  rw [serveQuiet, rests, check_true]

theorem Hlc.raised_replies (h : Hlc) (hall : Stamp) (pitch : Word) (l : List NoticeBody) : (h.raised hall pitch l).replies = h.replies := by
  induction l generalizing h with
  | nil => rfl
  | cons b l ih => exact (ih _).trans (Hlc.enqueue_replies _ _)

theorem Hlc.reply_raised (n : Nat) (c : Code) (content : List Byte) (h : Hlc) (hall : Stamp) (pitch : Word) (l : List NoticeBody) :
    (h.raised hall pitch l).reply n c content = (h.reply n c content).raised hall pitch l := by
  induction l generalizing h with
  | nil => rfl
  | cons b l ih => exact (ih _).trans (by rw [Hlc.reply_enqueue]; rfl)

theorem wake_done {s : Part} (serves : s.serves .wake) (tag : Byte) : reply s.hlc.nextHandle .done (wakeUp .wake (s.entered .wake tag [])) =
    wakeUp .wake (s.answered .wake tag [] .done []) := by
  rw [wakeUp_eq, wakeUp_eq]
  split
  · next quiet =>
    rw [if_pos (c := (s.answered .wake tag [] .done []).psc.state = .quiet) quiet, reply_raise]
    refine congrArg (raise (.woken .wake)) ?_
    exact congrArg (fun t : Part => ({ t with psc := { s.psc with state := .run } } : Part)) (reply_entered serves.below .wake tag [] .done)
  · next other =>
    rw [if_neg (c := (s.answered .wake tag [] .done []).psc.state = .quiet) other, reply_entered serves.below]

/-- Settles O22: entry to RUN raises its notices in a row on an empty queue; QUIET parks or unsettles the ports one after the other; a
WAKE is the wake source itself. -/
theorem runIsEnteredAndQuietRests : Obligations.RunIsEnteredAndQuietRests := by
  unfold Obligations.RunIsEnteredAndQuietRests
  refine ⟨⟨fun s start supply empty => ?_, fun s other => ?_⟩, ⟨fun tag s serves stopped unserved queue flight deferred => ?_,
    fun tag s serves busy => ?_, fun tag => ?_⟩, fun tag s serves quiet => ?_, fun tag s serves run => ?_⟩
  · obtain ⟨v, value, entered⟩ := enterRun_eq s.part
    have gives : (if s.part.psc.state = .startUp ∧ s.part.psc.supwarn = false then enterRun s.part else s.part) =
        (s.part.running v).raises s.part.runNotices := by rw [if_pos ⟨start, supply⟩, entered]
    have few := runNotices_length s.part
    have room : s.part.hlc.notices.length + s.part.runNotices.length ≤ 32 := by
      rw [empty, List.length_nil]
      omega
    refine ⟨(s.part.running v).raises s.part.runNotices,
      gives_of_act (f := fun s => if s.psc.state = .startUp ∧ s.psc.supwarn = false then enterRun s else s) rfl gives, rfl, ?_,
      fun p => ⟨?_, value p, fun still => ?_⟩, rfl, rfl, rfl, rfl, rfl, rfl, rfl⟩
    · change s.part.hlc.raised s.part.mtu.hall s.part.trk.pitch s.part.runNotices = _
      rw [Hlc.raised_room _ _ _ room, empty, List.nil_append]
    · have ports : ((s.part.running v).raises s.part.runNotices).ports =
          each s.part.ports fun _ r => { r with linkTimer := s.part.timer Config.linkTime } := rfl
      rw [ports, each_get]
      rfl
    · change (true && (s.part.sva.holders[p].isEmpty || s.part.sva.draining[p])) = _
      rw [still, Bool.true_and, Bool.or_false]
  · have stays : ¬ (s.part.psc.state = .startUp ∧ s.part.psc.supwarn = false) := fun ⟨start, supply⟩ => by
      rcases other with h | h
      · exact h start
      · rw [supply] at h
        cases h
    exact gives_of_act (f := fun s => if s.psc.state = .startUp ∧ s.psc.supwarn = false then enterRun s else s) rfl (if_neg stays)
  · have may := mayRest_iff.mpr ⟨stopped, unserved, queue, flight, deferred⟩
    obtain ⟨t, quieted, served⟩ := serveQuiet_rests tag may
    have every (p : Port) : p ∈ List.finRange 12 := List.mem_finRange p
    have answered : (s.part.hlc.entered .quiet tag [] .dispatched).reply s.part.hlc.nextHandle .done [] =
        s.part.hlc.answered .quiet tag [] .done [] := Hlc.reply_entered serves.below _ _ _ _ _
    have hlc : t.hlc.reply s.part.hlc.nextHandle .done [] =
        (s.part.hlc.answered .quiet tag [] .done []).raised s.part.mtu.hall s.part.trk.pitch
          ((List.finRange 12).flatMap s.part.quietNotices) := by
      rw [quieted.hlc, Hlc.reply_raised]
      exact congrArg (Hlc.raised · _ _ _) answered
    refine ⟨_, gives_of_serve rfl serves rfl (Nat.zero_le _) served, quieted.psc,
      fun p => ⟨(quieted.ports p).trans (if_pos (every p)), (quieted.contexts p).trans ?_, (quieted.claims p).trans ?_⟩, ?_, hlc,
      quieted.empty, quieted.counts, quieted.readerContext, quieted.trk, quieted.sva, quieted.mtu, quieted.nvs⟩
    · simp only [every p, true_and]
      rfl
    · simp only [every p, true_and]
      rfl
    · exact (congrArg Hlc.replies hlc).trans (Hlc.raised_replies _ _ _ _)
  · exact gives_of_serve rfl serves rfl (Nat.zero_le _) (serveQuiet_refused serves busy)
  · exact onlyInRun_of_takeRequest (fun _ => rfl) rfl rfl (Nat.zero_le _)
  · refine gives_of_serve rfl serves rfl (Nat.zero_le _) ((wake_done serves tag).trans ?_)
    rw [wakeUp_eq, if_pos (show (s.part.answered .wake tag [] .done []).psc.state = .quiet from quiet)]
    rfl
  · refine gives_of_serve rfl serves rfl (Nat.zero_le _) ((wake_done serves tag).trans ?_)
    rw [wakeUp_eq, if_neg]
    exact fun h => nomatch run.symm.trans h

end Sys2Proof.Machine
end

section
/-! TRK's and FCO's restart (R24, R79): the settling of TrackAndFeedsRestart. -/

namespace Sys2Proof.Machine

/-! ### TRK (R24, R39) -/

/-- R2: TRK with the stored geometry loaded, if the track is empty. -/
def Trk.loading (t : Trk) (line : Geometry) : Trk :=
  { t with
    geometry := if t.track = [] then line else t.geometry
    geometryPending := if t.track = [] then false else t.geometryPending }

theorem loadGeometry_eq (s : Part) : loadGeometry s = { s with trk := s.trk.loading s.nvs.line } := by
  rw [loadGeometry, Trk.loading]
  by_cases empty : s.trk.track = []
  · rw [if_pos (by rw [empty]; rfl), if_pos empty, if_pos empty]
  · rw [if_neg (by simpa using empty), if_neg empty, if_neg empty]

theorem Record.cross_eq (r : Record) : r.cross =
    { r with crossed := true, fill := r.fill.map fun f => { f with result := if f.result = .pending then .fault else f.result } } := by
  have each (f : Fill) : (if f.pending then { f with result := .fault } else f) = { f with result := if f.result = .pending then .fault else f.result } := by
    rw [Fill.pending]
    by_cases h : f.result = .pending <;> simp [h]
  rw [Record.cross]
  simp only [each]

/-! ### One feed in a restart (R79) -/

theorem forEach_askTrk (l : List FillRequest) (s : Part) : forEach l askTrk s = { s with fco := { s.fco with toTrk := s.fco.toTrk ++ l } } := by
  induction l generalizing s with
  | nil => simp
  | cons m l ih =>
    rw [forEach_cons, ih]
    simp [askTrk]

/-- R60, R79: what a restart sends TRK for a feed: for its lease or grant, and for every queued entry. -/
def Fco.endings (c : Fco) (f : Feed) : List FillRequest :=
  restartRequest f c.feeds[f].state ++ c.feeds[f].queue.map fun e => releaseRequest f e.port e.container e.remnant

/-- A feed is DRAINING for the port. -/
def FeedState.drains (x : FeedState) (p : Port) : Prop := ∃ l, x = .draining l ∧ l.port = p

/-- R79: what FCO's restart has made of the part once the feeds `l` are done. -/
structure Restarted (l : List Feed) (s t : Part) : Prop where
  feeds : ∀ f : Feed, t.fco.feeds[f] = if f ∈ l then { state := .closed, cfg := s.nvs.feeds[f], queue := [], closing := none } else s.fco.feeds[f]
  toTrk : t.fco.toTrk = s.fco.toTrk ++ l.flatMap s.fco.endings
  claims : t.fco.claims = s.fco.claims
  notes : t.fco.notes = s.fco.notes
  toFco : t.fco.toFco = s.fco.toFco
  still : ∀ p : Port, s.sva.draining[p] = false → t.sva.draining[p] = false
  ended : ∀ p : Port, (∃ f ∈ l, s.fco.feeds[f].state.drains p) → t.sva.draining[p] = false
  holders : t.sva.holders = s.sva.holders
  ports : t.ports = s.ports
  notices : t.hlc.notices = s.hlc.notices
  psc : t.psc = s.psc
  trk : t.trk = s.trk
  mtu : t.mtu = s.mtu
  prv : t.prv = s.prv
  nvs : t.nvs = s.nvs

theorem Restarted.refl (s : Part) : Restarted [] s s where
  feeds _ := by simp
  toTrk := by simp
  claims := rfl
  notes := rfl
  toFco := rfl
  still _ h := h
  ended p := by
    rintro ⟨f, hf, -⟩
    cases hf
  holders := rfl
  ports := rfl
  notices := rfl
  psc := rfl
  trk := rfl
  mtu := rfl
  prv := rfl
  nvs := rfl

theorem Restarted.trans {l m : List Feed} {s t u : Part} (apart : ∀ f ∈ l, f ∉ m) (hst : Restarted l s t) (htu : Restarted m t u) :
    Restarted (l ++ m) s u := by
  have untouched {f : Feed} (hf : f ∈ m) : t.fco.feeds[f] = s.fco.feeds[f] := by rw [hst.feeds, if_neg fun h => apart f h hf]
  have endings : m.flatMap t.fco.endings = m.flatMap s.fco.endings :=
    List.flatMap_congr fun f hf => by rw [Fco.endings, Fco.endings, untouched hf]
  exact {
    feeds f := by
      rw [htu.feeds]
      by_cases hm : f ∈ m
      · rw [if_pos hm, if_pos (List.mem_append_right l hm), hst.nvs]
      · rw [if_neg hm, hst.feeds]
        simp [hm]
    toTrk := by rw [htu.toTrk, hst.toTrk, endings, List.flatMap_append, List.append_assoc]
    claims := htu.claims.trans hst.claims
    notes := htu.notes.trans hst.notes
    toFco := htu.toFco.trans hst.toFco
    still p h := htu.still p (hst.still p h)
    ended p := by
      rintro ⟨f, hf, drains⟩
      rcases List.mem_append.mp hf with hl | hm
      · exact htu.still p (hst.ended p ⟨f, hl, drains⟩)
      · exact htu.ended p ⟨f, hm, by rw [untouched hm]; exact drains⟩
    holders := htu.holders.trans hst.holders
    ports := htu.ports.trans hst.ports
    notices := htu.notices.trans hst.notices
    psc := htu.psc.trans hst.psc
    trk := htu.trk.trans hst.trk
    mtu := htu.mtu.trans hst.mtu
    prv := htu.prv.trans hst.prv
    nvs := htu.nvs.trans hst.nvs }

/-! What the end of a drain and replies leave. -/

theorem replyAll_notices (o : List Nat) (c : Code) (s : Part) : (replyAll o c s).hlc.notices = s.hlc.notices :=
  forEach_leaves (fun s => s.hlc.notices) (fun h => reply h c) (fun h s => Hlc.reply_notices h c [] s.hlc) o s

theorem settleLockouts_notices (p : Port) (s : Part) : (settleLockouts p s).hlc.notices = s.hlc.notices :=
  forEach_leaves (fun s => s.hlc.notices) (fun k : Lockout => reply k.request .done) (fun k s => Hlc.reply_notices k.request .done [] s.hlc) _ _

theorem drainEnds_notices (p : Port) (s : Part) : (drainEnds p s).hlc.notices = s.hlc.notices := settleLockouts_notices p _

theorem drainEnds_sva (p : Port) (s : Part) :
    (drainEnds p s).sva.holders = s.sva.holders ∧ (drainEnds p s).sva.draining = s.sva.draining.set p false := by
  rw [drainEnds, settleLockouts_sva]
  exact ⟨rfl, rfl⟩

theorem drainEnds_draining (p q : Port) (s : Part) : (drainEnds p s).sva.draining[q] = if p = q then false else s.sva.draining[q] := by
  rw [(drainEnds_sva p s).2, set_get]

/-- R79: the part with a feed's endings sent, its queue empty and the feed CLOSED. -/
def Part.feedEnded (s : Part) (f : Feed) : Part :=
  { s with fco := { s.fco with
      feeds := upd s.fco.feeds f fun r => { r with state := .closed, queue := [] }
      toTrk := s.fco.toTrk ++ s.fco.endings f } }

/-- R79: the drain that a restart of a feed ends. -/
def Part.drainStopped (s : Part) (x : FeedState) : Part :=
  match x with
  | .draining l => drainEnds l.port s
  | _ => s

theorem restartFeed_eq (f : Feed) (s : Part) : restartFeed f s =
    modFeed f (fun r => { r with closing := none, cfg := s.nvs.feeds[f] })
      (replyAll s.fco.feeds[f].closing.toList .aborted ((s.feedEnded f).drainStopped s.fco.feeds[f].state)) := by
  have ended : setFeed f .closed (setQueue f [] (forEach s.fco.feeds[f].queue (releaseEntry f)
      (forEach (restartRequest f s.fco.feeds[f].state) askTrk s))) = s.feedEnded f := by
    rw [forEach_askTrk, forEach_releaseEntry, Part.feedEnded, Fco.endings, ← List.append_assoc]
    simp only [setFeed, setQueue, modFeed, upd_upd]
  rw [restartFeed, ended]
  cases s.fco.feeds[f].state with
  | draining l => simp only [Part.drainStopped, replyAll_nvs, drainEnds_nvs, Part.feedEnded]
  | closed | free | granted _ | held _ => simp only [Part.drainStopped, replyAll_nvs, Part.feedEnded]

theorem drainStopped_restarted (s : Part) (x : FeedState) :
    (s.drainStopped x).fco = s.fco ∧ (s.drainStopped x).sva.holders = s.sva.holders ∧ (s.drainStopped x).hlc.notices = s.hlc.notices ∧
      (s.drainStopped x).ports = s.ports ∧ (s.drainStopped x).psc = s.psc ∧ (s.drainStopped x).trk = s.trk ∧ (s.drainStopped x).mtu = s.mtu ∧
      (s.drainStopped x).prv = s.prv ∧ (s.drainStopped x).nvs = s.nvs := by
  cases x with
  | draining l => exact ⟨drainEnds_fco _ _, (drainEnds_sva _ _).1, drainEnds_notices _ _, drainEnds_ports _ _, drainEnds_psc _ _,
      drainEnds_trk _ _, drainEnds_mtu _ _, drainEnds_prv _ _, drainEnds_nvs _ _⟩
  | closed | free | granted _ | held _ => exact ⟨rfl, rfl, rfl, rfl, rfl, rfl, rfl, rfl, rfl⟩

theorem drainStopped_draining (s : Part) (x : FeedState) (p : Port) :
    (s.sva.draining[p] = false ∨ x.drains p) → (s.drainStopped x).sva.draining[p] = false := by
  rintro (h | ⟨l, rfl, rfl⟩)
  · cases x with
    | draining l =>
      rw [Part.drainStopped, drainEnds_draining, h, ite_self]
    | closed | free | granted _ | held _ => exact h
  · rw [Part.drainStopped, drainEnds_draining, if_pos rfl]

theorem restartFeed_restarted (f : Feed) (s : Part) : Restarted [f] s (restartFeed f s) := by
  obtain ⟨fco, holders, notices, ports, psc, trk, mtu, prv, nvs⟩ := drainStopped_restarted (s.feedEnded f) s.fco.feeds[f].state
  have draining := drainStopped_draining (s.feedEnded f) s.fco.feeds[f].state
  rw [restartFeed_eq]
  generalize (s.feedEnded f).drainStopped s.fco.feeds[f].state = t at *
  generalize replied : replyAll s.fco.feeds[f].closing.toList .aborted t = u
  have whole : (modFeed f (fun r => { r with closing := none, cfg := s.nvs.feeds[f] }) u).fco = { s.fco with
      feeds := upd s.fco.feeds f fun _ => { state := .closed, cfg := s.nvs.feeds[f], queue := [], closing := none }
      toTrk := s.fco.toTrk ++ s.fco.endings f } := by
    rw [modFeed, ← replied, replyAll_fco, fco]
    simp only [Part.feedEnded, upd_upd]
  have sva : u.sva = t.sva := by rw [← replied, replyAll_sva]
  exact {
    feeds g := by
      rw [whole]
      dsimp only
      rw [upd_get]
      by_cases mine : f = g
      · subst mine
        simp
      · rw [if_neg mine, if_neg (by simpa using Ne.symm mine)]
    toTrk := by rw [whole, List.flatMap_singleton]
    claims := by rw [whole]
    notes := by rw [whole]
    toFco := by rw [whole]
    still p h := by
      change u.sva.draining[p] = false
      rw [sva]
      exact draining p (.inl h)
    ended p := by
      rintro ⟨g, hg, drains⟩
      change u.sva.draining[p] = false
      rw [List.mem_singleton.mp hg] at drains
      rw [sva]
      exact draining p (.inr drains)
    holders := by
      change u.sva.holders = _
      rw [sva, holders]
      rfl
    ports := (congrArg Part.ports replied.symm).trans ((replyAll_ports _ _ _).trans ports)
    notices := (congrArg (fun s => s.hlc.notices) replied.symm).trans ((replyAll_notices _ _ _).trans notices)
    psc := (congrArg Part.psc replied.symm).trans ((replyAll_psc _ _ _).trans psc)
    trk := (congrArg Part.trk replied.symm).trans ((replyAll_trk _ _ _).trans trk)
    mtu := (congrArg Part.mtu replied.symm).trans ((replyAll_mtu _ _ _).trans mtu)
    prv := (congrArg Part.prv replied.symm).trans ((replyAll_prv _ _ _).trans prv)
    nvs := (congrArg Part.nvs replied.symm).trans ((replyAll_nvs _ _ _).trans nvs) }

theorem forEach_restartFeed {l : List Feed} {s : Part} (once : l.Nodup) : Restarted l s (forEach l restartFeed s) := by
  induction l generalizing s with
  | nil => exact .refl s
  | cons f l ih =>
    obtain ⟨new, once⟩ := List.nodup_cons.mp once
    exact (restartFeed_restarted f s).trans (fun g hg => by rw [List.mem_singleton.mp hg]; exact new) (ih once)

theorem Fco.endings_eq (c : Fco) (f : Feed) : c.endings f =
    (match c.feeds[f].state with
      | .granted l => [if l.remnant then .fillEnd l.container l.port f .incomplete else .clear l.container l.port]
      | .held l => [.fillEnd l.container l.port f .fault]
      | .draining l => [.fillEnd l.container l.port f .fault]
      | _ => []) ++
      c.feeds[f].queue.map fun e : QueueEntry =>
        if e.remnant then .fillEnd e.container e.port f .incomplete else .clear e.container e.port := by
  rw [Fco.endings]
  cases c.feeds[f].state <;> rfl

theorem restartFco_restarted (s : Part) : ∃ t, Restarted (List.finRange 4) s t ∧
    restartFco s = { t with fco := { t.fco with
      claims := each t.fco.claims fun _ k => k.map fun k => { k with void := some .silent }
      notes := Vector.replicate 12 none } } :=
  ⟨forEach (List.finRange 4) restartFeed s, forEach_restartFeed (List.nodup_finRange 4), by rw [restartFco]⟩

/-! ### The statement -/

/-- Settles O23: TRK's restart is one record change; FCO's takes the feeds one after the other, each closed, its endings sent. -/
theorem trackAndFeedsRestart : Obligations.TrackAndFeedsRestart := by
  unfold Obligations.TrackAndFeedsRestart
  refine ⟨fun s owed => ?_, fun s owed => ?_⟩
  · refine gives_of_act (f := fun s => if s.psc.owed.trk then restartTrk { s with psc.owed.trk := false } else s) rfl ?_
    dsimp only
    have crossed : (s.part.trk.track.map Record.cross = []) = (s.part.trk.track = []) := by simp
    rw [if_pos owed, restartTrk, loadGeometry_eq, Trk.loading]
    simp only [crossed]
    simp only [funext Record.cross_eq]
  · obtain ⟨t, ended, restarted⟩ := restartFco_restarted { s.part with psc.owed.fco := false }
    have gives : (if s.part.psc.owed.fco then restartFco { s.part with psc.owed.fco := false } else s.part) =
        restartFco { s.part with psc.owed.fco := false } := if_pos owed
    have closed (f : Feed) : t.fco.feeds[f] = { state := .closed, cfg := s.part.nvs.feeds[f], queue := [], closing := none } :=
      (ended.feeds f).trans (if_pos (List.mem_finRange f))
    refine ⟨_, gives_of_act (f := fun s => if s.psc.owed.fco then restartFco { s with psc.owed.fco := false } else s) rfl
        (gives.trans restarted), ended.psc,
      fun f => ⟨closed f, ?_⟩, fun p => ⟨?_, ?_, fun ⟨f, l, drains, port⟩ => ended.ended p ⟨f, List.mem_finRange f, l, drains, port⟩⟩,
      ended.toTrk.trans ?_, ended.toFco, ended.ports, ended.notices, ended.trk, ended.mtu, ended.prv, ended.nvs, ended.holders⟩
    · change (t.active && t.fco.feeds[f].state.permits) = false
      rw [closed]
      exact Bool.and_false _
    · change (Vector.replicate 12 (none : Option LateNote))[p] = none
      simp
    · change (each t.fco.claims _)[p] = _
      rw [each_get, ended.claims]
    · exact congrArg (s.part.fco.toTrk ++ ·) (List.flatMap_congr fun f _ => Fco.endings_eq _ f)

end Sys2Proof.Machine
end

section
/-! What FCO's operations on grants and queued entries keep (R57, R58, R60): each reservation is open or has been released, a grant goes
to its end target, frames go only to the ports of queued entries, and nothing else of the part changes. -/

namespace Sys2Proof.Machine

/-! ### Reservations open and released (R60) -/

/-- R60: the release of a feed's grant. -/
def FeedState.release (f : Feed) : FeedState → List FillRequest
  | .granted l => [releaseRequest f l.port l.container l.remnant]
  | _ => []

/-- R47: where a feed's state comes to rest once its grant has ended. -/
def FeedState.rest : FeedState → FeedState
  | .granted l => l.target.state
  | st => st

/-- R60: the releases of what a feed has reserved by grant and queue. -/
def FeedRec.openings (f : Feed) (r : FeedRec) : List FillRequest :=
  r.state.release f ++ r.queue.map fun e => releaseRequest f e.port e.container e.remnant

/-- How often a request has been sent TRK or is still owed by a grant or queued entry. -/
def Fco.owes (c : Fco) (m : FillRequest) : Nat := c.toTrk.count m + ∑ f : Feed, (c.feeds[f].openings f).count m

/-- A queued entry is that of port p. -/
def Fco.queues (c : Fco) (p : Port) : Prop := ∃ f : Feed, ∃ e ∈ c.feeds[f].queue, e.port = p

/-- Grants and queued entries ended from `s` to `t`, the claims of the ports `L` marked void. -/
structure Departs (L : List Port) (s t : Part) : Prop where
  sends : s.fco.toTrk <+: t.fco.toTrk
  owes : ∀ m, t.fco.owes m = s.fco.owes m
  feeds : ∀ f : Feed, t.fco.feeds[f] = { s.fco.feeds[f] with queue := t.fco.feeds[f].queue, state := t.fco.feeds[f].state }
  rests : ∀ f : Feed, t.fco.feeds[f].state.rest = s.fco.feeds[f].state.rest
  queued : ∀ p, t.fco.queues p → s.fco.queues p
  claims : ∀ p : Port, t.fco.claims[p] = if p ∈ L then s.fco.claims[p].map fun k => { k with void := k.void <|> some .silent } else s.fco.claims[p]
  ports : ∀ p : Port, t.ports[p] = { s.ports[p] with sent := t.ports[p].sent }
  silent : ∀ p : Port, s.ports[p].link = false ∨ ¬ s.fco.queues p → t.ports[p].sent = s.ports[p].sent
  psc : t.psc = s.psc
  hlc : t.hlc = s.hlc
  prv : t.prv = s.prv
  trk : t.trk = s.trk
  sva : t.sva = s.sva
  mtu : t.mtu = s.mtu
  nvs : t.nvs = s.nvs

theorem Departs.refl (s : Part) : Departs [] s s where
  sends := List.prefix_rfl
  owes _ := rfl
  feeds _ := rfl
  rests _ := rfl
  queued _ := id
  claims _ := rfl
  ports _ := rfl
  silent _ _ := rfl
  psc := rfl
  hlc := rfl
  prv := rfl
  trk := rfl
  sva := rfl
  mtu := rfl
  nvs := rfl

/-- A void mark stands beside the one it is given again. -/
theorem voidMark_twice (k : Option Claim) (v : Void) :
    (k.map fun k => { k with void := k.void <|> some v }).map (fun k => { k with void := k.void <|> some v }) =
      k.map fun k => { k with void := k.void <|> some v } := by
  cases k with
  | none => rfl
  | some k =>
    obtain ⟨f, c, d, void⟩ := k
    cases void <;> rfl

theorem Departs.trans {L M : List Port} {s t u : Part} (hst : Departs L s t) (htu : Departs M t u) : Departs (L ++ M) s u where
  sends := hst.sends.trans htu.sends
  owes m := (htu.owes m).trans (hst.owes m)
  feeds f := by rw [htu.feeds f, hst.feeds f]
  rests f := (htu.rests f).trans (hst.rests f)
  queued p h := hst.queued p (htu.queued p h)
  claims p := by
    rw [htu.claims, hst.claims]
    by_cases hl : p ∈ L
    · by_cases hm : p ∈ M
      · simp only [hl, hm, List.mem_append, or_self, if_true]
        exact voidMark_twice _ _
      · simp only [hl, hm, List.mem_append, or_false, if_true, if_false]
    · simp only [hl, List.mem_append, false_or, if_false]
  ports p := by rw [htu.ports p, hst.ports p]
  silent p h := by
    refine (htu.silent p ?_).trans (hst.silent p h)
    refine h.imp (fun down => ?_) fun none queues => none (hst.queued p queues)
    rw [hst.ports p]
    exact down
  psc := htu.psc.trans hst.psc
  hlc := htu.hlc.trans hst.hlc
  prv := htu.prv.trans hst.prv
  trk := htu.trk.trans hst.trk
  sva := htu.sva.trans hst.sva
  mtu := htu.mtu.trans hst.mtu
  nvs := htu.nvs.trans hst.nvs

/-! ### One feed changes -/

/-- FCO with one feed changed and requests sent TRK. -/
def Fco.moved (c : Fco) (f : Feed) (r : FeedRec) (sent : List FillRequest) : Fco :=
  { c with feeds := upd c.feeds f fun _ => r, toTrk := c.toTrk ++ sent }

theorem owes_moved {c : Fco} {f : Feed} {r : FeedRec} {sent : List FillRequest}
    (perm : (sent ++ r.openings f).Perm (c.feeds[f].openings f)) (m : FillRequest) : (c.moved f r sent).owes m = c.owes m := by
  have others : ∑ g ∈ Finset.univ.erase f, ((c.moved f r sent).feeds[g].openings g).count m =
      ∑ g ∈ Finset.univ.erase f, (c.feeds[g].openings g).count m :=
    Finset.sum_congr rfl fun g hg => by rw [Fco.moved, upd_ne _ _ (Finset.ne_of_mem_erase hg).symm]
  have here : (c.moved f r sent).feeds[f] = r := upd_self _ _ _
  have same : sent.count m + (r.openings f).count m = (c.feeds[f].openings f).count m := by rw [← List.count_append, perm.count_eq]
  have sent : (c.moved f r sent).toTrk.count m = c.toTrk.count m + sent.count m := List.count_append
  rw [Fco.owes, Fco.owes, ← Finset.add_sum_erase _ _ (Finset.mem_univ f), ← Finset.add_sum_erase _ _ (Finset.mem_univ f), others, here, sent]
  omega

theorem moved_departs {s : Part} {f : Feed} {r : FeedRec} {sent : List FillRequest}
    (form : r = { s.fco.feeds[f] with queue := r.queue, state := r.state }) (rest : r.state.rest = s.fco.feeds[f].state.rest)
    (sub : ∀ e ∈ r.queue, ∃ x ∈ s.fco.feeds[f].queue, x.port = e.port) (perm : (sent ++ r.openings f).Perm (s.fco.feeds[f].openings f)) :
    Departs [] s { s with fco := s.fco.moved f r sent } := {
  Departs.refl s with
  sends := List.prefix_append _ _
  owes := owes_moved perm
  feeds g := by
    change (upd s.fco.feeds f fun _ => r)[g] = { s.fco.feeds[g] with
      queue := (upd s.fco.feeds f fun _ => r)[g].queue, state := (upd s.fco.feeds f fun _ => r)[g].state }
    by_cases mine : f = g
    · subst mine
      rw [upd_self]
      exact form
    · rw [upd_ne _ _ mine]
  rests g := by
    change (upd s.fco.feeds f fun _ => r)[g].state.rest = _
    by_cases mine : f = g
    · subst mine
      rw [upd_self]
      exact rest
    · rw [upd_ne _ _ mine]
  queued p := by
    rintro ⟨g, e, he, rfl⟩
    change e ∈ (upd s.fco.feeds f fun _ => r)[g].queue at he
    by_cases mine : f = g
    · subst mine
      rw [upd_self] at he
      obtain ⟨x, hx, port⟩ := sub e he
      exact ⟨f, x, hx, port⟩
    · rw [upd_ne _ _ mine] at he
      exact ⟨g, e, he, rfl⟩ }

theorem setNote_departs (p : Port) (n : Option LateNote) (s : Part) : Departs [] s (setNote p n s) := { Departs.refl s with }

theorem sendStation_departs {s : Part} {p : Port} (queued : s.fco.queues p) (x : StationOut) : Departs [] s (sendStation p x s) := {
  Departs.refl s with
  sends := by rw [sendStation_fco]
  owes _ := by rw [sendStation_fco]
  feeds _ := by rw [sendStation_fco]
  rests _ := by rw [sendStation_fco]
  queued _ := by rw [sendStation_fco]; exact id
  claims _ := by rw [sendStation_fco]; rfl
  ports q := sendStation_port p q x s
  silent q h := by
    rw [sendStation_eq]
    split
    · next out =>
      have up : s.ports[p].link = true := (Bool.and_eq_true_iff.mp out).2
      have other : p ≠ q := by
        rintro rfl
        rcases h with down | absent
        · rw [up] at down
          cases down
        · exact absent queued
      exact congrArg PortRec.sent (upd_ne _ _ other)
    · rfl
  psc := sendStation_psc p x s
  hlc := sendStation_hlc p x s
  prv := sendStation_prv p x s
  trk := sendStation_trk p x s
  sva := sendStation_sva p x s
  mtu := sendStation_mtu p x s
  nvs := sendStation_nvs p x s }

/-! ### The arbiter (R58, R59) -/

theorem sendStation_fcoWith (p : Port) (x : StationOut) (c : Fco) (s : Part) :
    sendStation p x { s with fco := c } = { sendStation p x s with fco := c } := by
  rw [sendStation_eq, sendStation_eq]
  by_cases out : (s.active && s.ports[p].link) = true
  · rw [if_pos out, if_pos (show (({ s with fco := c } : Part).active && s.ports[p].link) = true from out)]
    rfl
  · rw [if_neg out, if_neg (show ¬ (({ s with fco := c } : Part).active && s.ports[p].link) = true from out)]

theorem setQueue_queue (f : Feed) (q : List QueueEntry) (s : Part) : (setQueue f q s).fco.feeds[f] = { s.fco.feeds[f] with queue := q } :=
  upd_self _ _ _

theorem setQueue_queues (f : Feed) (e : QueueEntry) (l : List QueueEntry) (s : Part) : (setQueue f (e :: l) s).fco.queues e.port :=
  ⟨f, e, by rw [setQueue_queue]; exact List.mem_cons_self, rfl⟩

theorem setQueue_same (f : Feed) (s : Part) : setQueue f s.fco.feeds[f].queue s = s := by
  have same : upd s.fco.feeds f (fun r => { r with queue := s.fco.feeds[f].queue }) = s.fco.feeds := Vector.set_getElem_self _
  rw [setQueue, modFeed, same]

/-- R58: the head of the queue is removed, its reservation released and its port told. -/
theorem removed_departs (f : Feed) (e : QueueEntry) (l : List QueueEntry) (x : StationOut) (s : Part) :
    Departs [] (setQueue f (e :: l) s) (setQueue f l (sendStation e.port x (releaseEntry f e s))) := by
  have told := sendStation_departs (setQueue_queues f e l s) x
  have here := setQueue_queue f (e :: l) s
  rw [← sendStation_fco e.port x] at here
  have moved := moved_departs (s := sendStation e.port x (setQueue f (e :: l) s)) (f := f)
    (r := { s.fco.feeds[f] with queue := l }) (sent := [releaseRequest f e.port e.container e.remnant])
    (by rw [here]) (by rw [here]) (fun y hy => ⟨y, by rw [here]; exact List.mem_cons_of_mem e hy, rfl⟩)
    (by
      rw [here]
      exact (List.perm_middle (a := releaseRequest f e.port e.container e.remnant) (l₁ := s.fco.feeds[f].state.release f)).symm)
  have result : setQueue f l (sendStation e.port x (releaseEntry f e s)) = { sendStation e.port x (setQueue f (e :: l) s) with
      fco := (sendStation e.port x (setQueue f (e :: l) s)).fco.moved f { s.fco.feeds[f] with queue := l }
        [releaseRequest f e.port e.container e.remnant] } := by
    have released : sendStation e.port x (releaseEntry f e s) = { sendStation e.port x s with fco := (releaseEntry f e s).fco } :=
      sendStation_fcoWith _ _ _ s
    have queued : sendStation e.port x (setQueue f (e :: l) s) = { sendStation e.port x s with fco := (setQueue f (e :: l) s).fco } :=
      sendStation_fcoWith _ _ _ s
    have feeds : upd (upd s.fco.feeds f fun r => { r with queue := e :: l }) f (fun _ => { s.fco.feeds[f] with queue := l }) =
        upd s.fco.feeds f fun r => { r with queue := l } := (upd_upd _ _ _ _).trans (upd_congr rfl)
    rw [released, queued]
    simp only [setQueue, modFeed, releaseEntry, askTrk, Fco.moved, feeds]
  rw [result]
  exact told.trans moved

/-- R59: the head of the queue is granted. -/
theorem granted_departs {f : Feed} {s : Part} (free : s.fco.feeds[f].state = .free) (e : QueueEntry) (l : List QueueEntry) :
    Departs [] (setQueue f (e :: l) s) (grantEntry f e (setQueue f l s)) := by
  let k := (setQueue f l s).newGrant f e
  let x : StationOut := .grant f e.container k.granted
  have told := sendStation_departs (setQueue_queues f e l s) x
  have here := setQueue_queue f (e :: l) s
  rw [← sendStation_fco e.port x] at here
  have moved := moved_departs (s := sendStation e.port x (setQueue f (e :: l) s)) (f := f)
    (r := { s.fco.feeds[f] with queue := l, state := .granted k }) (sent := [])
    (by rw [here]) (by rw [here]; change FeedState.free = s.fco.feeds[f].state.rest; rw [free]; rfl)
      (fun y hy => ⟨y, by rw [here]; exact List.mem_cons_of_mem e hy, rfl⟩)
    (by
      rw [here]
      change (releaseRequest f e.port e.container e.remnant :: l.map fun e => releaseRequest f e.port e.container e.remnant).Perm
        (s.fco.feeds[f].state.release f ++ _)
      rw [free]
      exact List.Perm.refl _)
  have result : grantEntry f e (setQueue f l s) = setNote e.port none { sendStation e.port x (setQueue f (e :: l) s) with
      fco := (sendStation e.port x (setQueue f (e :: l) s)).fco.moved f { s.fco.feeds[f] with queue := l, state := .granted k } [] } := by
    have granted : grantEntry f e (setQueue f l s) = { sendStation e.port x s with
        fco := (setNote e.port none (setFeed f (.granted k) (setQueue f l s))).fco } := sendStation_fcoWith _ _ _ s
    have queued : sendStation e.port x (setQueue f (e :: l) s) = { sendStation e.port x s with fco := (setQueue f (e :: l) s).fco } :=
      sendStation_fcoWith _ _ _ s
    have feeds : upd (upd s.fco.feeds f fun r => { r with queue := e :: l }) f (fun _ => { s.fco.feeds[f] with queue := l, state := .granted k }) =
        upd (upd s.fco.feeds f fun r => { r with queue := l }) f fun r => { r with state := .granted k } :=
      ((upd_upd _ _ _ _).trans (upd_congr rfl)).trans (upd_upd _ _ _ _).symm
    rw [granted, queued]
    simp only [setNote, setFeed, setQueue, modFeed, Fco.moved, feeds, List.append_nil]
  rw [result]
  exact (told.trans moved).trans (setNote_departs _ _ _)

theorem offer_departs {f : Feed} (l : List QueueEntry) {s : Part} (free : s.fco.feeds[f].state = .free) :
    Departs [] (setQueue f l s) (offer f l s) := by
  induction l generalizing s with
  | nil => exact .refl _
  | cons e l ih =>
    have still (x : StationOut) : (sendStation e.port x (releaseEntry f e s)).fco.feeds[f].state = .free := by
      rw [sendStation_fco]
      exact free
    unfold offer
    split
    · exact (removed_departs f e l _ s).trans (ih (still _))
    · split
      · exact (removed_departs f e l _ s).trans (ih (still _))
      · exact granted_departs free e l

theorem arbitrate_departs (f : Feed) (s : Part) : Departs [] s (arbitrate f s) := by
  rw [arbitrate]
  split
  · next free =>
    have offered := offer_departs s.fco.feeds[f].queue free
    rwa [setQueue_same] at offered
  · exact .refl s

/-! ### A port leaves ADMITTED (R57) -/

theorem EndTarget.state_rest (t : EndTarget) : t.state.rest = t.state := by cases t <;> rfl

theorem EndTarget.state_release (t : EndTarget) (f : Feed) : t.state.release f = [] := by cases t <;> rfl

theorem endGrant_departs {f : Feed} {l : Lease} {s : Part} (granted : s.fco.feeds[f].state = .granted l) : Departs [] s (endGrant f l s) := by
  have moved := moved_departs (s := s) (f := f) (r := { s.fco.feeds[f] with state := l.target.state })
    (sent := [releaseRequest f l.port l.container l.remnant]) rfl
    (by rw [granted]; exact l.target.state_rest) (fun e he => ⟨e, he, rfl⟩)
    (by rw [FeedRec.openings, FeedRec.openings, granted, l.target.state_release]; exact List.Perm.refl _)
  have result : releaseGrant f l (setFeed f l.target.state s) = { s with
      fco := s.fco.moved f { s.fco.feeds[f] with state := l.target.state } [releaseRequest f l.port l.container l.remnant] } := by
    have feeds : upd s.fco.feeds f (fun r => { r with state := l.target.state }) =
        upd s.fco.feeds f fun _ => { s.fco.feeds[f] with state := l.target.state } := upd_congr rfl
    simp only [releaseGrant, setFeed, modFeed, askTrk, Fco.moved, feeds]
  rw [endGrant, result]
  exact moved.trans (arbitrate_departs f _)

theorem dropQueued_departs (p : Port) (s : Part) : Departs [] s (dropQueued p s) := by
  rw [dropQueued_eq, Fco.dropped]
  split
  · exact .refl s
  · next f _ =>
    have feeds : upd s.fco.feeds f (fun r => { r with queue := r.queue.filter (·.port != p) }) =
        upd s.fco.feeds f fun _ => { s.fco.feeds[f] with queue := s.fco.feeds[f].queue.filter (·.port != p) } := upd_congr rfl
    rw [feeds]
    refine moved_departs (f := f) (r := { s.fco.feeds[f] with queue := s.fco.feeds[f].queue.filter (·.port != p) }) rfl rfl
      (fun e he => ⟨e, (List.mem_filter.mp he).1, rfl⟩) ?_
    rw [FeedRec.openings, FeedRec.openings]
    refine List.perm_append_comm_assoc _ _ _ |>.trans (List.Perm.append_left _ ?_)
    rw [← List.map_append]
    exact (List.filter_append_perm (fun e : QueueEntry => e.port == p) _).map _

theorem voidClaim_departs (p : Port) (s : Part) : Departs [p] s (voidClaim p .silent s) := {
  Departs.refl s with
  claims q := by
    change (upd s.fco.claims p _)[q] = _
    by_cases mine : p = q
    · subst mine
      rw [upd_self, if_pos (List.mem_singleton_self p)]
    · rw [upd_ne _ _ mine, if_neg (by simpa using Ne.symm mine)] }

theorem withGrant_departs (p : Port) (s : Part) : Departs [] s (withGrant p endGrant s) := by
  unfold withGrant
  split
  · exact .refl s
  · next f _ =>
    split
    · next l granted => exact endGrant_departs granted
    · exact .refl s

theorem portLeft_departs (p : Port) (s : Part) : Departs [p] s (portLeft p s) :=
  ((voidClaim_departs p s).trans (dropQueued_departs p _)).trans (withGrant_departs p _)

theorem forEach_portLeft_departs (l : List Port) (s : Part) : Departs l s (forEach l portLeft s) := by
  induction l generalizing s with
  | nil => exact .refl s
  | cons p l ih => exact (portLeft_departs p s).trans (ih _)

end Sys2Proof.Machine
end

section
/-! SPX's and PRV's restart (R104, R119): the settling of PortsAndProofsRestart. -/

namespace Sys2Proof.Machine

/-! ### SPX (R104) -/

/-- R104: the part with SPX's records restarted, before FCO is told of the ports that were ADMITTED. -/
def Part.spxRestarted (s : Part) : Part :=
  { s with
    prv := { s.prv with contexts := Vector.replicate 12 none }
    ports := Vector.ofFn fun p : Port => { s.ports[p] with
      cfg := s.nvs.ports[p]
      admission := if s.ports[p].admission = .barred then .barred else .dark
      parked := false
      status := none
      link := if s.ports[p].admission = .barred then s.ports[p].link else false
      linkTimer := s.timer Config.linkTime
      relay := [] } }

theorem PortRec.restarted_eq (cfg : PortCfg) (t : Timer) (r : PortRec) : r.restarted cfg t = { r with
    cfg := cfg
    admission := if r.admission = .barred then .barred else .dark
    parked := false
    status := none
    link := if r.admission = .barred then r.link else false
    linkTimer := t
    relay := [] } := by
  rw [PortRec.restarted]
  by_cases barred : r.admission = .barred <;> simp [barred]

theorem restartSpx_eq (s : Part) : restartSpx s =
    forEach ((List.finRange 12).filter fun p : Port => s.ports[p].admission = .admitted) portLeft s.spxRestarted := by
  have same : (fun p : Port => s.ports[p].admission == .admitted) = fun p : Port => decide (s.ports[p].admission = .admitted) :=
    funext fun p => Bool.beq_eq_decide_eq _ _
  rw [restartSpx, same]
  simp only [each, PortRec.restarted_eq]
  rfl

/-- R60, R104: what SPX's restart has released once no port holds a grant or queued entry. -/
theorem Departs.released {L : List Port} {s t : Part} (departs : Departs L s t) (queues : ∀ f : Feed, t.fco.feeds[f].queue = [])
    (grants : ∀ (f : Feed) (l : Lease), t.fco.feeds[f].state ≠ .granted l) :
    (∀ f : Feed, t.fco.feeds[f] = { s.fco.feeds[f] with queue := [], state := s.fco.feeds[f].state.rest }) ∧
      ∃ released, t.fco.toTrk = s.fco.toTrk ++ released ∧
        released.Perm ((List.finRange 4).flatMap fun f : Feed => s.fco.feeds[f].openings f) := by
  have resting (f : Feed) : t.fco.feeds[f].state = s.fco.feeds[f].state.rest := by
    rw [← departs.rests f]
    cases state : t.fco.feeds[f].state with
    | granted l => exact absurd state (grants f l)
    | _ => rfl
  have none (f : Feed) : t.fco.feeds[f].openings f = [] := by
    rw [FeedRec.openings, queues f]
    cases state : t.fco.feeds[f].state with
    | granted l => exact absurd state (grants f l)
    | _ => rfl
  obtain ⟨released, sent⟩ := departs.sends
  refine ⟨fun f => ?_, released, sent.symm, List.perm_iff_count.mpr fun m => ?_⟩
  · rw [departs.feeds f, queues f, resting f]
  · have owed := departs.owes m
    have settled : ∑ f : Feed, (t.fco.feeds[f].openings f).count m = 0 :=
      Finset.sum_eq_zero fun f _ => by rw [none f, List.count_nil]
    have open' : ((List.finRange 4).flatMap fun f : Feed => s.fco.feeds[f].openings f).count m =
        ∑ f : Feed, (s.fco.feeds[f].openings f).count m := by
      rw [List.count_flatMap, Fin.sum_univ_def]
      rfl
    rw [Fco.owes, Fco.owes, settled, ← sent, List.count_append] at owed
    omega

theorem openings_eq (c : Fco) (f : Feed) : c.feeds[f].openings f =
    (match c.feeds[f].state with
      | .granted l => [if l.remnant then .fillEnd l.container l.port f .incomplete else .clear l.container l.port]
      | _ => []) ++
      c.feeds[f].queue.map fun e : QueueEntry =>
        if e.remnant then .fillEnd e.container e.port f .incomplete else .clear e.container e.port := by
  rw [FeedRec.openings]
  cases c.feeds[f].state <;> rfl

/-- A part whose robots hold nothing that needs an ADMITTED port, when no port is. -/
theorem Part.claimsBut.nothing {s : Part} (sound : s.claimsBut []) (out : ∀ p : Port, s.ports[p].admission ≠ .admitted) :
    (∀ f : Feed, s.fco.feeds[f].queue = []) ∧ ∀ (f : Feed) (l : Lease), s.fco.feeds[f].state ≠ .granted l := by
  have unneeding (p : Port) : ¬ s.fco.needs p := fun needs => absurd (sound.unneeding (out p) needs) (by simp)
  exact ⟨fun f => List.eq_nil_iff_forall_not_mem.mpr fun e he => unneeding e.port (.inl ⟨f, .inl ⟨e, he, rfl⟩⟩),
    fun f l granted => unneeding l.port (.inl ⟨f, .inr ⟨l, granted, rfl⟩⟩)⟩

theorem spxRestarted_port (s : Part) (p : Port) : s.spxRestarted.ports[p] = { s.ports[p] with
    cfg := s.nvs.ports[p]
    admission := if s.ports[p].admission = .barred then .barred else .dark
    parked := false
    status := none
    link := if s.ports[p].admission = .barred then s.ports[p].link else false
    linkTimer := s.timer Config.linkTime
    relay := [] } := by
  simp only [Part.spxRestarted, Fin.getElem_fin, Vector.getElem_ofFn]

/-- R104: the ports that FCO is told of. -/
def Part.admittedPorts (s : Part) : List Port := (List.finRange 12).filter fun p : Port => s.ports[p].admission = .admitted

theorem mem_admittedPorts (s : Part) (p : Port) : p ∈ s.admittedPorts ↔ s.ports[p].admission = .admitted := by
  simp [Part.admittedPorts, -Fin.getElem_fin]

/-- R104: SPX's restart of a part whose claims are sound leaves no grant or queued entry. -/
theorem spxRestarted_nothing {s : Part} (sound : s.claimsSound) :
    (∀ f : Feed, (forEach s.admittedPorts portLeft s.spxRestarted).fco.feeds[f].queue = []) ∧
      ∀ (f : Feed) (l : Lease), (forEach s.admittedPorts portLeft s.spxRestarted).fco.feeds[f].state ≠ .granted l := by
  have departs := forEach_portLeft_departs s.admittedPorts s.spxRestarted
  have claims : (forEach s.admittedPorts portLeft s.spxRestarted).claimsBut [] := by
    rw [Part.admittedPorts, ← restartSpx_eq]
    exact restartSpx_claims ((claimsSound_iff s).mp sound)
  refine claims.nothing fun p => ?_
  rw [departs.ports p, spxRestarted_port]
  dsimp only
  split <;> decide

/-- R104: a port with its link down or BARRED gets no frame as SPX restarts. -/
theorem spxRestarted_silent {s : Part} {p : Port} (quiet : s.ports[p].admission ≠ .barred ∨ s.claimsSound) :
    (forEach s.admittedPorts portLeft s.spxRestarted).ports[p].sent = s.ports[p].sent := by
  refine ((forEach_portLeft_departs s.admittedPorts s.spxRestarted).silent p ?_).trans (by rw [spxRestarted_port])
  by_cases barred : s.ports[p].admission = .barred
  · have sound := (claimsSound_iff s).mp (quiet.resolve_left (not_not.mpr barred))
    refine .inr ?_
    rintro ⟨f, e, he, rfl⟩
    exact absurd (sound.unneeding (by rw [barred]; decide) (.inl ⟨f, .inl ⟨e, he, rfl⟩⟩)) (by simp)
  · refine .inl ?_
    rw [spxRestarted_port]
    exact if_neg barred

/-! ### Leaving ADMITTED, and barring (R88, R89) -/

/-- R88: what a port's leaving ADMITTED has changed of the part: FCO, HLC, the port itself, and the frames sent. -/
structure Leaves (p : Port) (dest : Admission) (s t : Part) : Prop where
  port : t.ports[p] = { s.ports[p] with admission := dest, relay := [], sent := t.ports[p].sent }
  others : ∀ q : Port, p ≠ q → t.ports[q] = { s.ports[q] with sent := t.ports[q].sent }
  psc : t.psc = s.psc
  prv : t.prv = s.prv
  trk : t.trk = s.trk
  sva : t.sva = s.sva
  mtu : t.mtu = s.mtu
  nvs : t.nvs = s.nvs

theorem leaveAdmitted_leaves (p : Port) (dest : Admission) (why : LeaveCause) (s : Part) : Leaves p dest s (leaveAdmitted p dest why s) := by
  have departs := portLeft_departs p (setAdmission p dest s)
  rw [leaveAdmitted, dropRelay_eq]
  generalize portLeft p (setAdmission p dest s) = u at departs
  exact {
    port := by
      change (upd u.ports p fun r => { r with relay := [] })[p] = { s.ports[p] with
        admission := dest, relay := [], sent := (upd u.ports p fun r => { r with relay := [] })[p].sent }
      rw [upd_self, departs.ports p]
      change ({ (upd s.ports p fun r => { r with admission := dest })[p] with sent := _, relay := [] } : PortRec) = _
      rw [upd_self]
    others q other := by
      change (upd u.ports p fun r => { r with relay := [] })[q] = { s.ports[q] with
        sent := (upd u.ports p fun r => { r with relay := [] })[q].sent }
      rw [upd_ne _ _ other, departs.ports q]
      change ({ (upd s.ports p fun r => { r with admission := dest })[q] with sent := _ } : PortRec) = _
      rw [upd_ne _ _ other]
    psc := departs.psc
    prv := departs.prv
    trk := departs.trk
    sva := departs.sva
    mtu := departs.mtu
    nvs := departs.nvs }

theorem barPort_eq (p : Port) (s : Part) : barPort p s = s.barredAt p := by
  rw [barPort, Part.barredAt]
  by_cases admitted : s.ports[p].admission = .admitted
  · rw [if_pos (show (endContext p s).ports[p].admission = .admitted from admitted), if_pos admitted]
    have counts : (leaveAdmitted p .barred .barred (endContext p s)).prv.counts = s.prv.counts := by
      rw [(leaveAdmitted_leaves p .barred .barred (endContext p s)).prv]
      rfl
    simp only [counts]
    rfl
  · rw [if_neg (show ¬ (endContext p s).ports[p].admission = .admitted from admitted), if_neg admitted]
    rfl

/-- R115: outside SAVE a port is evaluated as `Part.portEvaluated` says. -/
theorem evalPort_eq {s : Part} (save : s.psc.state ≠ .save) (p : Port) : evalPort p s = s.portEvaluated p := by
  rw [evalPort, if_neg save, Part.portEvaluated, unbarPort_eq, barPort_eq, Part.portBarred]
  by_cases barred : s.ports[p].admission = .barred <;> by_cases reached : limitReached s.prv.stationLimit s.prv.counts[p] = true <;>
    simp [-Fin.getElem_fin, barred, reached]

/-! ### Every port evaluated (R113, R115) -/

/-- R89, R115: the admission state that a port's count and the station limit give it. -/
def Part.standing (s : Part) (p : Port) : Admission :=
  if s.portBarred p = true then .barred else if s.ports[p].admission = .barred then s.ports[p].released else s.ports[p].admission

/-- What the evaluation of the ports `l` has changed of the part: FCO, HLC, the frames sent, the ports' admission states and relay
queues, and proof contexts ended. -/
structure Evaluates (l : List Port) (s t : Part) : Prop where
  admission : ∀ p : Port, t.ports[p].admission = if p ∈ l then s.standing p else s.ports[p].admission
  ports : ∀ p : Port, t.ports[p] =
    { s.ports[p] with admission := t.ports[p].admission, relay := t.ports[p].relay, sent := t.ports[p].sent }
  contexts : ∀ p : Port, s.prv.contexts[p] = none → t.prv.contexts[p] = none
  prv : t.prv = { s.prv with contexts := t.prv.contexts }
  psc : t.psc = s.psc
  trk : t.trk = s.trk
  sva : t.sva = s.sva
  mtu : t.mtu = s.mtu
  nvs : t.nvs = s.nvs

theorem Evaluates.refl (s : Part) : Evaluates [] s s where
  admission _ := rfl
  ports _ := rfl
  contexts _ := id
  prv := rfl
  psc := rfl
  trk := rfl
  sva := rfl
  mtu := rfl
  nvs := rfl

theorem Evaluates.trans {l m : List Port} {s t u : Part} (apart : ∀ p ∈ l, p ∉ m) (hst : Evaluates l s t) (htu : Evaluates m t u) :
    Evaluates (l ++ m) s u := by
  have standing {p : Port} (hp : p ∈ m) : t.standing p = s.standing p := by
    have admission : t.ports[p].admission = s.ports[p].admission := (hst.admission p).trans (if_neg fun h => apart p h hp)
    have released : t.ports[p].released = s.ports[p].released := by rw [hst.ports p]; rfl
    have barred : t.portBarred p = s.portBarred p := by rw [Part.portBarred, hst.prv]; rfl
    rw [Part.standing, Part.standing, admission, released, barred]
  exact {
    admission p := by
      rw [htu.admission]
      by_cases hm : p ∈ m
      · rw [if_pos hm, if_pos (List.mem_append_right l hm), standing hm]
      · rw [if_neg hm, hst.admission]
        simp only [List.mem_append, hm, or_false]
    ports p := by rw [htu.ports p, hst.ports p]
    contexts p h := htu.contexts p (hst.contexts p h)
    prv := by rw [htu.prv, hst.prv]
    psc := htu.psc.trans hst.psc
    trk := htu.trk.trans hst.trk
    sva := htu.sva.trans hst.sva
    mtu := htu.mtu.trans hst.mtu
    nvs := htu.nvs.trans hst.nvs }

theorem endContext_contexts (p q : Port) (s : Part) (ended : s.prv.contexts[q] = none) : (endContext p s).prv.contexts[q] = none := by
  change (s.prv.contexts.set p none)[q] = _
  rw [set_get, ended, ite_self]

theorem standing_barred {s : Part} {p : Port} (reached : s.portBarred p = true) : s.standing p = .barred := if_pos reached

theorem evaluates_still {s : Part} {p : Port} (still : s.standing p = s.ports[p].admission) : Evaluates [p] s s := {
  Evaluates.refl s with
  admission q := by
    split
    · next mine => rw [List.mem_singleton.mp mine, still]
    · rfl }

theorem evaluates_leaves {s t : Part} {p : Port} (reached : s.portBarred p = true) (leaves : Leaves p .barred (endContext p s) t) :
    Evaluates [p] s t where
  admission q := by
    by_cases mine : p = q
    · subst mine
      rw [if_pos (List.mem_singleton_self p), leaves.port, standing_barred reached]
    · rw [if_neg (by simpa using Ne.symm mine), leaves.others q mine]
      rfl
  ports q := by
    by_cases mine : p = q
    · subst mine
      rw [leaves.port]
      rfl
    · rw [leaves.others q mine]
      rfl
  contexts q ended := by
    rw [leaves.prv]
    exact endContext_contexts p q s ended
  prv := by rw [leaves.prv]; rfl
  psc := leaves.psc
  trk := leaves.trk
  sva := leaves.sva
  mtu := leaves.mtu
  nvs := leaves.nvs

theorem evaluates_moved {s : Part} {p : Port} (v : Vector (Option Context) 12)
    (contexts : ∀ q : Port, s.prv.contexts[q] = none → v[q] = none) :
    Evaluates [p] s { s with prv := { s.prv with contexts := v }, ports := s.ports.set p { s.ports[p] with admission := s.standing p } } where
  admission q := by
    change (s.ports.set p { s.ports[p] with admission := s.standing p })[q].admission = _
    rw [set_get]
    by_cases mine : p = q
    · subst mine
      rw [if_pos rfl, if_pos (List.mem_singleton_self p)]
    · rw [if_neg mine, if_neg (by simpa using Ne.symm mine)]
  ports q := by
    change (s.ports.set p { s.ports[p] with admission := s.standing p })[q] = { s.ports[q] with
      admission := (s.ports.set p { s.ports[p] with admission := s.standing p })[q].admission
      relay := (s.ports.set p { s.ports[p] with admission := s.standing p })[q].relay
      sent := (s.ports.set p { s.ports[p] with admission := s.standing p })[q].sent }
    rw [set_get]
    by_cases mine : p = q
    · subst mine
      rw [if_pos rfl]
    · rw [if_neg mine]
  contexts := contexts
  prv := rfl
  psc := rfl
  trk := rfl
  sva := rfl
  mtu := rfl
  nvs := rfl

theorem Evaluates.noticed {l : List Port} {s t : Part} (h : Evaluates l s t) (b : NoticeBody) : Evaluates l s (t.noticed b) := { h with }

theorem portEvaluated_evaluates (p : Port) (s : Part) : Evaluates [p] s (s.portEvaluated p) := by
  unfold Part.portEvaluated
  dsimp only
  split
  · next reached =>
    have standing : s.standing p = .barred := standing_barred reached
    split
    · next barred => exact evaluates_still (standing.trans barred.symm)
    · rw [Part.barredAt]
      refine Evaluates.noticed ?_ _
      dsimp only
      split
      · exact evaluates_leaves reached (leaveAdmitted_leaves p .barred .barred (endContext p s))
      · have moved := evaluates_moved (s := s) (p := p) (s.prv.contexts.set p none) fun q ended => endContext_contexts p q s ended
        rw [standing] at moved
        exact moved
  · next free =>
    split
    · next barred =>
      have standing : s.standing p = s.ports[p].released := (if_neg free).trans (if_pos barred)
      have moved := evaluates_moved (s := s) (p := p) s.prv.contexts fun _ => id
      rw [standing] at moved
      exact moved
    · next open' => exact evaluates_still ((if_neg free).trans (if_neg open'))

theorem foldl_evaluates {l : List Port} {s : Part} (once : l.Nodup) : Evaluates l s (l.foldl Part.portEvaluated s) := by
  induction l generalizing s with
  | nil => exact .refl s
  | cons p l ih =>
    obtain ⟨new, once⟩ := List.nodup_cons.mp once
    exact (portEvaluated_evaluates p s).trans (fun q hq => by rw [List.mem_singleton.mp hq]; exact new) (ih once)

theorem forEach_evalPort {s : Part} (save : s.psc.state ≠ .save) (l : List Port) : forEach l evalPort s = l.foldl Part.portEvaluated s := by
  induction l generalizing s with
  | nil => rfl
  | cons p l ih =>
    rw [forEach_cons, evalPort_eq save, ih (by rw [(portEvaluated_evaluates p s).psc]; exact save)]
    rfl

/-- R113, R115: outside SAVE ports and reader are evaluated as `Part.evaluated` says. -/
theorem evalAll_eq {s : Part} (save : s.psc.state ≠ .save) : evalAll s = s.evaluated := by
  have ports := foldl_evaluates (s := s) (List.nodup_finRange 12)
  rw [evalAll, forEach_evalPort save, evalReader_eq (by rw [ports.psc]; exact save)]
  rfl

/-! ### The reader evaluated (R117, R118) -/

/-- R117, R118: what the evaluation of the reader leaves of the part. -/
structure ReaderJudged (s t : Part) : Prop where
  reader : t.sva.reader = .barred ↔ s.readerBarred = true
  timer : s.sva.reader = .barred → t.sva.reader = .barred → t.prv.barTimer = s.prv.barTimer
  context : s.prv.readerContext = none → t.prv.readerContext = none
  prv : t.prv = { s.prv with barTimer := t.prv.barTimer, readerContext := t.prv.readerContext }
  sva : t.sva = { s.sva with reader := t.sva.reader, readerSent := t.sva.readerSent }
  psc : t.psc = s.psc
  ports : t.ports = s.ports
  trk : t.trk = s.trk
  fco : t.fco = s.fco
  mtu : t.mtu = s.mtu
  nvs : t.nvs = s.nvs

theorem readerBarredNow_judged {s : Part} (reached : s.readerBarred = true) (free : s.sva.reader ≠ .barred) :
    ReaderJudged s s.readerBarredNow := by
  rw [Part.readerBarredNow]
  cases s.sva.reader with
  | challenging b r =>
    dsimp only
    split
    · exact ⟨iff_of_true rfl reached, fun h => absurd h free, fun _ => rfl, rfl, rfl, rfl, rfl, rfl, rfl, rfl, rfl⟩
    · exact ⟨iff_of_true rfl reached, fun h => absurd h free, fun _ => rfl, rfl, rfl, rfl, rfl, rfl, rfl, rfl, rfl⟩
  | ready | barred => exact ⟨iff_of_true rfl reached, fun h => absurd h free, id, rfl, rfl, rfl, rfl, rfl, rfl, rfl, rfl⟩

theorem readerEvaluated_judged (s : Part) : ReaderJudged s s.readerEvaluated := by
  rw [Part.readerEvaluated]
  split
  · next reached =>
    split
    · next barred => exact ⟨iff_of_true barred reached, fun _ _ => rfl, id, rfl, rfl, rfl, rfl, rfl, rfl, rfl, rfl⟩
    · next free => exact readerBarredNow_judged reached free
  · next unreached =>
    split
    · exact ⟨iff_of_false (fun h => nomatch h) unreached, fun _ h => (nomatch h), id, rfl, rfl, rfl, rfl, rfl, rfl, rfl, rfl⟩
    · next free => exact ⟨iff_of_false free unreached, fun h => absurd h free, id, rfl, rfl, rfl, rfl, rfl, rfl, rfl, rfl⟩

end Sys2Proof.Machine
end

section
/-! The settling of PortsAndProofsRestart (R104, R119). -/

namespace Sys2Proof.Machine

/-- R112, R113, R119: the part with PRV's keys and limits reloaded and every context ended. -/
def Part.prvLoaded (s : Part) : Part :=
  { s with prv := { s.prv with
      keys := s.nvs.keys
      contexts := Vector.replicate 12 none
      readerContext := none
      stationLimit := s.nvs.limits.stationLimit
      badgeLimit := s.nvs.limits.badgeLimit
      barPeriod := s.nvs.limits.barPeriod } }

theorem restartPrv_eq (s : Part) : restartPrv s = if s.psc.state = .save then s.prvLoaded else s.prvLoaded.evaluated := by
  change evalAll s.prvLoaded = _
  split
  · next save => exact evalAll_save save
  · next save => exact evalAll_eq save

theorem released_free (r : PortRec) : r.released ≠ .barred := by
  rw [PortRec.released]
  split
  · decide
  · split <;> decide

theorem standing_iff (s : Part) (p : Port) : s.standing p = .barred ↔ s.portBarred p = true := by
  rw [Part.standing]
  split
  · next reached => exact iff_of_true rfl reached
  · next free =>
    refine iff_of_false ?_ free
    split
    · exact released_free _
    · assumption

/-- R113, R115: what the evaluation of every port and then of the reader leaves of the part. -/
structure Judged (s t : Part) : Prop where
  admission : ∀ p : Port, t.ports[p].admission = s.standing p
  reader : t.sva.reader = .barred ↔ s.readerBarred = true
  timer : s.sva.reader = .barred → t.sva.reader = .barred → t.prv.barTimer = s.prv.barTimer
  contexts : ∀ p : Port, s.prv.contexts[p] = none → t.prv.contexts[p] = none
  context : s.prv.readerContext = none → t.prv.readerContext = none
  prv : t.prv = { s.prv with contexts := t.prv.contexts, barTimer := t.prv.barTimer, readerContext := t.prv.readerContext }
  sva : t.sva = { s.sva with reader := t.sva.reader, readerSent := t.sva.readerSent }
  psc : t.psc = s.psc
  trk : t.trk = s.trk
  mtu : t.mtu = s.mtu
  nvs : t.nvs = s.nvs

theorem evaluated_judged (s : Part) : Judged s s.evaluated := by
  have ports := foldl_evaluates (s := s) (List.nodup_finRange 12)
  rw [Part.evaluated]
  generalize (List.finRange 12).foldl Part.portEvaluated s = u at ports
  have reader := readerEvaluated_judged u
  have barred : u.readerBarred = s.readerBarred := by rw [Part.readerBarred, ports.prv]; rfl
  have timer : u.prv.barTimer = s.prv.barTimer := by rw [ports.prv]
  exact {
    admission p := by rw [reader.ports, ports.admission, if_pos (List.mem_finRange p)]
    reader := by rw [reader.reader, barred]
    timer was is := (reader.timer (by rw [ports.sva]; exact was) is).trans timer
    contexts p ended := by
      rw [reader.prv]
      exact ports.contexts p ended
    context ended := reader.context (by rw [ports.prv]; exact ended)
    prv := by rw [reader.prv, ports.prv]
    sva := by rw [reader.sva, ports.sva]
    psc := reader.psc.trans ports.psc
    trk := reader.trk.trans ports.trk
    mtu := reader.mtu.trans ports.mtu
    nvs := reader.nvs.trans ports.nvs }

/-- R104: SPX's restart. -/
theorem spx_restarts (s : State) (owed : s.part.psc.owed.spx = true) :
    let began : Part := { s.part with psc := { s.part.psc with owed := { s.part.psc.owed with spx := false } } }
    let t := forEach s.part.admittedPorts portLeft began.spxRestarted
    Gives .spxRestart s t ∧ Departs s.part.admittedPorts began.spxRestarted t ∧
      (∀ p : Port, s.part.ports[p].admission ≠ .barred ∨ s.part.claimsSound → t.ports[p].sent = s.part.ports[p].sent) ∧
      (s.part.claimsSound → (∀ f : Feed, t.fco.feeds[f].queue = []) ∧ ∀ (f : Feed) (l : Lease), t.fco.feeds[f].state ≠ .granted l) := by
  intro began t
  have gives : (if s.part.psc.owed.spx then restartSpx began else s.part) = t := (if_pos owed).trans (restartSpx_eq began)
  exact ⟨gives_of_act (f := fun s => if s.psc.owed.spx then restartSpx { s with psc.owed.spx := false } else s) rfl gives,
    forEach_portLeft_departs _ _, fun p quiet => spxRestarted_silent (s := began) quiet, fun sound => spxRestarted_nothing (s := began) sound⟩

/-- Settles O24: FCO is told of the ports that were ADMITTED one after the other, which keeps each reservation open or released; PRV's
evaluation of the ports and the reader is the model's own. -/
theorem portsAndProofsRestart : Obligations.PortsAndProofsRestart := by
  unfold Obligations.PortsAndProofsRestart
  refine ⟨fun s owed => ?_, fun s owed => ?_⟩
  · obtain ⟨gives, departs, silent, nothing⟩ := spx_restarts s owed
    refine ⟨gives, departs.psc, fun p => ⟨?_, silent p, ?_⟩, fun sound => ?_, departs.prv, departs.hlc, departs.trk, departs.sva, departs.mtu,
      departs.nvs⟩
    · refine (departs.ports p).trans ?_
      rw [spxRestarted_port]
      rfl
    · refine (departs.claims p).trans ?_
      simp only [mem_admittedPorts]
      rfl
    · obtain ⟨queues, grants⟩ := nothing sound
      obtain ⟨feeds, released, sent, perm⟩ := departs.released queues grants
      refine ⟨fun f => (feeds f).trans ?_, released, sent, perm.trans (List.Perm.of_eq (List.flatMap_congr fun f _ => openings_eq _ f))⟩
      refine congrArg (fun x => ({ s.part.fco.feeds[f] with queue := [], state := x } : FeedRec)) ?_
      change s.part.fco.feeds[f].state.rest = _
      cases s.part.fco.feeds[f].state <;> rfl
  · intro l loaded t
    let began : Part := { s.part with psc := { s.part.psc with owed := { s.part.psc.owed with prv := false } } }
    have gives : (if s.part.psc.owed.prv then restartPrv began else s.part) = t := (if_pos owed).trans (restartPrv_eq began)
    have cleared (p : Port) : loaded.prv.contexts[p] = none := by
      change (Vector.replicate 12 (none : Option Context))[p] = none
      simp
    have saved (save : s.part.psc.state = .save) : t = loaded := if_pos save
    have judged (save : s.part.psc.state ≠ .save) : Judged loaded t := by
      have run : t = loaded.evaluated := if_neg save
      rw [run]
      exact evaluated_judged loaded
    refine ⟨gives_of_act (f := fun s => if s.psc.owed.prv then restartPrv { s with psc.owed.prv := false } else s) rfl gives, ?_⟩
    clear_value t
    by_cases save : s.part.psc.state = .save
    · rw [saved save]
      exact ⟨rfl, rfl, rfl, rfl, rfl, rfl, rfl, rfl, cleared, fun h => absurd save h, fun _ => ⟨rfl, rfl, rfl, rfl⟩, fun _ _ => rfl, rfl, rfl,
        rfl, rfl⟩
    · replace judged := judged save
      refine ⟨judged.psc, ?_, judged.context rfl, ?_, ?_, ?_, ?_, ?_, fun p => judged.contexts p (cleared p), fun _ => ⟨fun p => ?_, judged.reader,
        fun p barred free => ?_⟩, fun h => absurd h save, judged.timer, judged.nvs, judged.mtu, judged.trk, ?_⟩
      · rw [judged.prv]
      · rw [judged.prv]
      · rw [judged.prv]
      · rw [judged.prv]
      · rw [judged.prv]
      · rw [judged.prv]
      · rw [judged.admission]
        exact standing_iff _ p
      · rw [judged.admission]
        exact (if_neg (Bool.eq_false_iff.mp free)).trans (if_pos barred)
      · rw [judged.sva]

end Sys2Proof.Machine
end

section
/-! SVA's, MTU's and NVS's restart (R146, R166, R179): the settling of SessionsMetersAndStoreRestart. -/

namespace Sys2Proof.Machine

/-! ### SVA and MTU (R146, R166) -/

theorem Reader.restarted_eq (r : Reader) : r.restarted = if r = .barred then .barred else .ready := by cases r <;> rfl

/-- R166: the part with MTU's clock at 0, its settings reloaded and the checkpoint timer started from 0. -/
def Part.mtuLoaded (s : Part) : Part :=
  startCheckpointTimer { zeroUptime s with mtu := { (zeroUptime s).mtu with
    cfg := s.nvs.meters, checkpointPeriod := s.nvs.limits.checkpointPeriod } }

theorem restartMtu_eq (s : Part) : restartMtu s = evalServiceAfresh s.mtuLoaded := rfl

theorem mtuLoaded_timer (s : Part) :
    s.mtuLoaded.mtu.checkpointTimer = some (BitVec.ofNat 48 (s.nvs.limits.checkpointPeriod * Config.second)) :=
  congrArg some (BitVec.zero_add _)

/-! ### NVS (R178, R179) -/

theorem forEach_convertDeferred_none {α : Type} (gone : List α) {s : Part} (none : s.nvs.deferred = []) :
    forEach gone (fun _ => convertDeferred) s = s := by
  induction gone with
  | nil => rfl
  | cons g gone ih => rw [forEach_cons, convertDeferred_none none, ih]

/-- R179: the jobs that a restart keeps. -/
def Job.kept (j : Job) : Bool :=
  match j.body with
  | .holdAdd _ => true
  | .holdRemove _ _ => true
  | .failcount _ _ _ _ => true
  | .checkpoint _ _ => true
  | _ => false

theorem Job.discarded_eq (j : Job) : j.discarded = !j.kept := by
  obtain ⟨body, origin⟩ := j
  cases body <;> rfl

/-- R179: the part with the waiting jobs that a restart discards answered and gone. -/
def Part.storeCleared (s : Part) : Part :=
  Part.repliedTo { s with nvs := { s.nvs with queue := s.nvs.queue.filter Job.kept } }
    ((s.nvs.queue.filter fun j => !j.kept).flatMap (·.origin)) .aborted

theorem restartNvs_eq (s : Part) :
    restartNvs s = forEach (s.nvs.queue.filter fun j => !j.kept) (fun _ => convertDeferred) s.storeCleared := by
  simp only [restartNvs, Job.discarded_eq, Bool.not_not, forEach_replyAll]
  rfl

theorem kept_gone_length (l : List Job) : (l.filter Job.kept).length + (l.filter fun j => !j.kept).length = l.length := by
  have := (List.filter_append_perm Job.kept l).length_eq
  rwa [List.length_append] at this

theorem restartNvs_undeferred {s : Part} (none : s.nvs.deferred = []) : restartNvs s = s.storeCleared := by
  rw [restartNvs_eq, forEach_convertDeferred_none _ (by exact none)]

theorem restartNvs_deferred {s : Part} (fits : s.nvs.queue.length ≤ 8) :
    restartNvs s =
      let freed := min (s.nvs.queue.filter fun j => !j.kept).length s.nvs.deferred.length
      { s.storeCleared with nvs := { s.nvs with
          queue := s.nvs.queue.filter Job.kept ++ (s.nvs.deferred.take freed).map fun d => ⟨s.deferredJob d, []⟩
          deferred := s.nvs.deferred.drop freed } } := by
  have room : s.storeCleared.nvs.queue.length + (s.nvs.queue.filter fun j => !j.kept).length ≤ 8 :=
    (kept_gone_length s.nvs.queue).trans_le fits
  rw [restartNvs_eq, forEach_convertDeferred _ _ room]
  rfl

/-! ### The statement -/

theorem owed_gives {c : Instr} {s : State} {owes : Owed → Bool} {clear : Part → Part} {restart : Part → Part} {t : Part}
    (hc : exec c s = act (fun s => if owes s.psc.owed then restart (clear s) else s) s) (owed : owes s.part.psc.owed = true)
    (ht : restart (clear s.part) = t) : Gives c s t :=
  gives_of_act (f := fun s => if owes s.psc.owed then restart (clear s) else s) hc ((if_pos owed).trans ht)

theorem unowed_gives {c : Instr} {s : State} {owes : Owed → Bool} {clear : Part → Part} {restart : Part → Part}
    (hc : exec c s = act (fun s => if owes s.psc.owed then restart (clear s) else s) s) (owed : owes s.part.psc.owed = false) :
    Gives c s s.part :=
  gives_of_act (f := fun s => if owes s.psc.owed then restart (clear s) else s) hc (if_neg (Bool.eq_false_iff.mp owed))

/-- MTU owes its restart no longer. -/
def Part.mtuBegun (s : Part) : Part := { s with psc := { s.psc with owed := { s.psc.owed with mtu := false } } }

/-- NVS owes its restart no longer. -/
def Part.nvsBegun (s : Part) : Part := { s with psc := { s.psc with owed := { s.psc.owed with nvs := false } } }

/-- Settles O25: SVA's restart is one record change; MTU's evaluates every port afresh over the reloaded settings; NVS's answers the jobs
it discards, and the places freed take the oldest deferred marks. -/
theorem sessionsMetersAndStoreRestart : Obligations.SessionsMetersAndStoreRestart := by
  unfold Obligations.SessionsMetersAndStoreRestart
  refine ⟨fun s owed => ?_, fun s owed => ?_, fun s owed => ?_, fun s => ⟨fun h => ?_, fun h => ?_, fun h => ?_, fun h => ?_, fun h => ?_, fun h => ?_,
    fun h => ?_⟩⟩
  · refine owed_gives (owes := Owed.sva) (clear := fun s => { s with psc.owed.sva := false }) (restart := restartSva) rfl owed ?_
    rw [restartSva]
    simp only [Reader.restarted_eq]
  · obtain ⟨v, value, evaluated⟩ := evalServiceAfresh_eq s.part.mtuBegun.mtuLoaded
    have restarted := (restartMtu_eq s.part.mtuBegun).trans evaluated
    refine ⟨_, owed_gives (owes := Owed.mtu) (clear := Part.mtuBegun) (restart := restartMtu) rfl owed restarted, rfl, rfl, rfl, rfl, rfl, rfl,
      mtuLoaded_timer s.part.mtuBegun, value, rfl, rfl, rfl, rfl⟩
  · intro n keeps gone gives
    have same : keeps = Job.kept := rfl
    refine ⟨fun none => ?_, fun fits => ?_⟩
    · refine owed_gives (owes := Owed.nvs) (clear := Part.nvsBegun) (restart := restartNvs) rfl owed
        ((restartNvs_undeferred (s := s.part.nvsBegun) none).trans ?_)
      rw [same, Part.storeCleared]
      have undeferred : s.part.nvsBegun.nvs = { s.part.nvs with deferred := [] } := by
        rw [← none]
        rfl
      rw [undeferred]
      rfl
    · refine owed_gives (owes := Owed.nvs) (clear := Part.nvsBegun) (restart := restartNvs) rfl owed
        ((restartNvs_deferred (s := s.part.nvsBegun) fits).trans ?_)
      have jobs : (fun d => (⟨s.part.nvsBegun.deferredJob d, []⟩ : Job)) = fun d => match d with
          | .checkpoint => ⟨.checkpoint none false, []⟩
          | .failcount who lifting => ⟨.failcount who (s.part.prv.count who) lifting false, []⟩ := by
        funext d
        cases d <;> rfl
      rw [same]
      dsimp only
      rw [jobs]
      rfl
  · exact unowed_gives (owes := Owed.trk) (clear := fun s => { s with psc.owed.trk := false }) (restart := restartTrk) rfl h
  · exact unowed_gives (owes := Owed.fco) (clear := fun s => { s with psc.owed.fco := false }) (restart := restartFco) rfl h
  · exact unowed_gives (owes := Owed.spx) (clear := fun s => { s with psc.owed.spx := false }) (restart := restartSpx) rfl h
  · exact unowed_gives (owes := Owed.prv) (clear := fun s => { s with psc.owed.prv := false }) (restart := restartPrv) rfl h
  · exact unowed_gives (owes := Owed.sva) (clear := fun s => { s with psc.owed.sva := false }) (restart := restartSva) rfl h
  · exact unowed_gives (owes := Owed.mtu) (clear := fun s => { s with psc.owed.mtu := false }) (restart := restartMtu) rfl h
  · exact unowed_gives (owes := Owed.nvs) (clear := fun s => { s with psc.owed.nvs := false }) (restart := restartNvs) rfl h

end Sys2Proof.Machine
end

section
/-! Line state, encoder edges and owed pitches (R4 to R7): the settling of LineRunsAndEdgesAreCounted. -/

namespace Sys2Proof.Machine

/-! ### LINE START and LINE STOP -/

theorem startLine_eq (s : Part) : startLine s = { s with trk := { s.trk with
    geometry := if s.trk.track = [] then s.nvs.line else s.trk.geometry
    geometryPending := if s.trk.track = [] then false else s.trk.geometryPending
    pulses := 0
    pitchesDue := 0
    straysDue := 0
    strayArmed := false
    line := .running } } := by
  rw [startLine, loadGeometry_eq]
  rfl

/-- A request replied DONE once TRK has changed. -/
theorem reply_trk_entered {s : Part} (below : s.hlc.handlesBelow) (k : ReqKind) (tag : Byte) (d : List Byte) (t : Trk) :
    reply s.hlc.nextHandle .done { s.entered k tag d with trk := t } = { s.answered k tag d .done [] with trk := t } :=
  congrArg (fun u : Part => ({ u with trk := t } : Part)) (reply_entered below k tag d .done)

/-! ### Edges and owed pitches -/

theorem countPulse_running {s : Part} (active : s.active = true) (running : s.trk.line = .running) : countPulse s = { s with trk :=
    if s.trk.pulses + 1 < s.trk.geometry.divider then { s.trk with pulses := s.trk.pulses + 1 }
    else { s.trk with pulses := 0, pitchesDue := s.trk.pitchesDue + 1 } } := by
  rw [countPulse, active]
  simp only [running]
  by_cases full : s.trk.geometry.divider ≤ s.trk.pulses + 1
  · rw [if_pos full, if_neg (Nat.not_lt.mpr full)]
    rfl
  · rw [if_neg full, if_pos (Nat.not_le.mp full)]
    rfl

theorem countPulse_stopped {s : Part} (active : s.active = true) (stopped : s.trk.line = .stopped) : countPulse s = { s with trk :=
    if s.trk.strays + 1 < s.trk.geometry.divider then { s.trk with strays := s.trk.strays + 1 }
    else { s.trk with strays := 0, straysDue := s.trk.straysDue + 1 } } := by
  rw [countPulse, active]
  simp only [stopped]
  by_cases full : s.trk.geometry.divider ≤ s.trk.strays + 1
  · rw [if_pos full, if_neg (Nat.not_lt.mpr full)]
    rfl
  · rw [if_neg full, if_pos (Nat.not_le.mp full)]
    rfl

theorem inactive_of {s : Part} (run : s.psc.state ≠ .run) (quiet : s.psc.state ≠ .quiet) : s.active = false := by
  simp [Part.active, run, quiet]

theorem ignoredPitch_idle {s : Part} (idle : (s.active && s.trk.line == .stopped) = false) : ignoredPitch s = s := by
  rw [ignoredPitch, idle]
  rfl

theorem ignoredPitch_stopped {s : Part} (active : s.active = true) (stopped : s.trk.line = .stopped) : ignoredPitch s =
    if 0 < s.trk.straysDue then ignorePitch { s with trk.straysDue := s.trk.straysDue - 1 }
    else if s.trk.geometry.divider ≤ s.trk.strays + 1 then ignorePitch { s with trk.strays := 0 }
    else s := by
  rw [ignoredPitch, active, stopped]
  rfl

theorem pitchEvent_idle {s : Part} (idle : (s.active && s.trk.line == .running) = false) (b : Bool) : pitchEvent b s = s := by
  rw [pitchEvent, idle]
  rfl

theorem pitchEvent_running {s : Part} (active : s.active = true) (running : s.trk.line = .running) (b : Bool) : pitchEvent b s =
    if 0 < s.trk.pitchesDue then takePitch b { s with trk.pitchesDue := s.trk.pitchesDue - 1 }
    else if s.trk.geometry.divider ≤ s.trk.pulses + 1 then takePitch b { s with trk.pulses := 0 }
    else s := by
  rw [pitchEvent, active, running]
  rfl

theorem running_not_stopped {s : Part} (running : s.trk.line = .running) : (s.active && s.trk.line == .stopped) = false := by
  rw [running]
  exact Bool.and_false _

theorem stopped_not_running {s : Part} (stopped : s.trk.line = .stopped) : (s.active && s.trk.line == .running) = false := by
  rw [stopped]
  exact Bool.and_false _

/-! ### The statement -/

/-- Settles O26: each command is one case of its definition: the line's state, the count against the divider, the pitch owed. -/
theorem lineRunsAndEdgesAreCounted : Obligations.LineRunsAndEdgesAreCounted := by
  unfold Obligations.LineRunsAndEdgesAreCounted
  refine ⟨⟨fun tag s serves stopped => ?_, fun tag s serves running => ?_, fun tag => ?_⟩,
    ⟨fun tag s serves running => ?_, fun tag s serves stopped => ?_, fun tag => ?_⟩,
    fun s active => ?_, fun s run quiet => ?_, fun s active stopped owed => ?_, fun s running => ?_, fun s b stopped => ?_,
    fun s b running none => ⟨fun short => ?_, fun active full => ?_⟩, fun s stopped none => ⟨fun short => ?_, fun active full => ?_⟩⟩
  · refine gives_of_serve rfl serves rfl (Nat.zero_le _) ?_
    have ok : ((s.part.entered .lineStart tag []).trk.line == .stopped) = true := beq_iff_eq.mpr stopped
    rw [serveLineStart, ok, check_true, startLine_eq]
    exact reply_trk_entered serves.below _ _ _ _
  · refine gives_of_serve rfl serves rfl (Nat.zero_le _) ?_
    have refused : ((s.part.entered .lineStart tag []).trk.line == .stopped) = false := by
      rw [show (s.part.entered .lineStart tag []).trk.line = .running from running]
      rfl
    rw [serveLineStart, refused, check_false, reply_entered serves.below]
  · exact onlyInRun_of_takeRequest (fun _ => rfl) rfl rfl (Nat.zero_le _)
  · refine gives_of_serve rfl serves rfl (Nat.zero_le _) ?_
    have ok : ((s.part.entered .lineStop tag []).trk.line == .running) = true := beq_iff_eq.mpr running
    rw [serveLineStop, ok, check_true, stopLine]
    exact reply_trk_entered serves.below _ _ _ _
  · refine gives_of_serve rfl serves rfl (Nat.zero_le _) ?_
    have refused : ((s.part.entered .lineStop tag []).trk.line == .running) = false := by
      rw [show (s.part.entered .lineStop tag []).trk.line = .stopped from stopped]
      rfl
    rw [serveLineStop, refused, check_false, reply_entered serves.below]
  · exact onlyInRun_of_takeRequest (fun _ => rfl) rfl rfl (Nat.zero_le _)
  · refine gives_of_act (f := countPulse) rfl ?_
    cases line : s.part.trk.line with
    | running => exact countPulse_running ((active_iff _).mpr active) line
    | stopped => exact countPulse_stopped ((active_iff _).mpr active) line
  · have inactive := inactive_of run quiet
    refine ⟨gives_of_act (f := countPulse) rfl ?_, gives_of_act (f := ignoredPitch) rfl (ignoredPitch_idle ?_), fun b =>
      gives_of_act (f := pitchEvent b) rfl (pitchEvent_idle ?_ b)⟩
    · rw [countPulse, inactive]
      rfl
    · rw [inactive, Bool.false_and]
    · rw [inactive, Bool.false_and]
  · have taken := (ignoredPitch_stopped ((active_iff _).mpr active) stopped).trans (if_pos owed)
    refine ⟨fun armed => gives_of_act (f := ignoredPitch) rfl (taken.trans ?_), fun disarmed => gives_of_act (f := ignoredPitch) rfl (taken.trans ?_)⟩
    · exact if_pos armed
    · exact if_neg (Bool.eq_false_iff.mp disarmed)
  · exact gives_of_act (f := ignoredPitch) rfl (ignoredPitch_idle (running_not_stopped running))
  · exact gives_of_act (f := pitchEvent b) rfl (pitchEvent_idle (stopped_not_running stopped) b)
  · refine gives_of_act (f := pitchEvent b) rfl ?_
    cases active : s.part.active with
    | false => exact pitchEvent_idle (by rw [active, Bool.false_and]) b
    | true => rw [pitchEvent_running active running, none, if_neg (Nat.lt_irrefl 0), if_neg (Nat.not_le.mpr short)]
  · have active := (active_iff _).mpr active
    let owing : Part := { s.part with trk := { s.part.trk with pulses := 0, pitchesDue := 1 } }
    have here : pitchEvent b s.part = takePitch b { s.part with trk := { s.part.trk with pulses := 0 } } := by
      rw [pitchEvent_running active running, none, if_neg (Nat.lt_irrefl 0), if_pos full]
    have there : pitchEvent b owing = takePitch b { s.part with trk := { s.part.trk with pulses := 0 } } := by
      refine ((pitchEvent_running (s := owing) active running b).trans (if_pos Nat.zero_lt_one)).trans ?_
      exact congrArg (fun n => takePitch b { s.part with trk := { s.part.trk with pulses := 0, pitchesDue := n } }) none.symm
    exact congrArg (fun t => Host.Outcome.next { s with part := t }) (here.trans there.symm)
  · refine gives_of_act (f := ignoredPitch) rfl ?_
    cases active : s.part.active with
    | false => exact ignoredPitch_idle (by rw [active, Bool.false_and])
    | true => rw [ignoredPitch_stopped active stopped, none, if_neg (Nat.lt_irrefl 0), if_neg (Nat.not_le.mpr short)]
  · have active := (active_iff _).mpr active
    let owing : Part := { s.part with trk := { s.part.trk with strays := 0, straysDue := 1 } }
    have here : ignoredPitch s.part = ignorePitch { s.part with trk := { s.part.trk with strays := 0 } } := by
      rw [ignoredPitch_stopped active stopped, none, if_neg (Nat.lt_irrefl 0), if_pos full]
    have there : ignoredPitch owing = ignorePitch { s.part with trk := { s.part.trk with strays := 0 } } := by
      refine ((ignoredPitch_stopped (s := owing) active stopped).trans (if_pos Nat.zero_lt_one)).trans ?_
      exact congrArg (fun n => ignorePitch { s.part with trk := { s.part.trk with strays := 0, straysDue := n } }) none.symm
    exact congrArg (fun t => Host.Outcome.next { s with part := t }) (here.trans there.symm)

end Sys2Proof.Machine
end

section
/-! The pitch event and the gate decision (R9 to R12, R21, R36 to R40): the settling of PitchEventMovesTheTrack and
RecordAtTheGateIsDecided. -/

namespace Sys2Proof.Machine

/-! ### Decisions (R36 to R38) -/

/-- Records decided at the gate from `s` to `t`: exit list, gate, totals 25 and 26, and HLC. -/
def Decided (s t : Part) : Prop := ∃ (exits : List ExitEntry) (gate : Bool) (timer : Timer) (M : Vector MeterRec 28) (h : Hlc),
  t = { s with
    trk := { s.trk with exits := exits, gate := gate, gateTimer := timer }
    mtu := { s.mtu with meters := M }
    hlc := h } ∧ ∀ i : Meter, i ≠ 25 → i ≠ 26 → M[i] = s.mtu.meters[i]

theorem Decided.refl (s : Part) : Decided s s := ⟨_, _, _, _, _, rfl, fun _ _ _ => rfl⟩

theorem Decided.trans {s t u : Part} (hst : Decided s t) (htu : Decided t u) : Decided s u := by
  obtain ⟨_, _, _, M, _, rfl, kept⟩ := hst
  obtain ⟨_, _, _, N, _, rfl, kept'⟩ := htu
  exact ⟨_, _, _, _, _, rfl, fun i h25 h26 => (kept' i h25 h26).trans (kept i h25 h26)⟩

theorem decision_total (d : Decision) : ∀ p : Port, d.meter ≠ meterA p := by cases d <;> decide

/-- R38: GATE follows the decision, which is REJECT when a cause is present. -/
theorem driveGate_eq (c : Causes) (s : Part) : driveGate c.decision s = { s with trk := { s.trk with
    gate := c.any, gateTimer := if c.any then s.timer Config.gateTime else none } } := by
  rw [Causes.decision]
  cases c.any <;> rfl

/-- R36 to R38: one record decided at the gate. -/
theorem decideAtGate_eq (r : Record) (s : Part) : ∃ (x : MeterRec) (l : Hlc),
    decideAtGate r s = { s with
      trk := { s.trk with
        exits := pushExit s.trk.exits (s.exitEntry r (s.causes r))
        gate := (s.causes r).any
        gateTimer := if (s.causes r).any then s.timer Config.gateTime else none }
      mtu := { s.mtu with meters := s.mtu.meters.set (s.causes r).decision.meter x }
      hlc := l } ∧
      (s.mtu.closed = false → s.mtu.meters[(s.causes r).decision.meter].full = false →
        s.mtu.meters[(s.causes r).decision.meter].value.toNat + 1 < 2 ^ 32 →
        x = ⟨s.mtu.meters[(s.causes r).decision.meter].value + 1, false⟩) := by
  obtain ⟨x, l, counted, risen⟩ := meterInc_total (decision_total (s.causes r).decision)
    { s with trk.exits := pushExit s.trk.exits (s.exitEntry r (s.causes r)) }
  refine ⟨x, l, ?_, risen⟩
  have driven : decideAtGate r s = driveGate (s.causes r).decision (meterInc (s.causes r).decision.meter
      { s with trk.exits := pushExit s.trk.exits (s.exitEntry r (s.causes r)) }) := rfl
  rw [driven, counted, driveGate_eq]
  rfl

theorem decideAtGate_decided (r : Record) (s : Part) : Decided s (decideAtGate r s) := by
  obtain ⟨x, l, decided, -⟩ := decideAtGate_eq r s
  refine ⟨_, _, _, _, _, decided, fun i h25 h26 => ?_⟩
  rw [set_get, if_neg]
  intro e
  cases d : (s.causes r).decision with
  | pass => exact h25 (by rw [← e, d]; rfl)
  | reject => exact h26 (by rw [← e, d]; rfl)

theorem forEach_decideAtGate (l : List Record) (s : Part) : Decided s (forEach l decideAtGate s) := by
  induction l generalizing s with
  | nil => exact .refl s
  | cons r l ih => exact (decideAtGate_decided r s).trans (ih _)

/-! ### Windows passed (R9 step 3, R21) -/

theorem departs_eq (t : Trk) (r : Record) : t.departs r = r.fill.filter fun f => decide
    (f.result = .pending ∧ (t.pitch - r.entry).toNat = t.geometry.windows[f.port].last + 1) := by
  rw [Trk.departs]
  congr 1
  funext f
  rw [Fill.pending, Bool.decide_and]
  rfl

theorem departs_some {t : Trk} {r : Record} {f : Fill} (departs : t.departs r = some f) : r.fill = some f :=
  (Option.filter_eq_some_iff.mp departs).1

/-- R21: a record as a pitch event leaves it. -/
def Trk.passedWindow (t : Trk) (r : Record) : Record := if (t.departs r).isSome then r.overrun else r

theorem passedWindow_eq (t : Trk) (r : Record) : t.passedWindow r = match t.departs r with
    | some f => { r with fill := some { f with result := .overrun } }
    | none => r := by
  rw [Trk.passedWindow]
  cases found : t.departs r with
  | none => rfl
  | some f =>
    rw [Record.overrun, departs_some found]
    rfl

theorem passedWindow_entry (t : Trk) (r : Record) : (t.passedWindow r).entry = r.entry := by
  rw [Trk.passedWindow]
  split <;> rfl

/-- R9 steps 2 and 3: the part with the pitch count advanced and the windows passed. -/
def Part.pitched (s : Part) : Part := departWindows { s with trk.pitch := s.trk.pitch + 1 }

/-- R9 step 3: TRK with the pitch count advanced. -/
def Trk.advanced (t : Trk) : Trk := { t with pitch := t.pitch + 1 }

/-- R9 step 4: the part before the records at the gate offset are decided: they have left the track. -/
def Part.arrived (s : Part) : Part := { s with
  trk := { s.trk with
    pitch := s.trk.pitch + 1
    track := (s.trk.track.map s.trk.advanced.passedWindow).filter fun r => (s.trk.pitch + 1 - r.entry).toNat ≠ s.trk.geometry.gate }
  fco := { s.fco with toFco := s.fco.toFco ++
    s.trk.track.filterMap fun r => (s.trk.advanced.departs r).map fun f => .windowLeft r.container f.port f.feed } }

/-- R9 step 4: the records that a pitch event brings to the gate offset. -/
def Trk.arrivals (t : Trk) : List Record :=
  (t.track.map t.advanced.passedWindow).filter fun r => (t.pitch + 1 - r.entry).toNat = t.geometry.gate

theorem passGate_pitched (s : Part) : passGate s.pitched = forEach s.trk.arrivals decideAtGate s.arrived := by
  have stays : (fun r : Record => s.trk.advanced.position r != s.trk.geometry.gate) =
      fun r => decide ((s.trk.pitch + 1 - r.entry).toNat ≠ s.trk.geometry.gate) :=
    funext fun r => by
      rw [bne, Bool.beq_eq_decide_eq, ← decide_not]
      rfl
  have passes : (fun r : Record => s.trk.advanced.position r == s.trk.geometry.gate) =
      fun r => decide ((s.trk.pitch + 1 - r.entry).toNat = s.trk.geometry.gate) :=
    funext fun r => Bool.beq_eq_decide_eq _ _
  rw [Part.arrived, Trk.arrivals, ← stays, ← passes]
  rfl

/-- R9: a pitch event that is taken. -/
theorem takePitch_eq (infeed : Bool) (s : Part) : takePitch infeed s =
    if infeed then enterContainer (forEach s.trk.arrivals decideAtGate s.arrived) else forEach s.trk.arrivals decideAtGate s.arrived := by
  rw [← passGate_pitched]
  rfl

/-- R11: a new record at the infeed, counted in meter 24. -/
theorem enterContainer_eq (s : Part) : ∃ (x : MeterRec) (l : Hlc), enterContainer s = { s with
    trk := { s.trk with
      track := s.trk.track ++ [⟨s.trk.nextContainer, s.trk.pitch, none, [], false⟩]
      nextContainer := if s.trk.nextContainer = 65535 then 1 else s.trk.nextContainer + 1 }
    mtu := { s.mtu with meters := s.mtu.meters.set 24 x }
    hlc := l } ∧
      (s.mtu.closed = false → s.mtu.meters[(24 : Meter)].full = false → s.mtu.meters[(24 : Meter)].value.toNat + 1 < 2 ^ 32 →
        x = ⟨s.mtu.meters[(24 : Meter)].value + 1, false⟩) := by
  obtain ⟨x, l, counted, risen⟩ := meterInc_total (m := 24) (by decide) { s with
    trk.track := s.trk.track ++ [⟨s.trk.nextContainer, s.trk.pitch, none, [], false⟩]
    trk.nextContainer := nextNumber s.trk.nextContainer }
  exact ⟨x, l, counted, risen⟩

theorem pitchEvent_owed {s : Part} (active : s.psc.state = .run ∨ s.psc.state = .quiet) (running : s.trk.line = .running)
    (owed : 0 < s.trk.pitchesDue) (b : Bool) : pitchEvent b s = takePitch b { s with trk.pitchesDue := s.trk.pitchesDue - 1 } :=
  (pitchEvent_running ((active_iff s).mpr active) running b).trans (if_pos owed)

/-- Settles O27: the track is what stays before the gate and what enters; decisions leave all but exit list, gate and two totals. -/
theorem pitchEventMovesTheTrack : Obligations.PitchEventMovesTheTrack := by
  unfold Obligations.PitchEventMovesTheTrack
  intro infeed s active running owed pitch departs
  let u : Part := { s.part with trk.pitchesDue := s.part.trk.pitchesDue - 1 }
  have taken := pitchEvent_owed active running owed infeed
  have fills : u.trk.advanced.departs = departs := funext fun r => departs_eq _ r
  have passed : u.trk.advanced.passedWindow = fun r => match departs r with
      | some f => { r with fill := some { f with result := .overrun } }
      | none => r := funext fun r => by rw [passedWindow_eq, fills]
  have track : u.arrived.trk.track = (s.part.trk.track.map fun r => match departs r with
      | some f => { r with fill := some { f with result := .overrun } }
      | none => r).filter fun r => (pitch - r.entry).toNat ≠ s.part.trk.geometry.gate := by
    rw [← passed]
    rfl
  have messages : u.arrived.fco.toFco = s.part.fco.toFco ++ s.part.trk.track.filterMap (fun r => (departs r).map fun f =>
      TrkMessage.windowLeft r.container f.port f.feed) := by
    rw [← fills]
    rfl
  rw [takePitch_eq] at taken
  obtain ⟨exits, gate, timer, M, h, decided, kept⟩ := forEach_decideAtGate u.trk.arrivals u.arrived
  rw [decided] at taken
  have others (i : Meter) (low : i.val < 25) : M[i] = s.part.mtu.meters[i] := by
    refine kept i ?_ ?_ <;> rintro rfl <;> exact absurd low (by decide)
  cases infeed with
  | false =>
    rw [if_neg Bool.false_ne_true] at taken
    refine ⟨_, gives_of_act rfl taken, rfl, rfl, track.trans (List.append_nil _).symm, rfl, messages, fun _ => ⟨fun h => (nomatch h), fun _ => ?_⟩,
      fun i low => others i (by omega), rfl, running, rfl, rfl, rfl, rfl, rfl, rfl⟩
    exact others 24 (by decide)
  | true =>
    rw [if_pos rfl] at taken
    obtain ⟨x, l, entered, risen⟩ := enterContainer_eq { u.arrived with
      trk := { u.arrived.trk with exits := exits, gate := gate, gateTimer := timer }
      mtu := { u.arrived.mtu with meters := M }
      hlc := h }
    rw [entered] at taken
    have total : M[(24 : Meter)] = s.part.mtu.meters[(24 : Meter)] := others 24 (by decide)
    refine ⟨_, gives_of_act rfl taken, rfl, rfl, congrArg (· ++ _) track, rfl, messages, fun closed => ⟨fun _ full below => ?_, fun h => (nomatch h)⟩,
      fun i low => ?_, rfl, running, rfl, rfl, rfl, rfl, rfl, rfl⟩
    · have up : x = ⟨M[(24 : Meter)].value + 1, false⟩ := risen closed (by rw [total]; exact full) (by rw [total]; omega)
      have here : (M.set 24 x)[(24 : Meter)] = x := (set_get M 24 24 x).trans (if_pos rfl)
      change (M.set 24 x)[(24 : Meter)].value = _
      rw [here, up, total]
    · have other : (24 : Meter) ≠ i := by
        rintro rfl
        exact absurd low (by decide)
      exact ((set_get M 24 i x).trans (if_neg other)).trans (others i (by omega))

/-! ### The record at the gate (R28, R29, R36) -/

section
variable (s : Part) (r : Record)

theorem causes_noFill : (s.causes r).noFill = true ↔ r.fill = none := Option.isNone_iff_eq_none

theorem causes_fillFailed : (s.causes r).fillFailed = true ↔ ∃ f, r.fill = some f ∧ f.result ≠ .filled := by
  change r.fill.any (·.result != .filled) = true ↔ _
  simp [Option.any_eq_true]

theorem causes_unreadable : (s.causes r).unreadable = true ↔ ∃ v ∈ r.verdicts, v.result = .unreadable := by
  change r.verdicts.any (·.result == .unreadable) = true ↔ _
  simp

theorem causes_rejected : (s.causes r).rejected = true ↔ ∃ v ∈ r.verdicts, v.result = .reject := by
  change r.verdicts.any (·.result == .reject) = true ↔ _
  simp

theorem causes_missing : (s.causes r).missing = true ↔ ∃ p : Port, 1 ≤ s.trk.geometry.cameras[p].offset ∧
    s.trk.geometry.cameras[p].offset < s.trk.geometry.gate ∧ s.trk.geometry.cameras[p].required = true ∧
    (∀ v ∈ r.verdicts, v.port ≠ p) ∧ ¬ (s.sva.holders[p] ≠ [] ∧ s.trk.geometry.cameras[p].bypass = true) := by
  change (List.finRange 12).any (s.missingAt r) = true ↔ _
  rw [List.any_eq_true]
  constructor
  · rintro ⟨p, -, h⟩
    refine ⟨p, ?_⟩
    simpa [-Fin.getElem_fin, Part.missingAt, Geometry.placed, hasVerdict, and_assoc, or_iff_not_imp_left] using h
  · rintro ⟨p, h⟩
    refine ⟨p, List.mem_finRange p, ?_⟩
    simpa [-Fin.getElem_fin, Part.missingAt, Geometry.placed, hasVerdict, and_assoc, or_iff_not_imp_left] using h

theorem causes_any : (s.causes r).any = true ↔ r.crossed = true ∨ (s.causes r).noFill = true ∨ (s.causes r).fillFailed = true ∨
    (s.causes r).unreadable = true ∨ (s.causes r).rejected = true ∨ (s.causes r).missing = true := by
  simp only [Causes.any, Bool.or_eq_true, or_assoc]
  rfl

end

/-- R21: the record at the gate offset once its window is passed. -/
theorem passedWindow_atGate {t : Trk} {r : Record} (at_ : (t.pitch - r.entry).toNat = t.geometry.gate) : t.passedWindow r =
    { r with fill := r.fill.map fun f =>
        if f.result = .pending ∧ t.geometry.windows[f.port].last + 1 = t.geometry.gate then { f with result := .overrun } else f } := by
  rw [Trk.passedWindow, departs_eq, at_]
  obtain ⟨c, e, fill, v, x⟩ := r
  cases fill with
  | none => rfl
  | some f =>
    by_cases passes : f.result = .pending ∧ t.geometry.gate = t.geometry.windows[f.port].last + 1
    · simp only [Option.filter_some, passes, and_self, decide_true, if_true, Option.isSome_some, Record.overrun, Option.map_some]
    · have other : ¬ (f.result = .pending ∧ t.geometry.windows[f.port].last + 1 = t.geometry.gate) := fun ⟨h, g⟩ => passes ⟨h, g.symm⟩
      simp only [Option.filter_some, passes, decide_false, Bool.false_eq_true, if_false, Option.isSome_none, Option.map_some, if_neg other]

/-- R9: the one record at the gate offset. -/
theorem arrivals_one {t : Trk} {before after : List Record} {r : Record} (track : t.track = before ++ r :: after)
    (at_ : (t.pitch + 1 - r.entry).toNat = t.geometry.gate)
    (others : ∀ x ∈ before ++ after, (t.pitch + 1 - x.entry).toNat ≠ t.geometry.gate) : t.arrivals = [t.advanced.passedWindow r] := by
  have none (l : List Record) (sub : ∀ x ∈ l, x ∈ before ++ after) :
      (l.map t.advanced.passedWindow).filter (fun r => decide ((t.pitch + 1 - r.entry).toNat = t.geometry.gate)) = [] := by
    refine List.filter_eq_nil_iff.mpr fun y hy => ?_
    obtain ⟨x, hx, rfl⟩ := List.mem_map.mp hy
    rw [passedWindow_entry, decide_eq_true_eq]
    exact others x (sub x hx)
  have here : decide ((t.pitch + 1 - (t.advanced.passedWindow r).entry).toNat = t.geometry.gate) = true := by
    rw [passedWindow_entry]
    exact decide_eq_true at_
  rw [Trk.arrivals, track, List.map_append, List.map_cons, List.filter_append, List.filter_cons, if_pos here,
    none before fun x hx => List.mem_append_left _ hx, none after fun x hx => List.mem_append_right _ hx, List.nil_append]

theorem arrivals_none {t : Trk} (others : ∀ x ∈ t.track, (t.pitch + 1 - x.entry).toNat ≠ t.geometry.gate) : t.arrivals = [] := by
  refine List.filter_eq_nil_iff.mpr fun y hy => ?_
  obtain ⟨x, hx, rfl⟩ := List.mem_map.mp hy
  rw [passedWindow_entry, decide_eq_true_eq]
  exact others x hx

/-- R11: what follows the decisions of a pitch event leaves the exit list, GATE and the totals 25 and 26. -/
theorem entered_keeps (infeed : Bool) (s : Part) : ∃ t, (if infeed then enterContainer s else s) = t ∧ t.trk.exits = s.trk.exits ∧
    t.trk.gate = s.trk.gate ∧ t.trk.gateTimer = s.trk.gateTimer ∧ ∀ m : Meter, m ≠ 24 → t.mtu.meters[m] = s.mtu.meters[m] := by
  cases infeed with
  | false => exact ⟨s, rfl, rfl, rfl, rfl, fun _ _ => rfl⟩
  | true =>
    obtain ⟨x, l, entered, -⟩ := enterContainer_eq s
    exact ⟨_, entered, rfl, rfl, rfl, fun m other => (set_get s.mtu.meters 24 m x).trans (if_neg (Ne.symm other))⟩

theorem Causes.decision_reject {c : Causes} (any : c.any = true) : c.decision = .reject := by rw [Causes.decision, any]; rfl

theorem Causes.decision_pass {c : Causes} (none : c.any = false) : c.decision = .pass := by rw [Causes.decision, none]; rfl

/-- Settles O28: the record at the gate is the only one decided; its causes are those of the state the pitch event finds. -/
theorem recordAtTheGateIsDecided : Obligations.RecordAtTheGateIsDecided := by
  unfold Obligations.RecordAtTheGateIsDecided
  refine ⟨⟨fun infeed s before after r active running owed => ?_, fun infeed s active running owed others => ?_⟩,
    fun s e timer reached => ?_, fun s due => ?_⟩
  · intro pitch g track at_ others d missing failed unreadable judgedBad rejected
    let u : Part := { s.part with trk.pitchesDue := s.part.trk.pitchesDue - 1 }
    have record : u.trk.advanced.passedWindow r = d := passedWindow_atGate at_
    have arrivals : u.trk.arrivals = [d] := (arrivals_one (t := u.trk) track at_ others).trans (congrArg ([·]) record)
    obtain ⟨x, l, decided, risen⟩ := decideAtGate_eq d u.arrived
    obtain ⟨t, entered, exits, gate, gateTimer, meters⟩ := entered_keeps infeed (decideAtGate d u.arrived)
    have taken := (pitchEvent_owed active running owed infeed).trans (takePitch_eq infeed u)
    rw [arrivals] at taken
    have any : (u.arrived.causes d).any = true ↔ rejected := by
      rw [causes_any, causes_noFill, causes_fillFailed, causes_unreadable, causes_rejected, causes_missing]
      rfl
    rw [decided] at exits gate gateTimer meters
    have here : (s.part.mtu.meters.set (u.arrived.causes d).decision.meter x)[(u.arrived.causes d).decision.meter] = x :=
      (set_get s.part.mtu.meters _ _ x).trans (if_pos rfl)
    refine ⟨t, u.arrived.exitEntry d (u.arrived.causes d), gives_of_act rfl (taken.trans entered), exits, rfl, rfl, rfl, rfl, rfl, rfl, rfl,
      Iff.rfl, causes_noFill _ _, causes_fillFailed _ _, causes_unreadable _ _, causes_rejected _ _, causes_missing _ _, fun bad => ?_,
      fun good => ?_, fun closed m which full below => ?_, fun m which => ?_⟩
    · have any := any.mpr bad
      exact ⟨Causes.decision_reject any, gate.trans any, gateTimer.trans (if_pos any)⟩
    · have none : (u.arrived.causes d).any = false := Bool.eq_false_iff.mpr fun h => good (any.mp h)
      exact ⟨Causes.decision_pass none, gate.trans none, gateTimer.trans (if_neg (Bool.eq_false_iff.mp none))⟩
    · have total : (u.arrived.causes d).decision.meter = m := by
        rcases which with ⟨rfl, bad⟩ | ⟨rfl, good⟩
        · rw [Causes.decision_reject (any.mpr bad)]
          rfl
        · rw [Causes.decision_pass (Bool.eq_false_iff.mpr fun h => good (any.mp h))]
          rfl
      have low : m ≠ 24 := by rcases which with ⟨rfl, -⟩ | ⟨rfl, -⟩ <;> decide
      subst total
      have up := risen closed full (Nat.add_lt_of_lt_sub below)
      exact congrArg MeterRec.value (((meters _ low).trans here).trans up)
    · have total : (u.arrived.causes d).decision.meter ≠ m := by
        rcases which with ⟨rfl, good⟩ | ⟨rfl, bad⟩
        · rw [Causes.decision_pass (Bool.eq_false_iff.mpr fun h => good (any.mp h))]
          decide
        · rw [Causes.decision_reject (any.mpr bad)]
          decide
      have low : m ≠ 24 := by rcases which with ⟨rfl, -⟩ | ⟨rfl, -⟩ <;> decide
      exact (meters m low).trans ((set_get s.part.mtu.meters _ m x).trans (if_neg total))
  · let u : Part := { s.part with trk.pitchesDue := s.part.trk.pitchesDue - 1 }
    have arrivals : u.trk.arrivals = [] := arrivals_none others
    have taken := (pitchEvent_owed active running owed infeed).trans (takePitch_eq infeed u)
    rw [arrivals] at taken
    obtain ⟨t, entered, exits, gate, gateTimer, meters⟩ := entered_keeps infeed u.arrived
    exact ⟨t, gives_of_act rfl (taken.trans entered), exits, gate, gateTimer, meters 25 (by decide), meters 26 (by decide)⟩
  · refine gives_of_act (f := gateExpiry) rfl (if_pos ?_)
    rw [timer]
    exact decide_eq_true reached
  · exact gives_of_act (f := gateExpiry) rfl (if_neg (Bool.eq_false_iff.mp due))

end Sys2Proof.Machine
end

section
/-! The fill requests between FCO and TRK (R15 to R20): the settling of FillRequestsReachTheTrack. -/

namespace Sys2Proof.Machine

/-! ### The taking of a request (R60) -/

theorem takeFillRequest_head {s : Part} {m : FillRequest} {rest : List FillRequest} (receives : s.hostReceives = true)
    (head : s.fco.toTrk = m :: rest) (go : Part → Part) : takeFillRequest m go s = go { s with fco.toTrk := rest } := by
  rw [takeFillRequest, receives, head, List.head?_cons, beq_self_eq_true]
  rfl

theorem takeFillRequest_other {s : Part} {m : FillRequest} (other : s.fco.toTrk.head? ≠ some m) (go : Part → Part) :
    takeFillRequest m go s = s := by
  rw [takeFillRequest, beq_eq_false_iff_ne.mpr other, Bool.and_false]
  rfl

theorem modRecord_eq (c : Half) (g : Record → Record) (s : Part) : modRecord c g s =
    { s with trk := { s.trk with track := s.trk.track.map fun r => if r.container = c then g r else r } } := by
  simp only [modRecord, beq_iff_eq]

/-! ### RESERVE (R15) -/

section
variable {t : Trk} {c : Half} {p : Port}

theorem reserveAnswerFor_absent (absent : ∀ r ∈ t.track, r.container ≠ c) : reserveAnswerFor t c p = .noContainer := by
  have none : t.find c = none := List.find?_eq_none.mpr fun r hr => by simpa using absent r hr
  rw [reserveAnswerFor, none]

variable {r : Record} (found : t.track.find? (·.container == c) = some r)
include found

theorem reserveAnswerFor_found : reserveAnswerFor t c p =
    if ¬ (1 ≤ t.geometry.windows[p].first ∧ t.geometry.windows[p].first ≤ (t.pitch - r.entry).toNat ∧
      (t.pitch - r.entry).toNat ≤ t.geometry.windows[p].last) then .outOfWindow
    else if r.fill = none then .accepted else .taken := by
  have here : t.find c = some r := found
  rw [reserveAnswerFor, here]
  by_cases inside : 1 ≤ t.geometry.windows[p].first ∧ t.geometry.windows[p].first ≤ (t.pitch - r.entry).toNat ∧
      (t.pitch - r.entry).toNat ≤ t.geometry.windows[p].last
  · have contains : t.geometry.windows[p].contains (t.position r) = true := decide_eq_true inside
    dsimp only
    rw [contains, if_neg (not_not.mpr inside)]
    cases r.fill <;> rfl
  · have out : t.geometry.windows[p].contains (t.position r) = false := decide_eq_false inside
    dsimp only
    rw [out, if_pos inside]
    rfl

end

theorem takeReserve_eq (c : Half) (p : Port) (f : Feed) (doses : Nat) (s : Part) : takeReserve c p f doses s =
    tellFco (.answer p (reserveAnswerFor s.trk c p))
      (if reserveAnswerFor s.trk c p = .accepted then modRecord c (fun r => { r with fill := some ⟨p, f, doses, 0, .pending⟩ }) s else s) := rfl

theorem takeReserve_refused {s : Part} {c : Half} {p : Port} {a : ReserveAnswer} (answer : reserveAnswerFor s.trk c p = a) (refused : a ≠ .accepted)
    (f : Feed) (doses : Nat) : takeReserve c p f doses s = tellFco (.answer p a) s := by
  rw [takeReserve_eq, answer, if_neg refused]

theorem takeReserve_accepted {s : Part} {c : Half} {p : Port} (answer : reserveAnswerFor s.trk c p = .accepted) (f : Feed) (doses : Nat) :
    takeReserve c p f doses s =
      tellFco (.answer p .accepted) (modRecord c (fun r => { r with fill := some ⟨p, f, doses, 0, .pending⟩ }) s) := by
  rw [takeReserve_eq, answer, if_pos rfl]

/-! ### CLEAR, DOSE DONE and FILL END (R17 to R19) -/

theorem clearFill_eq (p : Port) (r : Record) : r.clearFill p =
    { r with fill := r.fill.filter fun x => !decide (x.port = p ∧ x.result = .pending ∧ x.done = 0) } := by
  have clearable (x : Fill) : x.clearable p = decide (x.port = p ∧ x.result = .pending ∧ x.done = 0) := by
    rw [Bool.eq_iff_iff]
    simp [Fill.clearable, Fill.pending, and_assoc]
  obtain ⟨c, e, fill, v, x⟩ := r
  cases fill with
  | none => rfl
  | some y =>
    simp only [Record.clearFill, clearable, Option.any_some, Option.filter_some]
    cases decide (y.port = p ∧ y.result = .pending ∧ y.done = 0) <;> rfl

theorem doseDone_eq (p : Port) (f : Feed) (r : Record) : r.doseDone p f = { r with fill := r.fill.map fun x =>
    if x.port = p ∧ x.feed = f ∧ x.done < x.planned then
      { x with
        done := x.done + 1
        result := if x.result = .pending ∧ x.done + 1 = x.planned then .filled else x.result }
    else x } := by
  simp only [Record.doseDone, Fill.names, Fill.addDose, Fill.pending, Bool.and_eq_true, beq_iff_eq, decide_eq_true_eq, and_assoc]

theorem fillEnd_eq (p : Port) (f : Feed) (e : EndResult) (r : Record) : r.fillEnd p f e = { r with fill := r.fill.map fun x =>
    if x.port = p ∧ x.feed = f ∧ x.result = .pending then
      { x with result := match e with
        | .short => .short
        | .fault => .fault
        | .timeout => .timeout
        | .incomplete => .incomplete }
    else x } := by
  have result : fillResultOf e = match e with
      | .short => .short
      | .fault => .fault
      | .timeout => .timeout
      | .incomplete => .incomplete := by cases e <;> rfl
  simp only [Record.fillEnd, Fill.names, Fill.pending, Bool.and_eq_true, beq_iff_eq, and_assoc, result]

/-! ### What FCO takes (R54, R73) -/

theorem takeAnswer_unsent {s : Part} {p : Port} {a : ReserveAnswer} (unsent : TrkMessage.answer p a ∉ s.fco.toFco) : takeAnswer p a s = s := by
  rw [takeAnswer, if_neg]
  simp [unsent]

/-- Settles O29: TRK's answer is the one `reserveAnswerFor` gives, and each other request is one change of the record named. -/
theorem fillRequestsReachTheTrack : Obligations.FillRequestsReachTheTrack := by
  unfold Obligations.FillRequestsReachTheTrack
  refine ⟨fun c p f doses rest s receives head => ?_, fun c p f rest s receives => ?_, fun c p f n e s => ⟨fun other => ?_, fun other => ?_,
    fun other => ?_, fun other => ?_⟩, fun c p f a s => ⟨fun unsent => ?_, fun unsent => ?_⟩⟩
  · intro w taken
    have begun := takeFillRequest_head receives head (takeReserve c p f doses)
    have refused {a : ReserveAnswer} (answer : reserveAnswerFor s.part.trk c p = a) (no : a ≠ .accepted) :
        Gives (.reserve c p f doses) s (taken a) :=
      gives_of_act (f := takeFillRequest (.reserve c p f doses) (takeReserve c p f doses)) rfl
        (begun.trans (takeReserve_refused (by exact answer) no f doses))
    refine ⟨fun absent => refused (reserveAnswerFor_absent absent) (by decide), fun r found => ?_⟩
    have answer := reserveAnswerFor_found (p := p) found
    refine ⟨fun out => refused (answer.trans (if_pos out)) (by decide), fun inside held => ?_, fun inside free => ?_⟩
    · exact refused (answer.trans ((if_neg (not_not.mpr inside)).trans (if_neg held))) (by decide)
    · have accepted : reserveAnswerFor s.part.trk c p = .accepted := answer.trans ((if_neg (not_not.mpr inside)).trans (if_pos free))
      refine gives_of_act (f := takeFillRequest (.reserve c p f doses) (takeReserve c p f doses)) rfl
        (begun.trans ((takeReserve_accepted (by exact accepted) f doses).trans ?_))
      rw [modRecord_eq]
      rfl
  · intro changed
    have taken {m : FillRequest} {i : Instr} {g : Record → Record} (hi : exec i s = act (takeFillRequest m (modRecord c g)) s)
        (head : s.part.fco.toTrk = m :: rest) : Gives i s (changed g) := by
      refine gives_of_act hi ((takeFillRequest_head receives head _).trans ?_)
      rw [modRecord_eq]
    refine ⟨fun head => ?_, fun head => ?_, fun e head => ?_⟩
    · exact (congrArg (fun g => Gives _ s (changed g)) (funext fun r => clearFill_eq p r)).mp (taken rfl head)
    · exact (congrArg (fun g => Gives _ s (changed g)) (funext fun r => doseDone_eq p f r)).mp (taken rfl head)
    · exact (congrArg (fun g => Gives _ s (changed g)) (funext fun r => fillEnd_eq p f e r)).mp (taken rfl head)
  · exact gives_of_act rfl (takeFillRequest_other other (takeReserve c p f n))
  · exact gives_of_act rfl (takeFillRequest_other other (modRecord c (Record.clearFill p)))
  · exact gives_of_act rfl (takeFillRequest_other other (modRecord c (Record.doseDone p f)))
  · exact gives_of_act rfl (takeFillRequest_other other (modRecord c (Record.fillEnd p f e)))
  · exact gives_of_act rfl (takeAnswer_unsent unsent)
  · refine gives_of_act rfl (if_neg ?_)
    simp [unsent]

end Sys2Proof.Machine
end

section
/-! The arbiter and the end of a lease (R58, R59, R69, R75, R76, R135, R136): the settling of ArbiterServesTheHead. -/

namespace Sys2Proof.Machine

/-! ### The arbiter (R58, R59) -/

theorem setQueue_setQueue (f : Feed) (q r : List QueueEntry) (s : Part) : setQueue f r (setQueue f q s) = setQueue f r s := by
  simp only [setQueue, modFeed, upd_upd]

theorem sendStation_setQueue (f : Feed) (q : List QueueEntry) (p : Port) (x : StationOut) (s : Part) :
    sendStation p x (setQueue f q s) = setQueue f q (sendStation p x s) := by
  have told : sendStation p x (setQueue f q s) = { sendStation p x s with fco := (setQueue f q s).fco } := sendStation_fcoWith _ _ _ s
  rw [told]
  conv_rhs => rw [setQueue, modFeed, sendStation_fco]
  rfl

theorem offer_setQueue (f : Feed) (l q : List QueueEntry) (s : Part) : offer f l (setQueue f q s) = offer f l s := by
  induction l generalizing s with
  | nil => exact setQueue_setQueue f q [] s
  | cons e l ih =>
    have removed (x : StationOut) : sendStation e.port x (releaseEntry f e (setQueue f q s)) =
        setQueue f q (sendStation e.port x (releaseEntry f e s)) := sendStation_setQueue f q e.port x (releaseEntry f e s)
    unfold offer
    rw [refuse, refuse, removed, removed, ih, ih, setQueue_setQueue]
    rfl

theorem inWindow_iff (t : Trk) (p : Port) (c : Half) : t.inWindow p c = true ↔ ∃ r, t.track.find? (·.container == c) = some r ∧
    1 ≤ t.geometry.windows[p].first ∧ t.geometry.windows[p].first ≤ (t.pitch - r.entry).toNat ∧
    (t.pitch - r.entry).toNat ≤ t.geometry.windows[p].last := by
  rw [Trk.inWindow, Trk.find]
  cases t.track.find? (·.container == c) with
  | none => simp
  | some r =>
    dsimp only
    rw [Window.contains, decide_eq_true_eq]
    exact ⟨fun h => ⟨r, rfl, h⟩, fun ⟨x, same, h⟩ => Option.some.inj same ▸ h⟩

section
variable {f : Feed} {s : Part}

theorem arbitrate_busy (busy : s.fco.feeds[f].state ≠ .free) : arbitrate f s = s := if_neg busy

theorem arbitrate_empty (empty : s.fco.feeds[f].queue = []) : arbitrate f s = s := by
  have same := setQueue_same f s
  rw [empty] at same
  rw [arbitrate, empty]
  split
  · exact same
  · rfl

variable {e : QueueEntry} {rest : List QueueEntry} (free : s.fco.feeds[f].state = .free)
include free

/-- R58: once an entry is removed, the arbiter goes on with the rest of the queue. -/
theorem arbitrate_goesOn (x : StationOut) :
    offer f rest (sendStation e.port x (releaseEntry f e s)) =
      arbitrate f (sendStation e.port x (askTrk (releaseRequest f e.port e.container e.remnant) (setQueue f rest s))) := by
  have told : sendStation e.port x (askTrk (releaseRequest f e.port e.container e.remnant) (setQueue f rest s)) =
      setQueue f rest (sendStation e.port x (releaseEntry f e s)) := sendStation_setQueue f rest e.port x (releaseEntry f e s)
  have still : (setQueue f rest (sendStation e.port x (releaseEntry f e s))).fco.feeds[f] = { s.fco.feeds[f] with queue := rest } := by
    rw [setQueue_queue, sendStation_fco]
    rfl
  have state : (setQueue f rest (sendStation e.port x (releaseEntry f e s))).fco.feeds[f].state = .free := by
    rw [still]
    exact free
  have queue : (setQueue f rest (sendStation e.port x (releaseEntry f e s))).fco.feeds[f].queue = rest := by rw [still]
  rw [told, arbitrate, if_pos state, queue, offer_setQueue]

variable (queue : s.fco.feeds[f].queue = e :: rest)
include queue

theorem arbitrate_cons : arbitrate f s =
    if !s.trk.inWindow e.port e.container then
      arbitrate f (sendStation e.port (.withdrawClaim e.container) (askTrk (releaseRequest f e.port e.container e.remnant) (setQueue f rest s)))
    else if s.mtu.service[e.port] = .limit then
      arbitrate f (refuse e.port .serviceDue claimKind (askTrk (releaseRequest f e.port e.container e.remnant) (setQueue f rest s)))
    else grantEntry f e (setQueue f rest s) := by
  rw [refuse, ← arbitrate_goesOn free, ← arbitrate_goesOn free, arbitrate, if_pos free, queue, offer]
  rfl

end

theorem grantEntry_eq (f : Feed) (e : QueueEntry) (rest : List QueueEntry) (s : Part) : grantEntry f e (setQueue f rest s) =
    let c := s.fco.feeds[f].cfg
    let doses := if c.singleDose then 1 else e.doses
    sendStation e.port (.grant f e.container doses) (setNote e.port none (modFeed f (fun r => { r with
      queue := rest
      state := .granted {
        port := e.port, container := e.container, granted := doses, index := 1, retries := 0, inFlight := false, after := e.doses - doses,
        remnant := e.remnant, timer := some (s.mtu.uptime + BitVec.ofNat 48 c.takeWindow), target := .free } }) s)) := by
  have lease : (setQueue f rest s).newGrant f e =
      let c := s.fco.feeds[f].cfg
      let doses := if c.singleDose then 1 else e.doses
      { port := e.port, container := e.container, granted := doses, index := 1, retries := 0, inFlight := false, after := e.doses - doses,
        remnant := e.remnant, timer := some (s.mtu.uptime + BitVec.ofNat 48 c.takeWindow), target := .free } := by
    rw [Part.newGrant, setQueue_queue]
    rfl
  rw [grantEntry, lease]
  simp only [setFeed, setQueue, modFeed, upd_upd]

/-! ### The end of a drain (R135, R136) -/

/-- R135: a LOCKOUT that waits for the port, its hold recorded. -/
def Part.awaits (s : Part) (p : Port) (k : Lockout) : Bool := k.port == p && s.sva.holders[p].any fun x => x.badge == k.badge && x.recorded

/-- R135, R136: the part once the drain for a port has ended. -/
def Part.drainDone (s : Part) (p : Port) : Part := { s with
  sva := { s.sva with draining := s.sva.draining.set p false, lockouts := s.sva.lockouts.filter fun k => !s.awaits p k }
  hlc := (s.sva.lockouts.filter (s.awaits p)).foldl (fun h k => h.reply k.request .done []) s.hlc }

/-- R136: without a drain the run enable output of a port with a hold has fallen. -/
theorem lockoutReady_eq {s : Part} {p : Port} (ended : s.sva.draining[p] = false) (k : Lockout) : s.lockoutReady p k = s.awaits p k := by
  rw [Part.lockoutReady, Part.awaits, Part.holdRecorded, Part.runEnable, ended]
  cases s.sva.holders[p] with
  | nil => simp
  | cons x l => simp

theorem drainEnds_eq (p : Port) (s : Part) : drainEnds p s = s.drainDone p := by
  have ended : ({ s with sva.draining := s.sva.draining.set p false } : Part).sva.draining[p] = false := by
    change (s.sva.draining.set p false)[p] = false
    simp
  have ready := funext (lockoutReady_eq ended)
  rw [drainEnds, settleLockouts, forEach_reply, ready]
  rfl

/-! ### The end of a lease (R69, R75, R76) -/

theorem settleClose_eq (f : Feed) (s : Part) : settleClose f s = { s with
    fco := { s.fco with feeds := upd s.fco.feeds f fun r => { r with closing := if r.state = .closed then none else r.closing } }
    hlc := match s.fco.feeds[f].closing with
      | some h => if s.fco.feeds[f].state = .closed then s.hlc.reply h .done [] else s.hlc
      | none => s.hlc } := by
  have same (kept : (if s.fco.feeds[f].state = .closed then none else s.fco.feeds[f].closing) = s.fco.feeds[f].closing) :
      upd s.fco.feeds f (fun r => { r with closing := if r.state = .closed then none else r.closing }) = s.fco.feeds :=
    (upd_congr (g := id) (congrArg (fun c => ({ s.fco.feeds[f] with closing := c } : FeedRec)) kept)).trans (Vector.set_getElem_self _)
  rw [settleClose]
  cases pending : s.fco.feeds[f].closing with
  | none => rw [same (by rw [pending, ite_self])]
  | some h =>
    dsimp only
    by_cases closed : s.fco.feeds[f].state = .closed
    · have cleared : upd s.fco.feeds f (fun r => { r with closing := none }) =
          upd s.fco.feeds f fun r => { r with closing := if r.state = .closed then none else r.closing } :=
        upd_congr (by rw [if_pos closed])
      rw [if_pos closed, if_pos closed, modFeed, cleared]
      rfl
    · rw [if_neg closed, if_neg closed, same (if_neg closed)]

theorem EndTarget.state_closed (t : EndTarget) : (t.state = .closed) = (t = .closed) := by cases t <;> simp [EndTarget.state]

/-- R75, R136: the part once the drain that goes with a lease has ended, if one does. -/
def Part.drainedIf (s : Part) (drained : Bool) (p : Port) : Part := if drained then s.drainDone p else s

theorem finishLease_eq (f : Feed) (l : Lease) (drained : Bool) (s : Part) : finishLease f l drained s = { s.drainedIf drained l.port with
    fco := { s.fco with feeds := upd s.fco.feeds f fun r => { r with
      state := l.target.state, closing := if l.target = .closed then none else r.closing } }
    hlc := match s.fco.feeds[f].closing with
      | some h => if l.target = .closed then (s.drainedIf drained l.port).hlc.reply h .done [] else (s.drainedIf drained l.port).hlc
      | none => (s.drainedIf drained l.port).hlc } := by
  have drain : (if drained then drainEnds l.port (setFeed f l.target.state s) else setFeed f l.target.state s) =
      setFeed f l.target.state (s.drainedIf drained l.port) := by
    cases drained with
    | true => exact drainEnds_eq _ _
    | false => rfl
  have fco : (s.drainedIf drained l.port).fco = s.fco := by cases drained <;> rfl
  have here : (setFeed f l.target.state (s.drainedIf drained l.port)).fco.feeds[f] = { s.fco.feeds[f] with state := l.target.state } := by
    rw [setFeed, modFeed, fco]
    exact upd_self _ _ _
  rw [finishLease, drain, settleClose_eq, here]
  simp only [setFeed, modFeed, fco, upd_upd, EndTarget.state_closed]

/-! ### The statement -/

/-- Settles O32: the arbiter looks at the head of the queue only; `finishLease` is one record change with the replies it makes. -/
theorem arbiterServesTheHead : Obligations.ArbiterServesTheHead := by
  unfold Obligations.ArbiterServesTheHead
  refine ⟨fun f s => ⟨arbitrate_busy, arbitrate_empty, fun e rest free queue => ?_⟩, fun f l drained s => ?_⟩
  · intro release inside c doses
    have head := arbitrate_cons free queue
    have window := inWindow_iff s.trk e.port e.container
    refine ⟨fun out => ?_, fun within limit => ?_, fun within below => ?_⟩
    · rw [Bool.eq_false_iff.mpr (fun h => out (window.mp h))] at head
      exact head
    · rw [window.mpr within, limit] at head
      exact head
    · rw [window.mpr within, Bool.not_true, if_neg Bool.false_ne_true, if_neg below, grantEntry_eq] at head
      exact head
  · intro t settled h
    have ended : t = _ := finishLease_eq f l drained s
    rw [ended]
    have here : (upd s.fco.feeds f fun r => { r with state := l.target.state, closing := if l.target = .closed then none else r.closing })[f] =
        { s.fco.feeds[f] with state := l.target.state, closing := if l.target = .closed then none else s.fco.feeds[f].closing } := upd_self _ _ _
    refine ⟨?_, ?_, fun g other => upd_ne _ _ (Ne.symm other), fun closed => ?_, ?_, ?_, ?_, ?_, ?_, ?_, ?_, ?_, rfl, rfl, rfl⟩
    · exact (congrArg FeedRec.state here).trans (by cases l.target <;> rfl)
    · exact (congrArg FeedRec.queue here).trans rfl
    · exact (congrArg FeedRec.closing here).trans (if_pos closed)
    all_goals cases drained <;> rfl

end Sys2Proof.Machine
end

section
/-! Frames of stations (R81, R82, R90), and the claim (R53, R54): the settling of ClaimIsReserved. -/

namespace Sys2Proof.Machine

/-! ### Frames that reach their rule -/

section
variable {s : Part} {p : Port}

/-- R82: a port that is not DARK has its link timer restarted; BARRED it has its link up. -/
theorem heard_live (live : s.ports[p].admission ≠ .dark) : heard p s = s.heardAt p := by
  have timed : (modPort p (fun r => { r with linkTimer := s.timer Config.linkTime }) s).ports[p].admission = s.ports[p].admission := by
    rw [modPort_ports, upd_self]
  by_cases barred : s.ports[p].admission = .barred
  · simp only [heard, timed, barred]
    rw [modPort_modPort]
    exact modPort_congr (by rw [if_pos barred])
  · have plain : s.heardAt p = modPort p (fun r => { r with linkTimer := s.timer Config.linkTime }) s := modPort_congr (by rw [if_neg barred])
    rw [plain]
    unfold heard
    dsimp only
    rw [timed]
    cases admission : s.ports[p].admission with
    | dark => exact absurd admission live
    | barred => exact absurd admission barred
    | listening | known | challenged | admitted | parked => rfl

theorem heardAt_port : (s.heardAt p).ports[p] = { s.ports[p] with
    linkTimer := s.timer Config.linkTime, link := if s.ports[p].admission = .barred then true else s.ports[p].link } := upd_self _ _ _

theorem heardAt_status : (s.heardAt p).ports[p].status = s.ports[p].status := by rw [heardAt_port]

theorem heardAt_role : (s.heardAt p).ports[p].cfg.role = s.ports[p].cfg.role := by rw [heardAt_port]

end

/-- R90: a frame that the port accepts goes to its rule. -/
theorem gives_frame {i : Instr} {s : State} {p : Port} {kind : Byte} {accepts : Part → Bool} {serve : Part → Part} {t : Part}
    (hi : exec i s = act (stationFrameIn p kind accepts serve) s) (hears : s.part.hears p) (accepted : accepts (s.part.heardAt p) = true)
    (ht : serve (s.part.heardAt p) = t) : Gives i s t := by
  obtain ⟨active, hunting, live⟩ := hears
  refine gives_of_act hi ?_
  rw [stationFrameIn, active, hunting, heard_live live, routeFrame, accepted]
  exact ht

theorem portIn_heardAt {s : Part} {p : Port} {a : Admission} (at_ : s.ports[p].admission = a) : portIn p [a] (s.heardAt p) = true := by
  rw [portIn, heardAt_admission, at_]
  simp

/-- R90: a frame of an ADMITTED port. -/
theorem gives_admitted {i : Instr} {s : State} {p : Port} {kind : Byte} {serve : Part → Part} {t : Part}
    (hi : exec i s = act (stationFrameIn p kind (portIn p [.admitted]) serve) s) (hears : s.part.hears p)
    (admitted : s.part.ports[p].admission = .admitted) (ht : serve (s.part.heardAt p) = t) : Gives i s t :=
  gives_frame hi hears (portIn_heardAt admitted) ht

/-! ### What a robot holds (R52, R53) -/

theorem servesPort_iff {r : FeedRec} {p : Port} : r.servesPort p = true ↔ ∃ l, r.state.lease? = some l ∧ l.port = p := by
  rw [FeedRec.servesPort, Option.any_eq_true_iff_get]
  constructor
  · rintro ⟨some, port⟩
    exact ⟨_, (Option.some_get some).symm, eq_of_beq port⟩
  · rintro ⟨l, leased, rfl⟩
    refine ⟨by rw [leased]; rfl, ?_⟩
    simp only [leased, Option.get_some, beq_self_eq_true]

theorem feedServing_isSome {c : Fco} {p : Port} : (c.feedServing p).isSome = true ↔
    ∃ f : Feed, ∃ l, c.feeds[f].state.lease? = some l ∧ l.port = p := by
  rw [Fco.feedServing, List.find?_isSome]
  exact ⟨fun ⟨f, _, serves⟩ => ⟨f, servesPort_iff.mp serves⟩, fun ⟨f, leased⟩ => ⟨f, List.mem_finRange f, servesPort_iff.mpr leased⟩⟩

theorem feedQueueing_isSome {c : Fco} {p : Port} : (c.feedQueueing p).isSome = true ↔ c.queues p := by
  rw [Fco.feedQueueing, List.find?_isSome]
  constructor
  · rintro ⟨f, -, queued⟩
    obtain ⟨e, he, port⟩ := List.any_eq_true.mp queued
    exact ⟨f, e, he, eq_of_beq port⟩
  · rintro ⟨f, e, he, rfl⟩
    exact ⟨f, List.mem_finRange f, List.any_eq_true.mpr ⟨e, he, beq_self_eq_true _⟩⟩

theorem busy_iff {c : Fco} {p : Port} : c.busy p = true ↔ (∃ f : Feed, ∃ l, c.feeds[f].state.lease? = some l ∧ l.port = p) ∨
    (∃ f : Feed, ∃ e ∈ c.feeds[f].queue, e.port = p) ∨ c.claims[p] ≠ none := by
  rw [Fco.busy, Bool.or_eq_true, Bool.or_eq_true, feedServing_isSome, feedQueueing_isSome, or_assoc, Option.isSome_iff_ne_none]
  rfl

theorem closedToClaims_iff {x : FeedState} : x.closedToClaims = true ↔ x = .closed ∨ ∃ l, x = .draining l ∧ l.target = .closed := by
  cases x with
  | draining l => simp [FeedState.closedToClaims]
  | closed => simp [FeedState.closedToClaims]
  | free | granted _ | held _ => simp [FeedState.closedToClaims]

/-! ### The checks of a CLAIM (R53) -/

section
variable {s : Part} {p : Port} {feed doses : Byte}

theorem claimCheck_heardAt : claimCheck (s.heardAt p) p feed doses = claimCheck s p feed doses := by
  simp only [claimCheck, heardAt_role, heardAt_status]
  rfl

theorem claimCheck_wrongRole (other : s.ports[p].cfg.role ≠ .robot) : claimCheck s p feed doses = .error .wrongRole :=
  if_pos (bne_iff_ne.mpr other)

variable (robot : s.ports[p].cfg.role = .robot)
include robot

theorem claimCheck_notReady (unready : ¬ (s.ports[p].status = some .ready ∨ s.ports[p].status = some .busy)) :
    claimCheck s p feed doses = .error .notReady := by
  obtain ⟨notReady, notBusy⟩ := not_or.mp unready
  rw [claimCheck, robot, bne_iff_ne.mpr notReady, bne_iff_ne.mpr notBusy]
  rfl

variable (ready : s.ports[p].status = some .ready ∨ s.ports[p].status = some .busy)
include ready

theorem claimCheck_ready : claimCheck s p feed doses = if s.fco.busy p then .error .claimOpen else match feedOf feed.toNat with
    | none => .error .feedClosed
    | some f =>
      if s.fco.feeds[f].state.closedToClaims then .error .feedClosed
      else if doses.toNat < 1 || 3 < doses.toNat then .error .sequence
      else if s.mtu.service[p] = .limit then .error .serviceDue
      else if Config.claimSize ≤ s.fco.load f then .error .notReady
      else .ok f := by
  have passes : (s.ports[p].status != some .ready && s.ports[p].status != some .busy) = false := by
    rcases ready with h | h <;> rw [h] <;> rfl
  rw [claimCheck, robot, passes]
  rfl

theorem claimCheck_claimOpen (busy : s.fco.busy p = true) : claimCheck s p feed doses = .error .claimOpen := by
  rw [claimCheck_ready robot ready, if_pos busy]

variable (idle : ¬ s.fco.busy p = true)
include idle

theorem claimCheck_noFeed (outside : ¬ (1 ≤ feed.toNat ∧ feed.toNat ≤ 4)) : claimCheck s p feed doses = .error .feedClosed := by
  rw [claimCheck_ready robot ready, if_neg idle, feedOf_outside outside]

theorem claimCheck_feed {f : Feed} (named : feed.toNat = f.val + 1) : claimCheck s p feed doses =
    if s.fco.feeds[f].state.closedToClaims then .error .feedClosed
    else if doses.toNat < 1 || 3 < doses.toNat then .error .sequence
    else if s.mtu.service[p] = .limit then .error .serviceDue
    else if Config.claimSize ≤ s.fco.load f then .error .notReady
    else .ok f := by
  rw [claimCheck_ready robot ready, if_neg idle, named, feedOf_number]

end

theorem takeClaim_refused {s : Part} {p : Port} {feed doses : Byte} {why : Reason} (checked : claimCheck s p feed doses = .error why)
    (c : Half) : takeClaim p feed c doses s = refuse p why claimKind s := by
  rw [takeClaim, checked]

theorem takeClaim_reserved {s : Part} {p : Port} {feed doses : Byte} {f : Feed} (checked : claimCheck s p feed doses = .ok f) (c : Half) :
    takeClaim p feed c doses s = { s with fco := { s.fco with
      claims := s.fco.claims.set p (some ⟨f, c, doses.toNat, none⟩)
      toTrk := s.fco.toTrk ++ [.reserve c p f doses.toNat] } } := by
  rw [takeClaim, checked]
  rfl

/-! ### TRK's answer (R54) -/

theorem takeAnswer_claim {s : Part} {p : Port} {a : ReserveAnswer} {k : Claim} (active : s.active = true)
    (sent : TrkMessage.answer p a ∈ s.fco.toFco) (claim : s.fco.claims[p] = some k) : takeAnswer p a s =
      answerClaim p k a { s with fco := { s.fco with toFco := s.fco.toFco.erase (.answer p a), claims := s.fco.claims.set p none } } := by
  have taken : (s.active && s.fco.toFco.contains (.answer p a)) = true := by rw [active, List.contains_iff_mem.mpr sent]; rfl
  rw [takeAnswer, if_pos taken]
  dsimp only
  rw [claim]

/-- R54: a refusal is passed to the robot where the void mark sends a REFUSE. -/
theorem answerClaim_refused {p : Port} {k : Claim} {a : ReserveAnswer} {why : Reason} (refusal : answerReason a = some why) (s : Part) :
    answerClaim p k a s = if k.void = some .silent then s else refuse p why claimKind s := by
  rw [answerClaim, refusal]
  cases void : k.void with
  | none => rfl
  | some v => cases v <;> rfl

/-- Settles O33: the checks of a CLAIM taken one after the other; TRK's answer by the claim's void mark. -/
theorem claimIsReserved : Obligations.ClaimIsReserved := by
  unfold Obligations.ClaimIsReserved
  refine ⟨fun p feed c doses s hears admitted => ?_, fun p a k s active sent claim => ?_⟩
  · intro q r k refused robot ready busy shut
    have refuses {why : Reason} (checked : claimCheck s.part p feed doses = .error why) : refused why :=
      gives_admitted (serve := takeClaim p feed c doses) rfl hears admitted (takeClaim_refused (claimCheck_heardAt.trans checked) c)
    refine ⟨fun other => refuses (claimCheck_wrongRole other), fun role unready => refuses (claimCheck_notReady role unready),
      fun role status holds => refuses (claimCheck_claimOpen role status (busy_iff.mpr holds)),
      fun role status idle outside => refuses (claimCheck_noFeed role status (mt busy_iff.mp idle) outside),
      fun f role status idle named => ?_⟩
    have checked := claimCheck_feed (doses := doses) role status (mt busy_iff.mp idle) named
    refine ⟨fun closed => ?_, fun open_ count => ?_, fun open_ low high limit => ?_, fun open_ low high below full => ?_,
      fun open_ low high below room => ?_⟩
    · exact refuses (checked.trans (if_pos (closedToClaims_iff.mpr closed)))
    all_goals rw [if_neg (mt closedToClaims_iff.mp open_)] at checked
    · refine refuses (checked.trans (if_pos ?_))
      rw [Bool.or_eq_true, decide_eq_true_eq, decide_eq_true_eq]
      omega
    all_goals
      have count : ¬ (decide (doses.toNat < 1) || decide (3 < doses.toNat)) = true := by
        rw [Bool.or_eq_true, decide_eq_true_eq, decide_eq_true_eq]
        omega
      rw [if_neg count] at checked
    · exact refuses (checked.trans (if_pos limit))
    · exact refuses (checked.trans ((if_neg below).trans (if_pos full)))
    · have passes := checked.trans ((if_neg below).trans (if_neg (Nat.not_le.mpr room)))
      exact gives_admitted (serve := takeClaim p feed c doses) rfl hears admitted (takeClaim_reserved (claimCheck_heardAt.trans passes) c)
  · intro q gives
    have taken := takeAnswer_claim ((active_iff _).mpr active) sent claim
    have give {t : Part} (answered : answerClaim p k a q = t) : gives t := gives_of_act (f := takeAnswer p a) rfl (taken.trans answered)
    refine ⟨fun accepted valid => give ?_, fun accepted silent => give ?_, fun accepted unready => give ?_, fun accepted closed => give ?_,
      fun why which => ?_⟩
    · rw [answerClaim, accepted, valid]
      rfl
    · rw [answerClaim, accepted, silent]
      rfl
    · rw [answerClaim, accepted, unready]
      rfl
    · rw [answerClaim, accepted, closed]
      rfl
    · have refusal : answerReason a = some why := by rcases which with ⟨rfl, rfl⟩ | ⟨rfl, rfl⟩ | ⟨rfl, rfl⟩ <;> rfl
      have answered := answerClaim_refused (p := p) (k := k) refusal q
      exact ⟨fun shown => give (answered.trans (if_neg shown)), fun silent => give (answered.trans (if_pos silent))⟩

end Sys2Proof.Machine
end

section
/-! CANCEL, TAKE and the take timer (R55, R61 to R63): the settling of GrantIsTakenOrLapses. -/

namespace Sys2Proof.Machine

/-! ### The feed that queues or serves a port -/

section
variable {c : Fco} {p : Port} {f : Feed}

theorem feedQueueing_only (here : ∃ e ∈ c.feeds[f].queue, e.port = p) (others : ∀ g : Feed, g ≠ f → ∀ e ∈ c.feeds[g].queue, e.port ≠ p) :
    c.feedQueueing p = some f := by
  obtain ⟨e, he, port⟩ := here
  cases found : c.feedQueueing p with
  | none =>
    have queued := feedQueueing_isSome.mpr ⟨f, e, he, port⟩
    rw [found] at queued
    cases queued
  | some g =>
    have there := List.find?_some found
    obtain ⟨x, hx, mine⟩ := List.any_eq_true.mp there
    by_cases same : g = f
    · rw [same]
    · exact absurd (eq_of_beq mine) (others g same x hx)

theorem feedQueueing_none_iff : c.feedQueueing p = none ↔ ∀ g : Feed, ∀ e ∈ c.feeds[g].queue, e.port ≠ p := by
  rw [← Option.not_isSome_iff_eq_none, feedQueueing_isSome]
  exact ⟨fun none g e he port => none ⟨g, e, he, port⟩, fun none ⟨g, e, he, port⟩ => none g e he port⟩

end

/-- The one entry of a port in a queue is dropped, and its reservation released. -/
theorem dropQueued_one {s : Part} {p : Port} {f : Feed} {before after : List QueueEntry} {e : QueueEntry}
    (queue : s.fco.feeds[f].queue = before ++ e :: after) (port : e.port = p) (others : ∀ x ∈ before ++ after, x.port ≠ p)
    (feeds : ∀ g : Feed, g ≠ f → ∀ x ∈ s.fco.feeds[g].queue, x.port ≠ p) :
    dropQueued p s = askTrk (releaseRequest f p e.container e.remnant) (setQueue f (before ++ after) s) := by
  have found : s.fco.feedQueueing p = some f := feedQueueing_only ⟨e, by rw [queue]; simp, port⟩ feeds
  have keeps (l : List QueueEntry) (sub : ∀ x ∈ l, x ∈ before ++ after) : l.filter (·.port != p) = l :=
    List.filter_eq_self.mpr fun x hx => bne_iff_ne.mpr (others x (sub x hx))
  have drops (l : List QueueEntry) (sub : ∀ x ∈ l, x ∈ before ++ after) : l.filter (·.port == p) = [] :=
    List.filter_eq_nil_iff.mpr fun x hx => by simpa using others x (sub x hx)
  have kept : s.fco.feeds[f].queue.filter (·.port != p) = before ++ after := by
    rw [queue, List.filter_append, List.filter_cons, port, keeps _ fun x hx => List.mem_append_left _ hx,
      keeps _ fun x hx => List.mem_append_right _ hx]
    simp
  have dropped : s.fco.feeds[f].queue.filter (·.port == p) = [e] := by
    rw [queue, List.filter_append, List.filter_cons, port, drops _ fun x hx => List.mem_append_left _ hx,
      drops _ fun x hx => List.mem_append_right _ hx]
    simp
  have same : upd s.fco.feeds f (fun r => { r with queue := r.queue.filter (·.port != p) }) =
      upd s.fco.feeds f fun r => { r with queue := before ++ after } := upd_congr (by rw [kept])
  rw [dropQueued_eq, Fco.dropped, found]
  simp only [same, dropped, List.map_cons, List.map_nil, port]
  rfl

/-! ### CANCEL (R55) -/

section
variable {s : Part} {p : Port} (robot : s.ports[p].cfg.role = .robot)
include robot

theorem takeCancel_queued (queued : (s.fco.feedQueueing p).isSome = true) : takeCancel p s = dropQueued p s := by
  rw [takeCancel, robot, if_pos queued]
  rfl

variable (none : s.fco.feedQueueing p = .none)
include none

theorem takeCancel_claim {c : Claim} (claim : s.fco.claims[p] = some c) : takeCancel p s = voidClaim p .silent s := by
  rw [takeCancel, robot, none, claim]
  rfl

theorem takeCancel_served (unclaimed : s.fco.claims[p] = .none) : takeCancel p s = match s.fco.feedServing p with
    | .none => refuse p .sequence cancelKind s
    | some f => match s.fco.feeds[f].state with
      | .granted l => endGrant f l s
      | _ => refuse p .sequence cancelKind s := by
  rw [takeCancel, robot, none, unclaimed]
  rfl

end

theorem takeCancel_wrongRole {s : Part} {p : Port} (other : s.ports[p].cfg.role ≠ .robot) : takeCancel p s = refuse p .wrongRole cancelKind s :=
  if_pos (bne_iff_ne.mpr other)

theorem voidClaim_some {s : Part} {p : Port} {c : Claim} (claim : s.fco.claims[p] = some c) (v : Void) :
    voidClaim p v s = { s with fco := { s.fco with claims := s.fco.claims.set p (some { c with void := c.void <|> some v }) } } := by
  have same : upd s.fco.claims p (fun k => k.map fun k => { k with void := k.void <|> some v }) =
      s.fco.claims.set p (some { c with void := c.void <|> some v }) := by rw [upd, claim]; rfl
  rw [voidClaim, same]

/-! ### TAKE (R61) -/

section
variable {s : Part} {p : Port} {feed : Byte}

theorem takeTake_wrongRole (other : s.ports[p].cfg.role ≠ .robot) : takeTake p feed s = refuse p .wrongRole takeKind s :=
  if_pos (bne_iff_ne.mpr other)

variable (robot : s.ports[p].cfg.role = .robot)
include robot

theorem takeTake_outside (outside : ¬ (1 ≤ feed.toNat ∧ feed.toNat ≤ 4)) : takeTake p feed s = refuse p .sequence takeKind s := by
  rw [takeTake, robot, feedOf_outside outside]
  rfl

variable {f : Feed} (named : feed.toNat = f.val + 1)
include named

theorem takeTake_mine {l : Lease} (granted : s.fco.feeds[f].state = .granted l) (mine : l.port = p) : takeTake p feed s = holdFeed f l s := by
  rw [takeTake, robot, named, feedOf_number]
  dsimp only
  rw [granted]
  exact if_pos mine

theorem takeTake_late (notMine : ¬ ∃ l, s.fco.feeds[f].state = .granted l ∧ l.port = p) : takeTake p feed s = lateTake p f s := by
  rw [takeTake, robot, named, feedOf_number]
  dsimp only
  cases state : s.fco.feeds[f].state with
  | granted l => exact if_neg fun mine => notMine ⟨l, state, mine⟩
  | closed | free | held _ | draining _ => rfl

end

/-! ### The statement -/

/-- Settles O34: CANCEL by what the robot holds, TAKE by the feed's state and the note, the take timer by the grant. -/
theorem grantIsTakenOrLapses : Obligations.GrantIsTakenOrLapses := by
  unfold Obligations.GrantIsTakenOrLapses
  refine ⟨fun p s hears admitted => ?_, fun p feed s hears admitted => ?_, fun f l s active granted due => ?_, fun f s undue => ?_⟩
  · intro q k robot gives
    have give {t : Part} (taken : takeCancel p q = t) : gives t := gives_admitted (serve := takeCancel p) rfl hears admitted taken
    have role (h : robot) : q.ports[p].cfg.role = .robot := heardAt_role.trans h
    refine ⟨fun other => give (takeCancel_wrongRole (by rw [heardAt_role]; exact other)),
      fun f before after e hr queue port others feeds => give ?_, fun c hr unqueued claim => give ?_, fun hr unqueued unclaimed => ?_⟩
    · have found : q.fco.feedQueueing p = some f := feedQueueing_only (c := k) ⟨e, by rw [queue]; simp, port⟩ feeds
      exact (takeCancel_queued (role hr) (by rw [found]; rfl)).trans (dropQueued_one (s := q) queue port others feeds)
    · exact (takeCancel_claim (role hr) (feedQueueing_none_iff.mpr unqueued) claim).trans (voidClaim_some (s := q) claim .silent)
    · have taken := takeCancel_served (s := q) (role hr) (feedQueueing_none_iff.mpr unqueued) unclaimed
      refine ⟨fun f l serving granted => give ?_, fun f l serving state => give ?_, fun unserved => give ?_⟩
      · rw [taken, show q.fco.feedServing p = some f from serving]
        dsimp only
        rw [show q.fco.feeds[f].state = .granted l from granted]
        rfl
      · rw [taken, show q.fco.feedServing p = some f from serving]
        dsimp only
        rcases state with held | draining
        · rw [show q.fco.feeds[f].state = .held l from held]
          rfl
        · rw [show q.fco.feeds[f].state = .draining l from draining]
          rfl
      · rw [taken, show q.fco.feedServing p = none from unserved]
        rfl
  · intro q robot gives
    have give {t : Part} (taken : takeTake p feed q = t) : gives t := gives_admitted (serve := takeTake p feed) rfl hears admitted taken
    have role (h : robot) : q.ports[p].cfg.role = .robot := heardAt_role.trans h
    refine ⟨fun other => give (takeTake_wrongRole (by rw [heardAt_role]; exact other)),
      fun hr outside => give (takeTake_outside (role hr) outside), fun f hr named => ?_⟩
    intro mine
    refine ⟨fun l granted port => give (takeTake_mine (role hr) named granted port), fun other note => give ?_, fun other note => give ?_⟩
    · exact (takeTake_late (s := q) (role hr) named other).trans (if_pos note)
    · exact (takeTake_late (s := q) (role hr) named other).trans (if_neg note)
  · refine gives_of_act (f := takeExpiry f) rfl ?_
    rw [takeExpiry, granted]
    dsimp only
    rw [(active_iff _).mpr active, due]
    rfl
  · refine gives_of_act (f := takeExpiry f) rfl ?_
    unfold takeExpiry
    split
    · next l granted => rw [undue l granted, Bool.and_false, if_neg Bool.false_ne_true]
    · rfl

end Sys2Proof.Machine
end

section
/-! Doses on a HELD lease (R64 to R68, R70): the settling of DosesRunOnAHeldLease. -/

namespace Sys2Proof.Machine

/-! ### A change of the feed's state, and the clock -/

theorem setFeed_setFeed (f : Feed) (x y : FeedState) (s : Part) : setFeed f y (setFeed f x s) = setFeed f y s := by
  simp only [setFeed, modFeed, upd_upd]

theorem setFeed_feed (f : Feed) (x : FeedState) (s : Part) : (setFeed f x s).fco.feeds[f] = { s.fco.feeds[f] with state := x } := upd_self _ _ _

theorem raiseService_uptime (p : Port) (x : Service) (s : Part) : (raiseService p x s).mtu.uptime = s.mtu.uptime := by cases x <;> rfl

theorem evalService_uptime (p : Port) (s : Part) : (evalService p s).mtu.uptime = s.mtu.uptime := by
  unfold evalService
  dsimp only
  split
  · rfl
  · exact raiseService_uptime p _ _

theorem evalMeter_uptime (m : Meter) (s : Part) : (evalMeter m s).mtu.uptime = s.mtu.uptime := by
  unfold evalMeter
  split
  · rfl
  · split
    · exact evalService_uptime _ s
    · rfl

theorem meterInc_uptime (m : Meter) (s : Part) : (meterInc m s).mtu.uptime = s.mtu.uptime := by
  unfold meterInc
  dsimp only
  split
  · rfl
  · split
    · rfl
    · exact evalMeter_uptime m _

theorem meterInc_timer (m : Meter) (s : Part) (d : Nat) : (meterInc m s).timer d = s.timer d := by rw [Part.timer, meterInc_uptime, Part.timer]

/-! ### Cuts (R72) -/

section
variable {f : Feed} {l : Lease} {why : CutCause} {s : Part}

theorem cut_granted (granted : s.fco.feeds[f].state = .granted l) (told : why ≠ .isolation) : cut f why s = lapse f l s := by
  rw [cut, granted]
  exact if_neg told

variable (held : s.fco.feeds[f].state = .held l) (told : why ≠ .isolation)
include held told

theorem cut_idle (idle : l.inFlight = false) : cut f why s =
    arbitrate f (finishLease f l false (askTrk (.fillEnd l.container l.port f .incomplete) (sendStation l.port (.withdrawFeed f) s))) := by
  rw [cut, held]
  dsimp only
  rw [if_neg told, idle]
  rfl

theorem cut_dosing (dosing : l.inFlight = true) : cut f why s =
    drainBegins l.port (setFeed f (.draining l) (sendStation l.port (.withdrawFeed f) s)) := by
  rw [cut, held]
  dsimp only
  rw [if_neg told, dosing]
  rfl

end

/-! ### DOSE START (R64) -/

theorem names_iff {l : Lease} {c : Half} {i : Byte} : l.names c i = true ↔ l.container = c ∧ l.index = i.toNat := by
  rw [Lease.names, Bool.and_eq_true, beq_iff_eq, beq_iff_eq]

section
variable {k : Fco} {p : Port} {c : Half} {i : Byte} {f : Feed} {l : Lease}

theorem startable_some (serving : k.feedServing p = some f) (held : k.feeds[f].state = .held l) (idle : l.inFlight = false)
    (container : l.container = c) (index : l.index = i.toNat) : k.startable p c i = some (f, l) := by
  rw [Fco.startable, serving, Option.bind_some, held]
  dsimp only
  rw [idle, names_iff.mpr ⟨container, index⟩]
  rfl

theorem startable_none (other : ∀ (f : Feed) (l : Lease), k.feedServing p = some f → k.feeds[f].state = .held l →
    l.inFlight = true ∨ l.container ≠ c ∨ l.index ≠ i.toNat) : k.startable p c i = none := by
  rw [Fco.startable]
  cases serving : k.feedServing p with
  | none => rfl
  | some f =>
    rw [Option.bind_some]
    cases state : k.feeds[f].state with
    | held l =>
      refine if_neg ?_
      rw [Bool.and_eq_true, Bool.not_eq_true', names_iff]
      rintro ⟨idle, container, index⟩
      rcases other f l serving state with dosing | away | off
      · rw [idle] at dosing
        cases dosing
      · exact away container
      · exact off index
    | closed | free | granted _ | draining _ => rfl

theorem endable_held (serving : k.feedServing p = some f) (held : k.feeds[f].state = .held l) (dosing : l.inFlight = true)
    (container : l.container = c) (index : l.index = i.toNat) : k.endable p c i = some (f, l, false) := by
  rw [Fco.endable, serving, Option.bind_some, held]
  dsimp only
  rw [dosing, names_iff.mpr ⟨container, index⟩]
  rfl

theorem endable_draining (serving : k.feedServing p = some f) (draining : k.feeds[f].state = .draining l) (dosing : l.inFlight = true)
    (container : l.container = c) (index : l.index = i.toNat) : k.endable p c i = some (f, l, true) := by
  rw [Fco.endable, serving, Option.bind_some, draining]
  dsimp only
  rw [dosing, names_iff.mpr ⟨container, index⟩]
  rfl

end

section
variable {s : Part} {p : Port} {c : Half} {i : Byte}

theorem takeDoseStart_wrongRole (other : s.ports[p].cfg.role ≠ .robot) : takeDoseStart p c i s = refuse p .wrongRole doseStartKind s :=
  if_pos (bne_iff_ne.mpr other)

variable (robot : s.ports[p].cfg.role = .robot)
include robot

theorem takeDoseStart_sequence (none : s.fco.startable p c i = .none) : takeDoseStart p c i s = refuse p .sequence doseStartKind s := by
  rw [takeDoseStart, robot, none]
  rfl

theorem takeDoseStart_starts {f : Feed} {l : Lease} (startable : s.fco.startable p c i = some (f, l)) : takeDoseStart p c i s =
    if !s.trk.inWindow p c then cut f .departure (refuse p .outOfWindow doseStartKind s)
    else setFeed f (.held { l with inFlight := true, timer := s.timer s.fco.feeds[f].cfg.holdLimit }) s := by
  rw [takeDoseStart, robot, startable]
  rfl

end

/-! ### DOSE END on a HELD lease (R65 to R68, R70) -/

/-- A lease whose end target is FREE leaves a pending FEED CLOSE pending. -/
theorem finishLease_free {f : Feed} {l : Lease} (free : l.target = .free) (s : Part) : finishLease f l false s = setFeed f .free s := by
  rw [finishLease_eq, free]
  cases s.fco.feeds[f].closing <;> rfl

/-- The lease with no dose in flight. -/
def Lease.ended (l : Lease) : Lease := { l with inFlight := false }

section
variable {f : Feed} {l : Lease} (s : Part)

/-- The feed HELD with no dose in flight. -/
def Part.idled (s : Part) (f : Feed) (l : Lease) : Part := setFeed f (.held l.ended) s

theorem idled_limit (m : FillRequest) : (askTrk m (s.idled f l)).fco.feeds[f].cfg = s.fco.feeds[f].cfg :=
  (congrArg FeedRec.cfg (setFeed_feed f (.held l.ended) s)).trans rfl

theorem doseOk_next (next : l.index < l.granted) : doseOk f l.ended (s.idled f l) =
    setFeed f (.held { l with inFlight := false, index := l.index + 1, retries := 0, timer := s.timer s.fco.feeds[f].cfg.holdLimit })
      (askTrk (.doseDone l.container l.port f) s) := by
  have chain : l.ended.index < l.ended.granted := next
  rw [doseOk, if_pos chain, idled_limit]
  exact setFeed_setFeed f _ _ (askTrk (.doseDone l.container l.port f) s)

theorem doseOk_last (last : l.granted ≤ l.index) (free : l.target = .free) : doseOk f l.ended (s.idled f l) =
    arbitrate f (modFeed f (fun r => { r with
      state := .free
      queue := if l.after = 0 then r.queue else ⟨l.port, l.container, l.after, true⟩ :: r.queue })
        (askTrk (.doseDone l.container l.port f) s)) := by
  have done : ¬ l.ended.index < l.ended.granted := Nat.not_lt.mpr last
  rw [doseOk, if_neg done, finishLease_free (by exact free)]
  refine congrArg (arbitrate f) ?_
  rw [placeRemnant]
  by_cases whole : l.after = 0
  · rw [if_pos (show l.ended.after = 0 from whole)]
    simp only [if_pos whole]
    exact setFeed_setFeed f _ _ (askTrk (.doseDone l.container l.port f) s)
  · rw [if_neg (show ¬ l.ended.after = 0 from whole)]
    have queue : (askTrk (.doseDone l.ended.container l.ended.port f) (s.idled f l)).fco.feeds[f].queue = s.fco.feeds[f].queue :=
      (congrArg FeedRec.queue (setFeed_feed f (.held l.ended) s)).trans rfl
    rw [queue]
    simp only [if_neg whole, setFeed, setQueue, modFeed, askTrk, Part.idled, upd_upd]
    exact congrArg (fun v => ({ s with fco := { s.fco with feeds := v, toTrk := s.fco.toTrk ++ [.doseDone l.container l.port f] } } : Part))
      (upd_congr rfl)

theorem doseRetry_again (left : l.retries < 2) : doseRetry f l.ended (s.idled f l) =
    setFeed f (.held { l with inFlight := false, retries := l.retries + 1, timer := s.timer s.fco.feeds[f].cfg.holdLimit }) s := by
  have again : l.ended.retries < 2 := left
  have limit : (s.idled f l).fco.feeds[f].cfg = s.fco.feeds[f].cfg := (congrArg FeedRec.cfg (setFeed_feed f (.held l.ended) s)).trans rfl
  rw [doseRetry, if_pos again, limit]
  exact setFeed_setFeed f _ _ s

theorem doseFailed_free (free : l.target = .free) (e : EndResult) : doseFailed f l.ended e (s.idled f l) =
    arbitrate f (setFeed f .free (askTrk (.fillEnd l.container l.port f e) s)) := by
  rw [doseFailed, finishLease_free (by exact free)]
  exact congrArg (arbitrate f) (setFeed_setFeed f _ _ (askTrk (.fillEnd l.container l.port f e) s))

theorem doseRetry_third (spent : 2 ≤ l.retries) (free : l.target = .free) : doseRetry f l.ended (s.idled f l) =
    arbitrate f (setFeed f .free (askTrk (.fillEnd l.container l.port f .fault) s)) := by
  have third : ¬ l.ended.retries < 2 := Nat.not_lt.mpr spent
  rw [doseRetry, if_neg third, doseFailed_free s free]

end

theorem takeDoseEnd_accepted {s : Part} {p : Port} {c : Half} {i result : Byte} {f : Feed} {l : Lease} {draining : Bool}
    (robot : s.ports[p].cfg.role = .robot) (endable : s.fco.endable p c i = some (f, l, draining)) :
    takeDoseEnd p c i result s = acceptDoseEnd f l draining (doseResultOf result) s := by
  rw [takeDoseEnd, robot, endable]
  rfl

theorem acceptDoseEnd_held (f : Feed) (l : Lease) (r : DoseResult) (s : Part) : acceptDoseEnd f l false r s =
    doseEndHeld f l.ended r ((meterInc (meterA l.port) s).idled f l) := rfl

theorem doseResultOf_other {result : Byte} (other : 3 ≤ result.toNat) : doseResultOf result = .fault := by
  have ne (n : Byte) (below : n.toNat < 3) : result ≠ n := by
    rintro rfl
    omega
  rw [doseResultOf, if_neg (ne 0 (by decide)), if_neg (ne 1 (by decide)), if_neg (ne 2 (by decide))]

theorem index_toNat {n : Nat} (fits : n < 256) : n = (BitVec.ofNat 8 n).toNat := by
  rw [BitVec.toNat_ofNat, Nat.mod_eq_of_lt (by simpa using fits)]

/-- Settles O35: DOSE START by the lease it names and the window; DOSE END by its result, the chain and the retries. -/
theorem dosesRunOnAHeldLease : Obligations.DosesRunOnAHeldLease := by
  unfold Obligations.DosesRunOnAHeldLease
  refine ⟨fun p c i s hears admitted => ?_, fun p result f l s hears admitted robot serving held dosing fits free => ?_⟩
  · intro q k robot gives
    have give {t : Part} (taken : takeDoseStart p c i q = t) : gives t := gives_admitted (serve := takeDoseStart p c i) rfl hears admitted taken
    have role (h : robot) : q.ports[p].cfg.role = .robot := heardAt_role.trans h
    refine ⟨fun other => give (takeDoseStart_wrongRole (by rw [heardAt_role]; exact other)),
      fun hr other => give (takeDoseStart_sequence (role hr) (startable_none other)), fun f l hr serving held idle container index => ?_⟩
    have taken := takeDoseStart_starts (s := q) (role hr) (startable_some serving held idle container index)
    refine ⟨fun inside => give (taken.trans ?_), fun out => give (taken.trans ?_)⟩
    · rw [show q.trk.inWindow p c = true from inside]
      rfl
    · rw [show q.trk.inWindow p c = false from out]
      have still : (refuse p .outOfWindow doseStartKind q).fco.feeds[f].state = .held l := by
        rw [refuse, sendStation_fco]
        exact held
      exact cut_idle still (by decide) idle
  · intro q timer gives ends
    have mine : l.port = p := feedServing_port serving (by rw [held]; rfl)
    have endable : s.part.fco.endable p l.container (BitVec.ofNat 8 l.index) = some (f, l, false) :=
      endable_held serving held dosing rfl (index_toNat fits)
    have taken : takeDoseEnd p l.container (BitVec.ofNat 8 l.index) result (s.part.heardAt p) =
        doseEndHeld f l.ended (doseResultOf result) (q.idled f l) := by
      rw [takeDoseEnd_accepted (heardAt_role.trans robot) endable, acceptDoseEnd_held, mine]
    have accepted : acceptsDoseEnd p (s.part.heardAt p) = true := by rw [acceptsDoseEnd, portIn_heardAt admitted]; rfl
    have give {t : Part} (ended : doseEndHeld f l.ended (doseResultOf result) (q.idled f l) = t) : gives t :=
      gives_frame (serve := takeDoseEnd p l.container (BitVec.ofNat 8 l.index) result) rfl hears accepted (taken.trans ended)
    have restarted : q.timer q.fco.feeds[f].cfg.holdLimit = timer := by
      rw [meterInc_timer, meterInc_fco]
      rfl
    refine ⟨fun ok next => give ?_, fun ok last => give ?_, fun retry left => give ?_, fun retry spent => give ?_, fun short => give ?_,
      fun other => give ?_⟩
    · rw [ok, ← restarted]
      exact doseOk_next q next
    · rw [ok]
      exact doseOk_last q last free
    · rw [retry, ← restarted]
      exact doseRetry_again q left
    · rw [retry]
      exact doseRetry_third q spent free
    · rw [short]
      exact doseFailed_free q free .short
    · rw [doseResultOf_other other]
      exact doseFailed_free q free .fault

end Sys2Proof.Machine
end

section
/-! Late ends, hold timers and window departures (R65, R69, R73, R75, R80): the settling of LateEndsAndCutsEndTheLease. -/

namespace Sys2Proof.Machine

/-! ### DOSE END on a DRAINING lease, and late (R65, R75) -/

/-- R75: the requests by the result byte. -/
theorem drainRequests_of (f : Feed) (l : Lease) (result : Byte) : drainRequests f l (doseResultOf result) =
    if result = 0 then
      if l.index = l.granted ∧ l.after = 0 then [.doseDone l.container l.port f]
      else [.doseDone l.container l.port f, .fillEnd l.container l.port f .incomplete]
    else if result = 1 then [.fillEnd l.container l.port f .short]
    else if result = 2 then [.fillEnd l.container l.port f .incomplete]
    else [.fillEnd l.container l.port f .fault] := by
  unfold doseResultOf
  by_cases ok : result = 0
  · rw [if_pos ok, if_pos ok]
    rfl
  · by_cases short : result = 1
    · rw [if_neg ok, if_neg ok, if_pos short, if_pos short]
      rfl
    · by_cases retry : result = 2
      · rw [if_neg ok, if_neg ok, if_neg short, if_neg short, if_pos retry, if_pos retry]
        rfl
      · rw [if_neg ok, if_neg ok, if_neg short, if_neg short, if_neg retry, if_neg retry]
        rfl

theorem forEach_askTrk_setFeed (requests : List FillRequest) (f : Feed) (x : FeedState) (s : Part) :
    forEach requests askTrk (setFeed f x s) = setFeed f x (forEach requests askTrk s) := by
  rw [forEach_askTrk, forEach_askTrk]
  rfl

theorem acceptDoseEnd_draining (f : Feed) (l : Lease) (result : Byte) (s : Part) : acceptDoseEnd f l true (doseResultOf result) s =
    arbitrate f (finishLease f l.ended true (setFeed f (.draining l.ended)
      (forEach (drainRequests f l (doseResultOf result)) askTrk (meterInc (meterA l.port) s)))) := by
  rw [← forEach_askTrk_setFeed]
  cases doseResultOf result <;> rfl

theorem drainsFor_iff {k : Fco} {p : Port} : k.drainsFor p = true ↔ ∃ (f : Feed) (l : Lease), k.feeds[f].state = .draining l ∧ l.port = p := by
  rw [Fco.drainsFor, List.any_eq_true]
  constructor
  · rintro ⟨f, -, drains⟩
    cases state : k.feeds[f].state with
    | draining l => exact ⟨f, l, state, by rw [state] at drains; exact eq_of_beq drains⟩
    | closed | free | granted _ | held _ => rw [state] at drains; cases drains
  · rintro ⟨f, l, state, port⟩
    refine ⟨f, List.mem_finRange f, ?_⟩
    rw [state]
    exact beq_iff_eq.mpr port

theorem hasDoseEndNote_iff {k : Fco} {p : Port} : k.hasDoseEndNote p = true ↔ ∃ c i, k.notes[p] = some (.doseEnd c i) := by
  rw [Fco.hasDoseEndNote]
  cases k.notes[p] with
  | none => simp
  | some n => cases n <;> simp

/-- R65: FCO takes DOSE END of an ADMITTED port, and of a LISTENING one for which a feed drains or a DOSE END note stands. -/
theorem acceptsDoseEnd_heardAt {s : Part} {p : Port} (passes : s.ports[p].admission = .admitted ∨ s.ports[p].admission = .listening ∧
    ((∃ (f : Feed) (l : Lease), s.fco.feeds[f].state = .draining l ∧ l.port = p) ∨ ∃ c i, s.fco.notes[p] = some (.doseEnd c i))) :
    acceptsDoseEnd p (s.heardAt p) = true := by
  rw [acceptsDoseEnd, Bool.or_eq_true, Bool.and_eq_true, Bool.or_eq_true]
  rcases passes with admitted | ⟨listening, drains | noted⟩
  · exact .inl (portIn_heardAt admitted)
  · exact .inr ⟨portIn_heardAt listening, .inl (drainsFor_iff.mpr drains)⟩
  · exact .inr ⟨portIn_heardAt listening, .inr (hasDoseEndNote_iff.mpr noted)⟩

section
variable {s : Part} {p : Port} {c : Half} {i result : Byte}

theorem takeDoseEnd_wrongRole (other : s.ports[p].cfg.role ≠ .robot) : takeDoseEnd p c i result s = refuse p .wrongRole doseEndKind s :=
  if_pos (bne_iff_ne.mpr other)

theorem takeDoseEnd_unleased (robot : s.ports[p].cfg.role = .robot) (none : s.fco.endable p c i = .none) : takeDoseEnd p c i result s =
    if s.fco.notes[p] = some (.doseEnd c i.toNat) then meterInc (meterA p) (refuse p .late doseEndKind (setNote p .none s))
    else refuse p .sequence doseEndKind s := by
  rw [takeDoseEnd, robot, none]
  rfl

end

/-! ### The hold timer (R69) -/

/-- The DOSE END note and the notice of the timeout do not depend on the order in which the lease ends. -/
theorem leaseTimeout_eq (f : Feed) (l : Lease) (drained : Bool) (s : Part) : leaseTimeout f l drained s =
    arbitrate f (setNote l.port (some (.doseEnd l.container l.index)) (raise (.feedTimeout f l.port l.container l.index)
      (finishLease f l drained (askTrk (.fillEnd l.container l.port f .timeout) s)))) := by
  refine congrArg (arbitrate f) ?_
  rw [finishLease_eq, finishLease_eq]
  cases drained <;> rfl

section
variable {f : Feed} {s : Part}

theorem holdExpiry_due {l : Lease} {drained : Bool} (active : s.active = true)
    (state : s.fco.feeds[f].state = if drained then .draining l else .held l) (due : s.due l.timer = true) :
    holdExpiry f s = leaseTimeout f l drained s := by
  cases drained with
  | true =>
    have state : s.fco.feeds[f].state = .draining l := state
    rw [holdExpiry, state]
    dsimp only
    rw [active, due]
    rfl
  | false =>
    have state : s.fco.feeds[f].state = .held l := state
    rw [holdExpiry, state]
    dsimp only
    rw [active, due]
    rfl

theorem holdExpiry_running
    (running : s.active = true → ∀ l, s.fco.feeds[f].state = .held l ∨ s.fco.feeds[f].state = .draining l → s.due l.timer = false) :
    holdExpiry f s = s := by
  have idle (l : Lease) (here : s.fco.feeds[f].state = .held l ∨ s.fco.feeds[f].state = .draining l) :
      ¬ (s.active && s.due l.timer) = true := by
    rw [Bool.and_eq_true]
    rintro ⟨active, due⟩
    rw [running active l here] at due
    cases due
  rw [holdExpiry]
  cases state : s.fco.feeds[f].state with
  | held l => exact if_neg (idle l (.inl state))
  | draining l => exact if_neg (idle l (.inr state))
  | closed | free | granted _ => rfl

theorem takeExpiry_inactive (inactive : s.active = false) : takeExpiry f s = s := by
  rw [takeExpiry, inactive]
  cases s.fco.feeds[f].state <;> rfl

end

/-! ### WINDOW LEFT (R73) -/

section
variable {c : Half} {p : Port} {f : Feed} {s : Part}

theorem windowLeft_leased {l : Lease} (leased : s.fco.feeds[f].state.lease? = some l) (port : l.port = p) (container : l.container = c) :
    windowLeft c p f s = cut f .departure s := by
  refine if_pos ?_
  rw [leased, Option.any_some, Bool.and_eq_true]
  exact ⟨beq_iff_eq.mpr port, beq_iff_eq.mpr container⟩

/-- A message for something else than the feed's grant or lease, or for a lease that drains, changes nothing. -/
theorem windowLeft_other (other : ∀ l, (s.fco.feeds[f].state = .granted l ∨ s.fco.feeds[f].state = .held l) → l.port = p → l.container ≠ c) :
    windowLeft c p f s = s := by
  have away (l : Lease) (here : s.fco.feeds[f].state = .granted l ∨ s.fco.feeds[f].state = .held l) :
      ¬ (l.port == p && l.container == c) = true := by
    rw [Bool.and_eq_true, beq_iff_eq, beq_iff_eq]
    exact fun ⟨port, container⟩ => other l here port container
  unfold windowLeft cut
  cases state : s.fco.feeds[f].state with
  | granted l => exact if_neg (away l (.inl state))
  | held l => exact if_neg (away l (.inr state))
  | closed | free | draining _ => exact ite_self _

end

/-- Settles O36: DOSE END on a DRAINING lease and after its end; the hold timer; WINDOW LEFT as a cut. -/
theorem lateEndsAndCutsEndTheLease : Obligations.LateEndsAndCutsEndTheLease := by
  unfold Obligations.LateEndsAndCutsEndTheLease
  refine ⟨fun p s hears => ?_, ⟨fun f l drained s active state due => ?_, fun f s running => ?_⟩, fun c p f s active sent => ?_,
    fun f p c a s run quiet => ?_⟩
  · intro r k passes q
    have give {c : Half} {i result : Byte} (passed : passes) {t : Part} (taken : takeDoseEnd p c i result q = t) :
        Gives (.doseEnd p c i result) s t :=
      gives_frame (serve := takeDoseEnd p c i result) rfl hears (acceptsDoseEnd_heardAt passed) taken
    refine ⟨fun result f l passed robot serving draining dosing fits => ?_, fun c i result passed => ⟨fun other => ?_, fun robot none => ?_⟩⟩
    · intro requests counted
      have mine : l.port = p := feedServing_port serving (by rw [draining]; rfl)
      have endable : q.fco.endable p l.container (BitVec.ofNat 8 l.index) = some (f, l, true) :=
        endable_draining serving draining dosing rfl (index_toNat fits)
      refine give passed ((takeDoseEnd_accepted (heardAt_role.trans robot) endable).trans ?_)
      have counts : meterInc (meterA l.port) (s.part.heardAt p) = counted := by rw [mine]
      rw [acceptDoseEnd_draining, drainRequests_of, counts]
      rfl
    · exact give passed (takeDoseEnd_wrongRole (fun h => other (heardAt_role.symm.trans h)))
    · have taken := takeDoseEnd_unleased (s := q) (result := result) (heardAt_role.trans robot) none
      exact ⟨fun noted => give passed (taken.trans (if_pos noted)), fun unnoted => give passed (taken.trans (if_neg unnoted))⟩
  · exact gives_of_act (f := holdExpiry f) rfl ((holdExpiry_due ((active_iff _).mpr active) state due).trans (leaseTimeout_eq f l drained _))
  · exact gives_of_act (f := holdExpiry f) rfl (holdExpiry_running fun _ => running)
  · intro q gives
    have give {t : Part} (left : windowLeft c p f q = t) : gives t := by
      refine gives_of_act rfl ((if_pos ?_).trans left)
      rw [(active_iff _).mpr active, List.contains_iff_mem.mpr sent]
      rfl
    refine ⟨fun l granted port container => give ?_, fun l held port container => ?_, fun other => give (windowLeft_other other)⟩
    · rw [windowLeft_leased (by rw [granted]; rfl) port container, cut_granted (s := q) granted (by decide), ← port, ← container]
      rfl
    · have left : windowLeft c p f q = cut f .departure q := windowLeft_leased (by rw [held]; rfl) port container
      refine ⟨fun idle => give (left.trans ?_), fun dosing => give (left.trans ?_)⟩
      · rw [← port, ← container]
        exact cut_idle held (by decide) idle
      · rw [← port]
        exact cut_dosing held (by decide) dosing
  · have inactive := inactive_of run quiet
    refine ⟨gives_of_act (f := takeExpiry f) rfl (takeExpiry_inactive inactive),
      gives_of_act (f := holdExpiry f) rfl (holdExpiry_running fun active => ?_),
      gives_of_act (f := takeAnswer p a) rfl (if_neg ?_), gives_of_act rfl (if_neg ?_)⟩
    · rw [inactive] at active
      cases active
    all_goals
      rw [inactive]
      exact Bool.false_ne_true

end Sys2Proof.Machine
end

section
/-! FEED OPEN and FEED CLOSE (R48, R49, R62, R72, R76): the settling of FeedsOpenAndClose. -/

namespace Sys2Proof.Machine

/-! ### Frames handed over for several ports -/

/-- The record of a port that frames go out to. -/
def PortRec.told (frames : List (List Byte)) (r : PortRec) : PortRec := { r with sent := if r.link then r.sent ++ frames else r.sent }

theorem PortRec.told_nil (r : PortRec) : r.told [] = r := by
  rw [PortRec.told, List.append_nil, ite_self]

theorem PortRec.told_told (a b : List (List Byte)) (r : PortRec) : (r.told a).told b = r.told (a ++ b) := by
  unfold told
  cases r.link with
  | false => rfl
  | true => simp only [if_true, List.append_assoc]

theorem each_each {α : Type} {n : Nat} (v : Vector α n) (f g : Fin n → α → α) : each (each v f) g = each v fun i a => g i (f i a) :=
  Vector.ext fun i hi => by simp only [each_getElem]

theorem each_same {α : Type} {n : Nat} {v : Vector α n} {f : Fin n → α → α} (same : ∀ i a, f i a = a) : each v f = v :=
  Vector.ext fun i hi => by simp only [each_getElem, same]

theorem each_congr {α : Type} {n : Nat} {v : Vector α n} {f g : Fin n → α → α} (same : ∀ i a, f i a = g i a) : each v f = each v g :=
  congrArg (each v) (funext fun i => funext (same i))

theorem upd_given (v : Vector PortRec 12) (p : Port) (x : StationOut) :
    upd v p (·.given x) = each v fun q r => r.told (if p = q then [x.bytes] else []) := by
  refine Vector.ext fun i hi => ?_
  rw [upd_getElem, each_getElem]
  by_cases here : p.val = i
  · rw [if_pos here, if_pos (Fin.ext here)]
    rfl
  · rw [if_neg here, if_neg (fun same => here (congrArg Fin.val same)), PortRec.told_nil]

/-- R92: in RUN and QUIET, a frame as a change of the ports' records. -/
theorem sendStation_told {s : Part} (active : s.active = true) (p : Port) (x : StationOut) :
    sendStation p x s = { s with ports := each s.ports fun q r => r.told (if p = q then [x.bytes] else []) } := by
  rw [sendStation_active active, modPort, upd_given]

/-! ### Steps 1 to 3 of a close: the queue and the claims (R76) -/

/-- The queue entries of a port are told FEED-CLOSED. -/
def closedFrames (q : List QueueEntry) (p : Port) : List (List Byte) :=
  (q.filter fun e => e.port == p).map fun _ => (StationOut.refuse .feedClosed claimKind).bytes

theorem closedFrames_cons (e : QueueEntry) (q : List QueueEntry) (p : Port) :
    closedFrames (e :: q) p = (if e.port = p then [(StationOut.refuse .feedClosed claimKind).bytes] else []) ++ closedFrames q p := by
  rw [closedFrames, List.filter_cons]
  by_cases mine : e.port = p
  · rw [if_pos (beq_iff_eq.mpr mine), if_pos mine]
    rfl
  · rw [if_neg (mt beq_iff_eq.mp mine), if_neg mine]
    rfl

theorem forEach_refuseEntry (f : Feed) (q : List QueueEntry) {s : Part} (active : s.active = true) :
    forEach q (fun e s => releaseEntry f e (refuse e.port .feedClosed claimKind s)) s = { s with
      ports := each s.ports fun p r => r.told (closedFrames q p)
      fco := { s.fco with toTrk := s.fco.toTrk ++ q.map fun e => releaseRequest f e.port e.container e.remnant } } := by
  induction q generalizing s with
  | nil =>
    rw [each_same fun p r => r.told_nil, List.map_nil, List.append_nil]
    rfl
  | cons e q ih =>
    rw [forEach_cons, refuse, sendStation_told active]
    refine (ih (by exact active)).trans ?_
    have ports : each (each s.ports fun p r => r.told (if e.port = p then [(StationOut.refuse .feedClosed claimKind).bytes] else []))
        (fun p r => r.told (closedFrames q p)) = each s.ports fun p r => r.told (closedFrames (e :: q) p) := by
      rw [each_each]
      exact each_congr fun p r => by rw [PortRec.told_told, closedFrames_cons]
    refine (congrArg (fun v => ({ s with
      ports := v
      fco := { s.fco with toTrk := (s.fco.toTrk ++ [releaseRequest f e.port e.container e.remnant]) ++
        (q.map fun e => releaseRequest f e.port e.container e.remnant) } } : Part)) ports).trans ?_
    rw [List.append_assoc]
    rfl

/-- R76 steps 1 to 3: the end target is CLOSED, the queue is empty, the claims in reservation are void. -/
def Part.emptied (s : Part) (f : Feed) : Part := { s with
  ports := each s.ports fun p r => r.told (closedFrames s.fco.feeds[f].queue p)
  fco := { s.fco with
    feeds := upd s.fco.feeds f fun r => { r with state := r.state.closing, queue := [] }
    claims := each s.fco.claims fun _ k => k.map fun k => if k.feed = f then { k with void := k.void <|> some .feedClosed } else k
    toTrk := s.fco.toTrk ++ s.fco.feeds[f].queue.map fun e => releaseRequest f e.port e.container e.remnant } }

theorem emptied_feed (s : Part) (f : Feed) : (s.emptied f).fco.feeds[f] = { s.fco.feeds[f] with state := s.fco.feeds[f].state.closing, queue := [] } :=
  upd_self _ _ _

/-! ### Step 4: the grant or lease (R62, R72, R76) -/

/-- The state a FEED CLOSE leaves a feed in. -/
def FeedState.shut : FeedState → FeedState
  | .held l => if l.inFlight then .draining { l with target := .closed } else .closed
  | .draining l => .draining { l with target := .closed }
  | .closed | .free | .granted _ => .closed

/-- R60, R72: the request that ends what a FEED CLOSE cuts. -/
def FeedState.cutRequests (f : Feed) : FeedState → List FillRequest
  | .granted l => [releaseRequest f l.port l.container l.remnant]
  | .held l => if l.inFlight then [] else [.fillEnd l.container l.port f .incomplete]
  | _ => []

/-- R62, R72: the frame to the robot whose grant or lease a FEED CLOSE cuts. -/
def FeedState.cutFrames (f : Feed) (p : Port) : FeedState → List (List Byte)
  | .granted l => if l.port = p then [(StationOut.lapse f).bytes] else []
  | .held l => if l.port = p then [(StationOut.withdrawFeed f).bytes] else []
  | _ => []

/-- R63: the TAKE note of a grant that lapses. -/
def FeedState.cutNotes (f : Feed) (notes : Vector (Option LateNote) 12) : FeedState → Vector (Option LateNote) 12
  | .granted l => notes.set l.port (some (.take f))
  | _ => notes

/-- R136: the drain of a lease with a dose in flight. -/
def FeedState.cutDrain (v : Sva) : FeedState → Sva
  | .held l => if l.inFlight then { v with draining := v.draining.set l.port true } else v
  | _ => v

/-- R76 step 4: the part once the feed's grant or lease, of the state before the close, is cut. -/
def Part.shutAt (s : Part) (f : Feed) (x : FeedState) : Part := { s with
  ports := each s.ports fun p r => r.told (x.cutFrames f p)
  fco := { s.fco with
    feeds := upd s.fco.feeds f fun r => { r with state := x.shut }
    notes := x.cutNotes f s.fco.notes
    toTrk := s.fco.toTrk ++ x.cutRequests f }
  sva := x.cutDrain s.sva }

section
variable {f : Feed} {x : FeedState} {s : Part}

theorem shutAt_feed : (s.shutAt f x).fco.feeds[f] = { s.fco.feeds[f] with state := x.shut } := upd_self _ _ _

theorem settleClose_none (settled : s.fco.feeds[f].closing = none) : settleClose f s = s := by rw [settleClose, settled]

/-- A lease that a FEED CLOSE ends at once leaves the feed CLOSED; no reply waits on it. -/
theorem finishLease_closed {l : Lease} (target : l.target = .closed) (settled : s.fco.feeds[f].closing = none) :
    finishLease f l false s = setFeed f .closed s := by
  rw [finishLease, target]
  exact settleClose_none ((congrArg FeedRec.closing (setFeed_feed f .closed s)).trans settled)

theorem arbitrate_closed (closed : s.fco.feeds[f].state = .closed) : arbitrate f s = s := arbitrate_busy (by rw [closed]; exact FeedState.noConfusion)

variable (active : s.active = true) (state : s.fco.feeds[f].state = x.closing) (settled : s.fco.feeds[f].closing = none)
include active state settled

theorem cut_closing (busy : x ≠ .free) (open_ : x ≠ .closed) : cut f .close s = s.shutAt f x := by
  cases x with
  | closed => exact absurd rfl open_
  | free => exact absurd rfl busy
  | granted l =>
    rw [cut_granted state (by decide), lapse, sendStation_told active]
    exact arbitrate_closed (setFeed_state _ f .closed)
  | held l =>
    cases dosing : l.inFlight with
    | true =>
      rw [cut_dosing state (by decide) dosing, sendStation_told active, Part.shutAt, FeedState.shut, FeedState.cutRequests, FeedState.cutDrain,
        if_pos dosing, if_pos dosing, if_pos dosing, List.append_nil]
      rfl
    | false =>
      have idle : ¬ l.inFlight = true := Bool.eq_false_iff.mp dosing
      rw [cut_idle state (by decide) dosing, sendStation_told active, Part.shutAt, FeedState.shut, FeedState.cutRequests, FeedState.cutDrain,
        if_neg idle, if_neg idle, if_neg idle, finishLease_closed (l := { l with target := .closed }) rfl (by exact settled)]
      exact arbitrate_closed (setFeed_state _ f .closed)
  | draining l =>
    have same : upd s.fco.feeds f (fun r => { r with state := (FeedState.draining l).shut }) = s.fco.feeds := by
      refine (upd_congr (g := id) ?_).trans (Vector.set_getElem_self _)
      exact congrArg (fun y => ({ s.fco.feeds[f] with state := y } : FeedRec)) state.symm
    rw [cut, state, Part.shutAt, same, each_same fun p r => r.told_nil]
    exact congrArg (fun q => ({ s with fco := { s.fco with toTrk := q } } : Part)) (List.append_nil _).symm

theorem cut_or_close (open_ : x ≠ .closed) :
    (if (cut f .close s).fco.feeds[f].state = .free then setFeed f .closed (cut f .close s) else cut f .close s) = s.shutAt f x := by
  by_cases free : x = .free
  · subst free
    have untouched : cut f .close s = s := by rw [cut, state]; rfl
    rw [untouched, if_pos (show s.fco.feeds[f].state = .free from state), Part.shutAt, each_same fun p r => r.told_nil]
    exact congrArg (fun q => ({ setFeed f .closed s with fco := { (setFeed f .closed s).fco with toTrk := q } } : Part)) (List.append_nil _).symm
  · rw [cut_closing active state settled free open_]
    refine if_neg ?_
    rw [shutAt_feed]
    cases x with
    | held l =>
      rw [FeedState.shut]
      split <;> exact FeedState.noConfusion
    | closed | free | granted _ | draining _ => exact FeedState.noConfusion

end

theorem shutFeed_eq {f : Feed} {s : Part} (active : s.active = true) (open_ : s.fco.feeds[f].state ≠ .closed)
    (settled : s.fco.feeds[f].closing = none) : shutFeed f s = (s.emptied f).shutAt f s.fco.feeds[f].state := by
  have here := emptied_feed s f
  rw [shutFeed, forEach_refuseEntry f _ (by exact active)]
  exact cut_or_close (s := s.emptied f) active (congrArg FeedRec.state here) ((congrArg FeedRec.closing here).trans settled) open_

theorem Part.eq_of_fields {s t : Part} (psc : s.psc = t.psc) (hlc : s.hlc = t.hlc) (ports : s.ports = t.ports) (prv : s.prv = t.prv)
    (trk : s.trk = t.trk) (fco : s.fco = t.fco) (sva : s.sva = t.sva) (mtu : s.mtu = t.mtu) (nvs : s.nvs = t.nvs) : s = t := by
  obtain ⟨⟩ := s
  obtain ⟨⟩ := t
  subst psc hlc ports prv trk fco sva mtu nvs
  rfl

theorem closeFeed_shuts {f : Feed} {s u : Part} (open_ : s.fco.feeds[f].state ≠ .closed) (settled : s.fco.feeds[f].closing = none)
    (shut : shutFeed f s = u) (h : Nat) : closeFeed h f s =
      if u.fco.feeds[f].state = .closed then reply h .done u else modFeed f (fun r => { r with closing := some h }) u := by
  rw [closeFeed, if_neg open_, if_neg (by rw [settled]; exact Bool.false_ne_true), shut]

theorem shut_ports (s : Part) (f : Feed) (x : FeedState) : ((s.emptied f).shutAt f x).ports =
    each s.ports fun p r => r.told (closedFrames s.fco.feeds[f].queue p ++ x.cutFrames f p) := by
  refine (each_each s.ports _ _).trans (congrArg (each s.ports) (funext fun p => funext fun r => ?_))
  exact PortRec.told_told _ _ r

/-- FCO once the feed is shut: everything but the record of the pending reply. -/
def Fco.shut (c : Fco) (f : Feed) (closing : Option Nat) : Fco := { c with
  feeds := upd c.feeds f fun r => { r with state := r.state.shut, queue := [], closing := closing }
  claims := each c.claims fun _ k => k.map fun k => if k.feed = f then { k with void := k.void <|> some .feedClosed } else k
  notes := c.feeds[f].state.cutNotes f c.notes
  toTrk := c.toTrk ++ (c.feeds[f].queue.map fun e => releaseRequest f e.port e.container e.remnant) ++ c.feeds[f].state.cutRequests f }

theorem shut_fco (s : Part) (f : Feed) (settled : s.fco.feeds[f].closing = none) :
    ((s.emptied f).shutAt f s.fco.feeds[f].state).fco = s.fco.shut f none := by
  have feeds : ((s.emptied f).shutAt f s.fco.feeds[f].state).fco.feeds = (s.fco.shut f none).feeds := by
    have emptied : (s.emptied f).fco.feeds = upd s.fco.feeds f fun r => { r with state := r.state.closing, queue := [] } := rfl
    have shut : ((s.emptied f).shutAt f s.fco.feeds[f].state).fco.feeds =
        upd (s.emptied f).fco.feeds f fun r => { r with state := s.fco.feeds[f].state.shut } := rfl
    have wanted : (s.fco.shut f none).feeds = upd s.fco.feeds f fun r => { r with state := r.state.shut, queue := [], closing := none } := rfl
    rw [shut, emptied, wanted, upd_upd]
    exact upd_congr (by rw [settled])
  exact congrArg (fun v => ({ s.fco.shut f none with feeds := v } : Fco)) feeds

theorem shut_pending (c : Fco) (f : Feed) (h : Nat) :
    ({ c.shut f none with feeds := upd (c.shut f none).feeds f fun r => { r with closing := some h } } : Fco) = c.shut f (some h) := by
  have feeds : upd (c.shut f none).feeds f (fun r => { r with closing := some h }) = (c.shut f (some h)).feeds := by
    rw [Fco.shut, Fco.shut, upd_upd]
  exact congrArg (fun v => ({ c.shut f none with feeds := v } : Fco)) feeds

theorem closeFeed_closes {f : Feed} {s : Part} (active : s.active = true) (open_ : s.fco.feeds[f].state ≠ .closed)
    (settled : s.fco.feeds[f].closing = none) (closed : s.fco.feeds[f].state.shut = .closed) (h : Nat) : closeFeed h f s = { s with
      hlc := s.hlc.reply h .done []
      ports := each s.ports fun p r => r.told (closedFrames s.fco.feeds[f].queue p ++ s.fco.feeds[f].state.cutFrames f p)
      fco := s.fco.shut f none
      sva := s.fco.feeds[f].state.cutDrain s.sva } := by
  have state : ((s.emptied f).shutAt f s.fco.feeds[f].state).fco.feeds[f].state = .closed := by rw [shutAt_feed]; exact closed
  rw [closeFeed_shuts open_ settled (shutFeed_eq active open_ settled), if_pos state]
  exact Part.eq_of_fields rfl rfl (shut_ports s f s.fco.feeds[f].state) rfl rfl (shut_fco s f settled) rfl rfl rfl

theorem closeFeed_waits {f : Feed} {s : Part} (active : s.active = true) (open_ : s.fco.feeds[f].state ≠ .closed)
    (settled : s.fco.feeds[f].closing = none) (drains : s.fco.feeds[f].state.shut ≠ .closed) (h : Nat) : closeFeed h f s = { s with
      ports := each s.ports fun p r => r.told (closedFrames s.fco.feeds[f].queue p ++ s.fco.feeds[f].state.cutFrames f p)
      fco := s.fco.shut f (some h)
      sva := s.fco.feeds[f].state.cutDrain s.sva } := by
  have state : ((s.emptied f).shutAt f s.fco.feeds[f].state).fco.feeds[f].state ≠ .closed := by rw [shutAt_feed]; exact drains
  have fco : (modFeed f (fun r => { r with closing := some h }) ((s.emptied f).shutAt f s.fco.feeds[f].state)).fco = s.fco.shut f (some h) := by
    rw [modFeed_fco, shut_fco s f settled]
    exact shut_pending s.fco f h
  rw [closeFeed_shuts open_ settled (shutFeed_eq active open_ settled), if_neg state]
  exact Part.eq_of_fields rfl rfl (shut_ports s f s.fco.feeds[f].state) rfl rfl fco rfl rfl rfl

theorem closeFeed_shut {f : Feed} {s : Part} (active : s.active = true) (open_ : s.fco.feeds[f].state ≠ .closed)
    (settled : s.fco.feeds[f].closing = none) (h : Nat) : ∃ hlc closing, closeFeed h f s = { s with
      hlc := hlc
      ports := each s.ports fun p r => r.told (closedFrames s.fco.feeds[f].queue p ++ s.fco.feeds[f].state.cutFrames f p)
      fco := s.fco.shut f closing
      sva := s.fco.feeds[f].state.cutDrain s.sva } ∧
    (s.fco.feeds[f].state.shut = .closed → closing = none ∧ hlc = s.hlc.reply h .done []) ∧
    (s.fco.feeds[f].state.shut ≠ .closed → closing = some h ∧ hlc = s.hlc) := by
  by_cases closed : s.fco.feeds[f].state.shut = .closed
  · exact ⟨_, _, closeFeed_closes active open_ settled closed h, fun _ => ⟨rfl, rfl⟩, fun drains => absurd closed drains⟩
  · exact ⟨_, _, closeFeed_waits active open_ settled closed h, fun shut => absurd shut closed, fun _ => ⟨rfl, rfl⟩⟩

theorem cutRequests_eq (f : Feed) (x : FeedState) : x.cutRequests f = match x with
    | .granted l => [if l.remnant then .fillEnd l.container l.port f .incomplete else .clear l.container l.port]
    | .held l => if l.inFlight then [] else [.fillEnd l.container l.port f .incomplete]
    | _ => [] := by
  cases x <;> rfl

theorem cutFrames_eq (f : Feed) (p : Port) (x : FeedState) : x.cutFrames f p = match x with
    | .granted l => if l.port = p then [(StationOut.lapse f).bytes] else []
    | .held l => if l.port = p then [(StationOut.withdrawFeed f).bytes] else []
    | _ => [] := by
  cases x <;> rfl

theorem cutNotes_eq (f : Feed) (p : Port) (notes : Vector (Option LateNote) 12) (x : FeedState) : (x.cutNotes f notes)[p] = match x with
    | .granted l => if l.port = p then some (.take f) else notes[p]
    | _ => notes[p] := by
  cases x with
  | granted l => exact set_get notes l.port p _
  | closed | free | held _ | draining _ => rfl

theorem cutDrain_eq (v : Sva) (x : FeedState) : x.cutDrain v = match x with
    | .held l => if l.inFlight then { v with draining := v.draining.set l.port true } else v
    | _ => v := by
  cases x <;> rfl

/-- R72: only a lease with a dose in flight, and one that drains, goes on. -/
theorem shut_closed_iff {x : FeedState} (open_ : x ≠ .closed) : x.shut = .closed ↔
    ¬ ((∃ l, x = .held l ∧ l.inFlight = true) ∨ ∃ l, x = .draining l) := by
  cases x with
  | closed => exact absurd rfl open_
  | held l => cases dosing : l.inFlight <;> simp [FeedState.shut, dosing]
  | free | granted _ | draining _ => simp [FeedState.shut]

theorem shut_leased {x : FeedState} {l : Lease} (drains : (∃ l, x = .held l ∧ l.inFlight = true) ∨ ∃ l, x = .draining l)
    (leased : x = .held l ∨ x = .draining l) : x.shut = .draining { l with target := .closed } := by
  rcases leased with rfl | rfl
  · obtain ⟨l', same, dosing⟩ | ⟨l', other⟩ := drains
    · cases same
      exact if_pos dosing
    · cases other
  · rfl

theorem Part.serves.active {s : Part} {k : ReqKind} (serves : s.serves k) : s.active = true := by
  obtain ⟨state, -⟩ := serves
  exact (active_iff s).mpr (state.imp_right And.left)

/-- Settles O37: FEED OPEN by the feed's state; FEED CLOSE as one change of the part, by the state it finds the feed in. -/
theorem feedsOpenAndClose : Obligations.FeedsOpenAndClose := by
  unfold Obligations.FeedsOpenAndClose
  refine ⟨⟨fun tag n s serves => ⟨fun outside => ?_, fun f named => ⟨fun closed => ?_, fun open_ => ?_⟩⟩, fun tag n => ?_⟩,
    ⟨fun tag n s serves => ⟨fun outside => ?_, fun f named => ?_⟩, fun tag n => ?_⟩⟩
  · refine gives_of_serve rfl serves rfl (number_fits n) ?_
    rw [show feedOf (byteAt [n] 0).toNat = none from feedOf_outside outside]
    exact reply_entered serves.below _ _ _ _
  · refine gives_of_serve rfl serves rfl (number_fits n) ?_
    rw [show feedOf (byteAt [n] 0).toNat = some f from named ▸ feedOf_number f, orBadValue_some, openFeed]
    have ok : ((s.part.entered .feedOpen tag [n]).fco.feeds[f].state == .closed) = true := beq_iff_eq.mpr closed
    rw [ok, check_true]
    exact congrArg (modFeed f fun r => { r with state := .free, cfg := s.part.nvs.feeds[f] }) (reply_entered serves.below _ _ _ _)
  · refine gives_of_serve rfl serves rfl (number_fits n) ?_
    rw [show feedOf (byteAt [n] 0).toNat = some f from named ▸ feedOf_number f, orBadValue_some, openFeed]
    have refused : ((s.part.entered .feedOpen tag [n]).fco.feeds[f].state == .closed) = false := beq_eq_false_iff_ne.mpr open_
    rw [refused, check_false]
    exact reply_entered serves.below _ _ _ _
  · exact onlyInRun_of_takeRequest (fun _ => rfl) rfl rfl (number_fits n)
  · refine gives_of_serve rfl serves rfl (number_fits n) ?_
    rw [show feedOf (byteAt [n] 0).toNat = none from feedOf_outside outside]
    exact reply_entered serves.below _ _ _ _
  · intro r h
    have give {t : Part} (closes : closeFeed h f (s.part.entered .feedClose tag [n]) = t) : Gives (.feedClose tag [n]) s t := by
      refine gives_of_serve rfl serves rfl (number_fits n) ?_
      rw [show feedOf (byteAt [n] 0).toNat = some f from named ▸ feedOf_number f]
      exact closes
    refine ⟨fun closed => give ?_, fun open_ waits => give ?_, fun open_ settled => ?_⟩
    · rw [closeFeed, if_pos (by exact closed)]
      exact reply_entered serves.below _ _ _ _
    · rw [closeFeed, if_neg (by exact open_), if_pos (by exact waits)]
      exact reply_entered serves.below _ _ _ _
    · obtain ⟨hlc, closing, closes, ended, waits⟩ := closeFeed_shut (s := s.part.entered .feedClose tag [n]) serves.active open_ settled h
      have here : (s.part.fco.shut f closing).feeds[f] = { r with state := r.state.shut, queue := [], closing := closing } := upd_self _ _ _
      refine ⟨_, give closes, ?_, fun p => each_get _ _ p, fun g other => upd_ne _ _ (Ne.symm other), ?_, ?_, fun p => ⟨?_, ?_⟩, ?_,
        rfl, rfl, rfl, rfl, rfl, rfl⟩
      · exact (congrArg FeedRec.queue here).trans rfl
      · exact congrArg (s.part.fco.toTrk ++ r.queue.map (fun e => releaseRequest f e.port e.container e.remnant) ++ ·) (cutRequests_eq f r.state)
      · intro drains
        refine ⟨fun idle => ?_, fun dosing => ?_⟩
        · obtain ⟨unanswered, replied⟩ := ended ((shut_closed_iff open_).mpr idle)
          refine ⟨?_, ?_, ?_⟩
          · exact (congrArg FeedRec.state here).trans ((shut_closed_iff open_).mpr idle)
          · exact (congrArg FeedRec.closing here).trans unanswered
          · exact replied.trans (congrArg Part.hlc (reply_entered serves.below .feedClose tag [n] .done))
        · obtain ⟨pending, kept⟩ := waits fun closed => (shut_closed_iff open_).mp closed dosing
          refine ⟨(congrArg FeedRec.closing here).trans pending, kept, fun l leased => (congrArg FeedRec.state here).trans ?_⟩
          exact shut_leased dosing leased
      · refine (each_get _ _ p).trans (congrArg (fun frames => ({ s.part.ports[p] with
          sent := if s.part.ports[p].link then frames else s.part.ports[p].sent } : PortRec)) ?_)
        exact (List.append_assoc _ _ _).symm.trans (congrArg (_ ++ ·) (cutFrames_eq f p r.state))
      · exact cutNotes_eq f p s.part.fco.notes r.state
      · exact cutDrain_eq s.part.sva r.state
  · exact onlyInRun_of_takeRequest (fun _ => rfl) rfl rfl (number_fits n)

end Sys2Proof.Machine
end

section
/-! Outputs and frames sent (R39, R51, R92, R121, R136, R199): the settling of OutputsFollowTheState. -/

namespace Sys2Proof.Machine

theorem FeedState.permits_iff {x : FeedState} : x.permits = true ↔ ∃ l, x = .held l ∨ x = .draining l := by
  cases x <;> simp [FeedState.permits]

/-- R199: a station frame, its CRC as two bytes. -/
theorem stationFrame_eq (kind : Byte) (payload : List Byte) :
    let checked := [BitVec.ofNat 8 payload.length, kind] ++ payload
    stationFrame kind payload = [(0xC3 : Byte)] ++ checked ++ [(crc16 checked).setWidth 8, (crc16 checked >>> 8).setWidth 8] := by
  dsimp only
  rw [stationFrame, frame, le_half]
  rfl

theorem blockBytes_get (n : Block) {i : Nat} (inside : i < 16) : (blockBytes n)[i]? = some ((n >>> (8 * (15 - i))).setWidth 8) := by
  rw [blockBytes, List.getElem?_map, List.getElem?_range inside]
  rfl

theorem sendStation_out {s : Part} {p : Port} (out : s.active = true ∧ s.ports[p].link = true) (f : StationOut) :
    sendStation p f s = { s with ports := s.ports.set p { s.ports[p] with sent := s.ports[p].sent ++ [f.bytes] } } := by
  obtain ⟨active, up⟩ := out
  rw [sendStation_eq, active, up]
  rfl

theorem sendStation_dropped {s : Part} {p : Port} (dropped : s.active = false ∨ s.ports[p].link = false) (f : StationOut) :
    sendStation p f s = s := by
  rw [sendStation_eq]
  refine if_neg ?_
  rw [Bool.and_eq_true]
  rintro ⟨active, up⟩
  rcases dropped with inactive | down
  · rw [inactive] at active
    cases active
  · rw [down] at up
    cases up

set_option maxRecDepth 10000 in
/-- R199: the check value of the CRC over the digits 1 to 9. -/
theorem crc16_check : crc16 [0x31, 0x32, 0x33, 0x34, 0x35, 0x36, 0x37, 0x38, 0x39] = 0x29B1 := by decide

/-- Settles O38: each output is its definition; each frame is its KIND and PAYLOAD in `stationFrame`. -/
theorem outputsFollowTheState : Obligations.OutputsFollowTheState := by
  unfold Obligations.OutputsFollowTheState
  refine ⟨fun s => ⟨fun f => ?_, fun p => ?_, ?_⟩, fun p f s out => ?_, fun p f s dropped => ?_, fun f s => ?_, fun p why kind s => rfl,
    fun n => ⟨?_, fun i inside => blockBytes_get n inside⟩, fun n hall why whyReader kind session f c doses role d => ?_, rfl, rfl, rfl, crc16_check⟩
  · rw [Part.permitOutput, Bool.and_eq_true, active_iff, FeedState.permits_iff]
  · rw [Part.runEnable, Bool.and_eq_true, active_iff, Bool.or_eq_true, List.isEmpty_iff]
  · rw [Part.gateOutput, Bool.and_eq_true, active_iff]
  · exact sendStation_out (out.imp_left (active_iff s).mpr) f
  · exact sendStation_dropped (dropped.imp_left fun ⟨run, quiet⟩ => inactive_of run quiet) f
  · rw [sendReader]
    exact if_congr (active_iff s) rfl rfl
  · rw [blockBytes, List.length_map, List.length_range]
  · intro frame num
    have framed := stationFrame_eq
    refine ⟨framed _ _, ?_, framed _ _, framed _ _, framed _ _, framed _ _, framed _ _, framed _ _, framed _ _, framed _ _, framed _ _, ?_,
      framed _ _⟩
    · rw [List.append_assoc]
      exact framed 0x42 (blockBytes n ++ hall.bytes)
    · exact framed 0x42 (blockBytes n ++ [session, role.byte])

end Sys2Proof.Machine
end

section
/-! Station links (R81, R82, R87, R88, R105, R198, R199): the settling of LinksComeUpAndGoDown. -/

namespace Sys2Proof.Machine

/-! ### Something good received (R82, R105, R198) -/

/-- The record of a DARK port that hears its station. -/
def PortRec.lit (t : Timer) (r : PortRec) : PortRec := { r with linkTimer := t, link := true, admission := waitingState r }

section
variable {s : Part} {p : Port}

theorem heard_dark (dark : s.ports[p].admission = .dark) : heard p s =
    modPort p (·.lit (s.timer Config.linkTime)) (if s.ports[p].cfg.wake then wakeUp (.port p) s else s) := by
  have timed : (modPort p (fun r => { r with linkTimer := s.timer Config.linkTime }) s).ports[p] =
      { s.ports[p] with linkTimer := s.timer Config.linkTime } := upd_self _ _ _
  rw [heard, timed, dark]
  dsimp only
  have lit : modPort p (fun r => { r with link := true, admission := waitingState r })
      (modPort p (fun r => { r with linkTimer := s.timer Config.linkTime }) s) = modPort p (·.lit (s.timer Config.linkTime)) s :=
    modPort_modPort _ _ _ _
  cases s.ports[p].cfg.wake with
  | false => exact lit
  | true =>
    rw [if_pos rfl, if_pos rfl, wakeUp_eq, wakeUp_eq]
    by_cases quiet : s.psc.state = .quiet
    · rw [if_pos quiet, if_pos (by exact quiet)]
      exact congrArg (fun u : Part => (raise (.woken (.port p)) { u with psc := { s.psc with state := .run } })) lit
    · rw [if_neg quiet, if_neg (by exact quiet)]
      exact lit

/-- The link is up: what is heard from now on changes nothing until the clock moves. -/
theorem heardAt_again (timed : s.ports[p].linkTimer = s.timer Config.linkTime) (up : s.ports[p].link = true) : s.heardAt p = s := by
  refine modPort_same ?_
  rw [← timed, up, ite_self, ← up]

theorem wakeUp_timer (c : WokenCause) (s : Part) (d : Nat) : (wakeUp c s).timer d = s.timer d := by
  rw [wakeUp_eq]
  split <;> rfl

theorem wakeUp_active (c : WokenCause) {s : Part} (active : s.active = true) : (wakeUp c s).active = true := by
  rw [wakeUp_eq]
  split
  · rfl
  · exact active

/-- A DARK port that has heard its station: what is known of it then. -/
theorem heard_dark_port (dark : s.ports[p].admission = .dark) :
    (heard p s).ports[p] = s.ports[p].lit (s.timer Config.linkTime) ∧ (heard p s).timer = s.timer ∧
      (s.active = true → (heard p s).active = true) := by
  rw [heard_dark dark]
  cases s.ports[p].cfg.wake with
  | false => exact ⟨upd_self _ _ _, rfl, fun active => active⟩
  | true =>
    refine ⟨?_, funext fun d => wakeUp_timer (.port p) s d, fun active => wakeUp_active (.port p) active⟩
    rw [if_pos rfl, modPort_ports, wakeUp_ports, upd_self]

theorem lit_live (t : Timer) (r : PortRec) : (r.lit t).admission ≠ .dark := by
  rw [PortRec.lit, waitingState]
  cases r.parked <;> exact Admission.noConfusion

theorem heard_twice (dark : s.ports[p].admission = .dark) : heard p (heard p s) = heard p s := by
  obtain ⟨port, timer, -⟩ := heard_dark_port dark
  rw [heard_live (by rw [port]; exact lit_live _ _)]
  refine heardAt_again ?_ ?_
  · rw [port, timer]
    rfl
  · rw [port]
    rfl

end

/-! ### Frames of stations (R81, R90) -/

theorem portIn_iff {s : Part} {p : Port} {a : Admission} : portIn p [a] s = true ↔ s.ports[p].admission = a := by
  rw [portIn, List.contains_iff_mem, List.mem_singleton]

section
variable {s : Part} {p : Port} {kind : Byte}

theorem acceptsKind_admitted (admitted : s.ports[p].admission = .admitted) :
    s.acceptsKind p kind ↔ 0x03 ≤ kind.toNat ∧ kind.toNat ≤ 0x0B := by
  rw [Part.acceptsKind, admitted]

theorem acceptsKind_challenged (challenged : s.ports[p].admission = .challenged) :
    s.acceptsKind p kind ↔ kind = 0x02 ∨ kind = 0x04 := by
  rw [Part.acceptsKind, challenged]

theorem acceptsKind_listening (listening : s.ports[p].admission = .listening) :
    s.acceptsKind p kind ↔ kind = 0x01 ∨ kind = 0x04 ∨ kind = 0x09 ∧
      ((∃ (f : Feed) (l : Lease), s.fco.feeds[f].state = .draining l ∧ l.port = p) ∨ ∃ c i, s.fco.notes[p] = some (.doseEnd c i)) := by
  rw [Part.acceptsKind, listening]

/-- R93: REPORT is accepted in every state with a link. -/
theorem acceptsKind_report (live : s.ports[p].admission ≠ .dark) (settled : s.ports[p].admission ≠ .known) : s.acceptsKind p 0x04 := by
  rw [Part.acceptsKind]
  cases admission : s.ports[p].admission with
  | dark => exact absurd admission live
  | known => exact absurd admission settled
  | listening => exact .inr (.inl rfl)
  | challenged => exact .inr rfl
  | admitted => exact (by decide : 0x03 ≤ (0x04 : Byte).toNat ∧ (0x04 : Byte).toNat ≤ 0x0B)
  | parked | barred => rfl

theorem acceptsKind_doseEnd (accepts : acceptsDoseEnd p s = true) : s.acceptsKind p 0x09 := by
  rw [acceptsDoseEnd, Bool.or_eq_true, Bool.and_eq_true, Bool.or_eq_true, portIn_iff, portIn_iff, drainsFor_iff, hasDoseEndNote_iff] at accepts
  rcases accepts with admitted | ⟨listening, late⟩
  · exact (acceptsKind_admitted admitted).mpr (by decide)
  · exact (acceptsKind_listening listening).mpr (.inr (.inr ⟨rfl, late⟩))

end

/-- R81, R90: every good station frame is taken by the one rule, by its port and KIND; a frame that its port takes is of a kind that
the port's state accepts. -/
theorem exec_stationFrame {c : Instr} {p : Port} {kind : Byte} (frame : stationFrameOf c = some (p, kind)) :
    ∃ accepts serve, (∀ s, exec c s = act (stationFrameIn p kind accepts serve) s) ∧
      ∀ s : Part, s.ports[p].admission ≠ .dark → s.ports[p].admission ≠ .known → accepts s = true → s.acceptsKind p kind := by
  cases c with
  | stationRelay q d =>
    by_cases fits : d.length ≤ 64
    · rw [stationFrameOf, if_pos fits] at frame
      cases frame
      exact ⟨_, _, fun s => congrArg (act · s) (if_pos fits), fun s _ _ taken => (acceptsKind_admitted (portIn_iff.mp taken)).mpr (by decide)⟩
    · rw [stationFrameOf, if_neg fits] at frame
      cases frame
  | undefinedKind q k =>
    by_cases known : 1 ≤ k.toNat ∧ k.toNat ≤ 0x0B
    · rw [stationFrameOf, if_pos known] at frame
      cases frame
    · rw [stationFrameOf, if_neg known] at frame
      have undefined : isStationKind k = false := decide_eq_false known
      cases frame
      exact ⟨_, _, fun s => congrArg (act · s) (funext fun t => if_neg (by rw [undefined]; exact Bool.false_ne_true)),
        fun s _ _ taken => nomatch taken⟩
  | hello =>
    cases frame
    exact ⟨_, _, fun s => rfl, fun s _ _ taken => (acceptsKind_listening (portIn_iff.mp taken)).mpr (.inl rfl)⟩
  | proof =>
    cases frame
    exact ⟨_, _, fun s => rfl, fun s _ _ taken => (acceptsKind_challenged (portIn_iff.mp taken)).mpr (.inl rfl)⟩
  | report =>
    cases frame
    exact ⟨_, _, fun s => rfl, fun s live settled _ => acceptsKind_report live settled⟩
  | doseEnd =>
    cases frame
    exact ⟨_, _, fun s => rfl, fun s _ _ taken => acceptsKind_doseEnd taken⟩
  | disown | claim | cancel | take | doseStart | verdict =>
    cases frame
    exact ⟨_, _, fun s => rfl, fun s _ _ taken => (acceptsKind_admitted (portIn_iff.mp taken)).mpr (by decide)⟩
  | _ => cases frame

theorem stationFrameIn_deaf {s : Part} {p : Port} (deaf : s.active = false ∨ s.ports[p].hunting = true) (kind : Byte)
    (accepts : Part → Bool) (serve : Part → Part) : stationFrameIn p kind accepts serve s = s := by
  rw [stationFrameIn]
  rcases deaf with inactive | hunting
  · rw [inactive]
    rfl
  · rw [hunting]
    exact if_neg (by rw [Bool.not_true, Bool.and_false]; exact Bool.false_ne_true)

theorem stationFrameIn_hears {s : Part} {p : Port} (active : s.active = true) (hunting : s.ports[p].hunting = false) (kind : Byte)
    (accepts : Part → Bool) (serve : Part → Part) : stationFrameIn p kind accepts serve s = routeFrame p kind accepts serve (heard p s) := by
  rw [stationFrameIn, active, hunting]
  rfl

/-- R81, 11.3: the sizes by KIND. -/
theorem stationLengthFits_iff (kind : Byte) (n : Nat) : stationLengthFits kind n = true ↔
    (kind = 0x01 → n = 9) ∧ (kind = 0x02 → n = 32) ∧ (kind = 0x03 ∨ kind = 0x06 → n = 0) ∧
    (kind = 0x04 ∨ kind = 0x07 → n = 1) ∧ (kind = 0x05 ∨ kind = 0x09 ∨ kind = 0x0A → n = 4) ∧
    (kind = 0x08 → n = 3) ∧ (kind = 0x0B → n ≤ 64) := by
  simp only [← BitVec.toNat_inj]
  have relay : (decide (n ≤ Config.relayBytes) = true) = (n ≤ 64) := decide_eq_true_eq
  unfold stationLengthFits
  generalize kind.toNat = k
  split <;> simp_all

theorem stationFrameGood_iff (kind : Byte) (d : List Byte) (crc : Half) : stationFrameGood kind d crc = true ↔
    crc = crc16 ([BitVec.ofNat 8 d.length, kind] ++ d) ∧ stationLengthFits kind d.length = true := by
  rw [stationFrameGood, Bool.and_eq_true, frameGood, beq_iff_eq, eq_comm]
  rfl

theorem discardFrame_active {s : Part} (active : s.active = true) (p : Port) :
    discardFrame p s = { s with ports := s.ports.set p { s.ports[p] with hunting := true } } := if_pos active

theorem gives_discarded {s : State} {p : Port} {kind : Byte} {d : List Byte} {crc : Half} {t : Part}
    (judged : (if stationFrameGood kind d crc then s.part else discardFrame p s.part) = t) : Gives (.stationFrameDiscarded p kind d crc) s t :=
  gives_of_act (f := fun s => if stationFrameGood kind d crc then s else discardFrame p s) rfl judged

theorem discardFrame_inactive {s : Part} (inactive : s.active = false) (p : Port) : discardFrame p s = s :=
  if_neg (Bool.eq_false_iff.mp inactive)

/-! ### The link goes down (R82, R87, R88) -/

section
variable {s : Part} {p : Port}

theorem linkExpiry_idle (idle : s.active = false ∨ s.due s.ports[p].linkTimer = false) : linkExpiry p s = s := by
  refine if_neg ?_
  rw [Bool.and_eq_true]
  rintro ⟨active, due⟩
  rcases idle with inactive | running
  · rw [inactive] at active
    cases active
  · rw [running] at due
    cases due

theorem linkExpiry_due (active : s.active = true) (due : s.due s.ports[p].linkTimer = true) : linkExpiry p s =
    match s.ports[p].admission with
    | .barred => modPort p (fun r => { r with link := false, linkTimer := none, status := none }) s
    | .admitted => leaveAdmitted p .dark .linkDown (modPort p (fun r => { r with link := false, linkTimer := none, status := none }) s)
    | _ => setAdmission p .dark (endContext p (modPort p (fun r => { r with link := false, linkTimer := none, status := none }) s)) := by
  have dropped : (modPort p (fun r => { r with link := false, linkTimer := none, status := none }) s).ports[p] =
      { s.ports[p] with link := false, linkTimer := none, status := none } := upd_self _ _ _
  rw [linkExpiry, active, due, linkDown, dropped]
  cases s.ports[p].admission <;> rfl

end

/-- Settles O39: the idle marker by the port's state; good and discarded frames; the link timer by the port's state. -/
theorem linksComeUpAndGoDown : Obligations.LinksComeUpAndGoDown := by
  unfold Obligations.LinksComeUpAndGoDown
  refine ⟨⟨fun p s active => ?_, fun c p kind s t frame active hunting dark marked => ?_⟩, ⟨fun c p kind s frame deaf => ?_,
    fun p kind d crc s run quiet => ?_, fun p d s active long => ?_, fun p kind d crc s active => ?_⟩,
    fun p e s active timer reached => ?_, fun p s idle => ?_⟩
  · intro r timer heard' q
    refine gives_of_act (f := idleMarker p) rfl ((if_pos ((active_iff _).mpr active)).trans ?_)
    have freed : (modPort p (fun r => { r with hunting := false }) s.part).ports[p] = { r with hunting := false } := upd_self _ _ _
    have set (g : PortRec → PortRec) (heard : g { r with hunting := false } = heard') :
        modPort p g (modPort p (fun r => { r with hunting := false }) s.part) = q :=
      (modPort_modPort _ _ _ _).trans (congrArg (fun x => ({ s.part with ports := s.part.ports.set p x } : Part)) heard)
    by_cases dark : r.admission = .dark
    · have lit := set (·.lit timer) (if_pos dark).symm
      rw [heard_dark (by rw [freed]; exact dark), freed]
      by_cases wakes : r.cfg.wake = true ∧ s.part.psc.state = .quiet
      · obtain ⟨wake, quiet⟩ := wakes
        rw [if_pos (by exact wake), wakeUp_eq, if_pos (by exact quiet), if_pos ⟨dark, wake, quiet⟩]
        exact congrArg (fun u : Part => raise (.woken (.port p)) { u with psc := { s.part.psc with state := .run } }) lit
      · have asleep : ¬ (r.admission = .dark ∧ r.cfg.wake = true ∧ s.part.psc.state = .quiet) := fun ⟨_, wake⟩ => wakes wake
        by_cases wake : r.cfg.wake = true
        · rw [if_pos (by exact wake), wakeUp_eq, if_neg (by exact fun quiet => wakes ⟨wake, quiet⟩), if_neg asleep]
          exact lit
        · rw [if_neg (by exact wake), if_neg asleep]
          exact lit
    · rw [heard_live (by rw [freed]; exact dark), if_neg fun ⟨h, _⟩ => dark h]
      refine set _ ?_
      by_cases barred : r.admission = .barred
      · exact (congrArg (fun up => ({ r with hunting := false, linkTimer := timer, link := up } : PortRec)) (if_pos barred)).trans
          ((if_neg dark).trans (if_pos barred)).symm
      · exact (congrArg (fun up => ({ r with hunting := false, linkTimer := timer, link := up } : PortRec)) (if_neg barred)).trans
          ((if_neg dark).trans (if_neg barred)).symm
  · obtain ⟨accepts, serve, executes, -⟩ := exec_stationFrame frame
    have active := (active_iff _).mpr active
    have free : modPort p (fun r => { r with hunting := false }) s.part = s.part :=
      modPort_same (congrArg (fun h => ({ s.part.ports[p] with hunting := h } : PortRec)) hunting.symm)
    have heard' : t = { s with part := heard p s.part } := by
      have marks : exec (.idleMarker p) s = .next { s with part := heard p s.part } :=
        gives_of_act (f := idleMarker p) rfl ((if_pos active).trans (congrArg (heard p) free))
      rw [marks] at marked
      injection marked with same
      exact same.symm
    obtain ⟨port, -, stays⟩ := heard_dark_port dark
    have first := stationFrameIn_hears active hunting kind accepts serve
    have second := stationFrameIn_hears (s := heard p s.part) (stays active) (by rw [port]; exact hunting) kind accepts serve
    rw [heard', executes, executes, act_eq, act_eq, first, second, heard_twice dark]
  · obtain ⟨accepts, serve, executes, -⟩ := exec_stationFrame frame
    exact gives_of_act (executes s) (stationFrameIn_deaf (deaf.imp_left fun ⟨run, quiet⟩ => inactive_of run quiet) kind accepts serve)
  · have inactive := inactive_of run quiet
    refine ⟨gives_of_act (f := idleMarker p) rfl (if_neg (Bool.eq_false_iff.mp inactive)), gives_discarded ?_⟩
    rw [discardFrame_inactive inactive]
    exact ite_self _
  · refine gives_of_act ?_ (discardFrame_active ((active_iff _).mpr active) p)
    exact congrArg (act · s) (if_neg (Nat.not_le.mpr long))
  · intro fits good
    have sound : stationFrameGood kind d crc = true ↔ good := (stationFrameGood_iff kind d crc).trans (and_congr_right' (stationLengthFits_iff kind d.length))
    refine ⟨fun bad => gives_discarded ((if_neg (mt sound.mp bad)).trans (discardFrame_active ((active_iff _).mpr active) p)),
      fun ok => gives_discarded (if_pos (sound.mpr ok))⟩
  · intro q gives
    have due : s.part.due s.part.ports[p].linkTimer = true := by rw [timer]; exact decide_eq_true reached
    have expires := linkExpiry_due ((active_iff _).mpr active) due
    have give {t : Part} (down : linkExpiry p s.part = t) : gives t := gives_of_act (f := linkExpiry p) rfl down
    refine ⟨fun barred => give ?_, fun admitted => give ?_, fun free out => give ?_⟩
    · rw [expires, barred]
    · rw [expires, admitted]
    · rw [expires]
      cases admission : s.part.ports[p].admission with
      | barred => exact absurd admission free
      | admitted => exact absurd admission out
      | dark | listening | known | challenged | parked => rfl
  · exact gives_of_act (f := linkExpiry p) rfl (linkExpiry_idle (idle.imp_left fun ⟨run, quiet⟩ => inactive_of run quiet))

end Sys2Proof.Machine
end

section
/-! Admission of stations (R85 to R87, R109, R110): the settling of StationsAreAdmittedByProof. -/

namespace Sys2Proof.Machine

/-! ### HELLO (R85, R86) -/

section
variable {s : Part} {p : Port} {identity : Identity} {role : Byte}

theorem takeHello_quiet (quiet : s.psc.state = .quiet) : takeHello p identity role s = refuse p .notReady 0x01 s := if_pos quiet

theorem takeHello_held (run : s.psc.state = .run) (held : s.sva.holders[p] ≠ []) : takeHello p identity role s = refuse p .isolated 0x01 s := by
  have holds : (!s.sva.holders[p].isEmpty) = true := by rw [List.isEmpty_eq_false_iff.mpr held]; rfl
  rw [takeHello, if_neg (by rw [run]; exact PartState.noConfusion), if_pos holds]

theorem takeHello_bound (run : s.psc.state = .run) (free : s.sva.holders[p] = []) : takeHello p identity role s =
    match helloCheck s.nvs.ports[p] identity role with
    | some why => refuse p why 0x01 (loadBinding p s)
    | none => challengeStation p (loadBinding p s) := by
  have bound : (loadBinding p s).ports[p].cfg = s.nvs.ports[p] := congrArg PortRec.cfg (upd_self _ _ _)
  rw [takeHello, if_neg (by rw [run]; exact PartState.noConfusion), free]
  dsimp only
  rw [bound]
  rfl

/-- R86, R110: the challenge is one change of the port and of PRV. -/
theorem challengeStation_eq (active : s.active = true) {key : Block} (copied : s.prv.keys[s.ports[p].cfg.slot] = key) :
    challengeStation p s = modPort p (fun r => { r with
      admission := .challenged
      sent := if r.link then r.sent ++ [(StationOut.challenge (Config.freeNonce s.prv.draws)).bytes] else r.sent })
    { s with prv := { s.prv with
      contexts := s.prv.contexts.set p (some ⟨Config.freeNonce s.prv.draws, key, s.timer Config.proofTime⟩)
      draws := s.prv.draws + 1 } } := by
  rw [← copied, challengeStation, sendStation_active (by exact active), setAdmission, modPort_modPort]
  rfl

end

/-! ### PROOF and the proof timer (R87, R109, R110) -/

theorem goodProof_iff {key na nb proof : Block} : goodProof key na nb proof = true ↔ proof = proofValue key na nb ∧ nb ≠ na := by
  rw [goodProof, Bool.and_eq_true, beq_iff_eq, bne_iff_ne]

section
variable {s : Part} {p : Port} {nb proof : Block}

theorem takeProof_context {k : Context} (context : s.prv.contexts[p] = some k) : takeProof p nb proof s =
    if goodProof k.key k.nonce nb proof then admitPort p k nb s else failExchange p s := by
  rw [takeProof, context]

theorem admitPort_eq (active : s.active = true) (k : Context) : admitPort p k nb s =
    raise (.portState p .admitted .entry) (setCount (.port p) 0 (modPort p (fun r => { r with
        admission := .admitted
        sent := if r.link then r.sent ++ [(StationOut.welcome (proofValue k.key nb k.nonce) s.mtu.hall).bytes] else r.sent })
      (endContext p s))) := by
  rw [admitPort, sendStation_active (by exact active), setAdmission, modPort_modPort]
  rfl

/-- A port whose proof context has ended already only returns to its waiting state (log entry 17). -/
theorem unexpected_ended (challenged : s.ports[p].admission = .challenged) (ended : s.prv.contexts[p] = none) (kind : Byte) :
    unexpected p kind s = refuseIfListening p kind (modPort p (fun r => { r with admission := waitingState r }) s) := by
  rw [unexpected, challenged, ended]
  rfl

theorem refuseIfListening_waiting (kind : Byte) : refuseIfListening p kind (modPort p (fun r => { r with admission := waitingState r }) s) =
    if s.ports[p].parked then modPort p (fun r => { r with admission := waitingState r }) s
    else refuse p .notAdmitted kind (modPort p (fun r => { r with admission := waitingState r }) s) := by
  have waits : (modPort p (fun r => { r with admission := waitingState r }) s).ports[p].admission = waitingState s.ports[p] :=
    congrArg PortRec.admission (upd_self _ _ _)
  rw [refuseIfListening, waits, waitingState]
  cases s.ports[p].parked <;> rfl

theorem proofExpiry_due {k : Context} (active : s.active = true) (context : s.prv.contexts[p] = some k) (due : s.due k.timer = true) :
    proofExpiry p s = failExchange p s := by
  rw [proofExpiry, context]
  dsimp only
  rw [active, due]
  rfl

theorem proofExpiry_running (running : ∀ k, s.prv.contexts[p] = some k → s.due k.timer = false) : proofExpiry p s = s := by
  rw [proofExpiry]
  cases context : s.prv.contexts[p] with
  | none => rfl
  | some k =>
    dsimp only
    rw [running k context, Bool.and_false]
    rfl

end

/-- Settles O40: HELLO by the holds and the binding; PROOF by the context and the proof; the proof timer. -/
theorem stationsAreAdmittedByProof : Obligations.StationsAreAdmittedByProof := by
  unfold Obligations.StationsAreAdmittedByProof
  refine ⟨fun p identity role s hears listening => ?_, fun key x y => rfl, fun p nb proof k s hears challenged context => ?_,
    fun p k s active context due => ?_, fun p nb proof s hears challenged ended => ?_, fun p s running => ?_⟩
  · intro q c bound gives
    have give {t : Part} (taken : takeHello p identity role q = t) : gives t :=
      gives_frame (serve := takeHello p identity role) rfl hears (portIn_heardAt listening) taken
    refine ⟨fun quiet => give (takeHello_quiet quiet), fun run held => give (takeHello_held run held), fun run free => ?_⟩
    have taken := takeHello_bound (s := q) (identity := identity) (role := role) run free
    refine ⟨fun unbound => give (taken.trans ?_), fun used mine other => give (taken.trans ?_), fun used mine fits => ?_⟩
    · rw [show helloCheck q.nvs.ports[p] identity role = some .unbound from if_pos unbound]
      rfl
    · have listed : ¬ (c.role = .unused ∨ identity ≠ c.identity) := by rintro (unused | off); exacts [used unused, off mine]
      rw [show helloCheck q.nvs.ports[p] identity role = some .wrongRole from (if_neg listed).trans (if_pos other)]
      rfl
    · intro nonce
      have listed : ¬ (c.role = .unused ∨ identity ≠ c.identity) := by rintro (unused | off); exacts [used unused, off mine]
      refine give (taken.trans ?_)
      rw [show helloCheck q.nvs.ports[p] identity role = none from (if_neg listed).trans (if_neg fun other => other fits)]
      dsimp only
      have slot : (loadBinding p q).ports[p].cfg = c := congrArg PortRec.cfg (upd_self _ _ _)
      have active : (loadBinding p q).active = true := by
        obtain ⟨active, -, -⟩ := hears
        exact active
      exact challengeStation_eq active (congrArg (fun c : PortCfg => s.part.prv.keys[c.slot]) slot)
  · intro good ended
    have active : (s.part.heardAt p).active = true := by
      obtain ⟨active, -, -⟩ := hears
      exact active
    have taken := takeProof_context (s := s.part.heardAt p) (p := p) (nb := nb) (proof := proof) context
    refine ⟨fun sound => ?_, fun bad => ?_⟩
    · refine gives_frame (serve := takeProof p nb proof) rfl hears (portIn_heardAt challenged)
        ((taken.trans (if_pos (goodProof_iff.mpr sound))).trans ?_)
      rw [admitPort_eq (s := s.part.heardAt p) active k]
      rfl
    · exact gives_frame (serve := takeProof p nb proof) rfl hears (portIn_heardAt challenged)
        ((taken.trans (if_neg (mt goodProof_iff.mp bad))).trans rfl)
  · exact gives_of_act (f := proofExpiry p) rfl (proofExpiry_due ((active_iff _).mpr active) context due)
  · intro waiting
    refine gives_frame (serve := takeProof p nb proof) rfl hears (portIn_heardAt challenged) ?_
    have unanswered : takeProof p nb proof (s.part.heardAt p) = unexpected p 0x02 (s.part.heardAt p) := by
      rw [takeProof, show (s.part.heardAt p).prv.contexts[p] = none from ended]
    have parked : (s.part.heardAt p).ports[p].parked = s.part.ports[p].parked := by rw [heardAt_port]
    rw [unanswered, unexpected_ended (s := s.part.heardAt p) (by rw [heardAt_admission]; exact challenged) ended, refuseIfListening_waiting, parked]
    rfl
  · exact gives_of_act (f := proofExpiry p) rfl (proofExpiry_running running)

end Sys2Proof.Machine
end

section
/-! Failures counted, and barring (R89, R114 to R118, R178): the settling of FailuresAreCountedAndBar. -/

namespace Sys2Proof.Machine

/-! ### The one element of a list that is meant -/

theorem map_one {α : Type} {mine : α → Bool} {g : α → α} {before after : List α} {a : α} (one : mine a = true)
    (others : ∀ x ∈ before ++ after, mine x = false) :
    (before ++ a :: after).map (fun x => if mine x then g x else x) = before ++ g a :: after := by
  have same {l : List α} (none : ∀ x ∈ l, mine x = false) : l.map (fun x => if mine x then g x else x) = l := by
    refine (List.map_congr_left fun x hx => ?_).trans (List.map_id l)
    rw [none x hx]
    rfl
  rw [List.map_append, List.map_cons, one, same fun x hx => others x (List.mem_append_left after hx),
    same fun x hx => others x (List.mem_append_right before hx)]
  rfl

theorem any_one {α : Type} {mine : α → Bool} {before after : List α} {a : α} (one : mine a = true) :
    (before ++ a :: after).any mine = true :=
  List.any_eq_true.mpr ⟨a, List.mem_append_right before List.mem_cons_self, one⟩

/-! ### The FAILCOUNT job of a changed count (R114, R116, R178) -/

/-- The deferred mark is the subject's. -/
def Deferred.countsFor (d : Deferred) (who : Subject) : Bool :=
  match d with
  | .failcount w _ => w == who
  | .checkpoint => false

theorem Deferred.countsFor_iff {d : Deferred} {who : Subject} : d.countsFor who = true ↔ ∃ m, d = .failcount who m := by
  cases d with
  | failcount w l => simp [countsFor]
  | checkpoint => simp [countsFor]

theorem deferCount_eq (who : Subject) (lifts : Bool) (l : List Deferred) : deferCount who lifts l =
    if l.any (·.countsFor who) then l.map fun d => if d.countsFor who && lifts then .failcount who true else d
    else l ++ [.failcount who lifts] := rfl

theorem deferCount_new {who : Subject} {l : List Deferred} (none : ∀ m, Deferred.failcount who m ∉ l) (lifts : Bool) :
    deferCount who lifts l = l ++ [.failcount who lifts] := by
  rw [deferCount_eq, if_neg]
  rw [List.any_eq_true]
  rintro ⟨d, hd, mine⟩
  obtain ⟨m, rfl⟩ := Deferred.countsFor_iff.mp mine
  exact none m hd

theorem deferCount_joins {who : Subject} {before after : List Deferred} (others : ∀ m, Deferred.failcount who m ∉ before ++ after)
    (m lifts : Bool) :
    deferCount who lifts (before ++ .failcount who m :: after) = before ++ .failcount who (m || lifts) :: after := by
  have mine : (Deferred.failcount who m).countsFor who = true := Deferred.countsFor_iff.mpr ⟨m, rfl⟩
  have away : ∀ d ∈ before ++ after, d.countsFor who = false := fun d hd => Bool.eq_false_iff.mpr fun counts => by
    obtain ⟨m, rfl⟩ := Deferred.countsFor_iff.mp counts
    exact others m hd
  rw [deferCount_eq, if_pos (any_one (mine := fun d : Deferred => d.countsFor who) mine)]
  cases lifts with
  | true =>
    simp only [Bool.and_true]
    rw [map_one (mine := fun d : Deferred => d.countsFor who) mine away, Bool.or_true]
  | false =>
    simp only [Bool.and_false, Bool.false_eq_true, if_false, List.map_id', Bool.or_false]

/-- The store with the FAILCOUNT job of a changed count taken. -/
def Nvs.counted (n : Nvs) (who : Subject) (value : Nat) : Nvs :=
  let m : Nvs := { n with inFlight := if n.liftInFlight who then n.inFlight.map fun j => { j with body := j.body.marked } else n.inFlight }
  if n.queue.any (·.countsFor who) then
    { m with queue := n.queue.map fun j => if j.countsFor who then { j with body := j.body.withCount value (n.liftInFlight who) } else j }
  else if n.hasRoom then { m with queue := n.queue ++ [⟨.failcount who value (n.liftInFlight who) false, []⟩] }
  else { m with deferred := deferCount who (n.liftInFlight who) n.deferred }

theorem queueCount_eq (who : Subject) (value : Nat) (s : Part) : queueCount who value s = { s with nvs := s.nvs.counted who value } := by
  have flight : (if s.nvs.liftInFlight who then { s with nvs.inFlight := s.nvs.inFlight.map fun j => { j with body := j.body.marked } } else s) =
      { s with nvs.inFlight := if s.nvs.liftInFlight who then s.nvs.inFlight.map fun j => { j with body := j.body.marked } else s.nvs.inFlight } := by
    split <;> rfl
  unfold queueCount Nvs.counted
  dsimp only
  rw [flight]
  by_cases waits : s.nvs.queue.any (·.countsFor who) = true
  · rw [if_pos waits, if_pos waits]
  · by_cases room : s.nvs.hasRoom = true
    · rw [if_neg waits, if_neg waits, if_pos (by exact room), if_pos room]
      rfl
    · rw [if_neg waits, if_neg waits, if_neg (by exact room), if_neg room]

theorem setCount_changed {who : Subject} {n : Nat} {s : Part} (changed : n ≠ s.prv.count who) :
    setCount who n s = { putCount who n s with nvs := s.nvs.counted who n } := by
  rw [setCount, if_neg changed, queueCount_eq, putCount_nvs]

section
variable {n : Nvs} {who : Subject} {lifts : Bool} {flies : Option Job}

/-- R116: what flies, by whether it is a lifting job of the subject. -/
theorem liftInFlight_cases (flight : lifts = true ∧ (∃ v st o, n.inFlight = some ⟨.failcount who v true st, o⟩ ∧
      flies = some ⟨.failcount who v true true, o⟩) ∨
    lifts = false ∧ flies = n.inFlight ∧ ∀ v st o, n.inFlight ≠ some ⟨.failcount who v true st, o⟩) :
    n.liftInFlight who = lifts ∧ (if lifts then n.inFlight.map fun j => { j with body := j.body.marked } else n.inFlight) = flies := by
  rcases flight with ⟨rfl, v, st, o, flying, rfl⟩ | ⟨rfl, rfl, other⟩
  · rw [Nvs.liftInFlight, flying]
    exact ⟨by simp, rfl⟩
  · refine ⟨Bool.eq_false_iff.mpr fun lifting => ?_, rfl⟩
    rw [Nvs.liftInFlight, Option.any_eq_true] at lifting
    obtain ⟨⟨body, o⟩, flying, mine⟩ := lifting
    cases body with
    | failcount w v l st =>
      rw [Bool.and_eq_true, beq_iff_eq] at mine
      obtain ⟨rfl, rfl⟩ := mine
      exact other v st o flying
    | _ => cases mine

variable (lifting : n.liftInFlight who = lifts)
  (flying : (if lifts then n.inFlight.map fun j => { j with body := j.body.marked } else n.inFlight) = flies) (value : Nat)
include lifting flying

theorem counted_new (none : ∀ j ∈ n.queue, j.countsFor who = false) (room : n.queue.length < 8) : n.counted who value =
    { n with inFlight := flies, queue := n.queue ++ [⟨.failcount who value lifts false, []⟩] } := by
  have unqueued : n.queue.any (·.countsFor who) = false := List.any_eq_false.mpr fun j hj => Bool.eq_false_iff.mp (none j hj)
  rw [Nvs.counted, unqueued, (hasRoom_iff n).mpr room, lifting, flying]
  rfl

theorem counted_deferred (none : ∀ j ∈ n.queue, j.countsFor who = false) (full : 8 ≤ n.queue.length) : n.counted who value =
    { n with inFlight := flies, deferred := deferCount who lifts n.deferred } := by
  have unqueued : n.queue.any (·.countsFor who) = false := List.any_eq_false.mpr fun j hj => Bool.eq_false_iff.mp (none j hj)
  rw [Nvs.counted, unqueued, (hasRoom_false_iff n).mpr full, lifting, flying]
  rfl

theorem counted_waiting {before after : List Job} {v : Nat} {l st : Bool} {o : List Nat}
    (queue : n.queue = before ++ ⟨.failcount who v l st, o⟩ :: after) (others : ∀ j ∈ before ++ after, j.countsFor who = false) :
    n.counted who value = { n with inFlight := flies, queue := before ++ ⟨.failcount who value (l || lifts) st, o⟩ :: after } := by
  have mine : Job.countsFor ⟨.failcount who v l st, o⟩ who = true := beq_self_eq_true who
  have waits : n.queue.any (·.countsFor who) = true := by rw [queue]; exact any_one (mine := fun j : Job => j.countsFor who) mine
  have taken : (n.queue.map fun j => if j.countsFor who then { j with body := j.body.withCount value lifts } else j) =
      before ++ ⟨.failcount who value (l || lifts) st, o⟩ :: after := by
    rw [queue]
    exact map_one (mine := fun j : Job => j.countsFor who) mine others
  rw [Nvs.counted, waits, lifting, flying, if_pos rfl, taken]

end

/-! ### One failure counted (R114 to R118) -/

/-- The count after one more failure; at 255 it stays. -/
def raisedCount (n : Nat) : Nat := if n < 255 then n + 1 else n

/-- The part with a failure counted, the subject not yet evaluated. -/
def Part.failed (s : Part) (who : Subject) : Part :=
  if 255 ≤ s.prv.count who then retakeCount who (s.prv.count who) s else setCount who (s.prv.count who + 1) s

theorem countFailure_eq (who : Subject) (s : Part) : countFailure who s = evalSubject who (s.failed who) := rfl

section
variable {s : Part} {who : Subject}

theorem failed_full (full : 255 ≤ s.prv.count who) : s.failed who = retakeCount who (s.prv.count who) s := if_pos full

theorem failed_rises (below : s.prv.count who < 255) : s.failed who = setCount who (s.prv.count who + 1) s := if_neg (Nat.not_le.mpr below)

theorem raisedCount_full {n : Nat} (full : 255 ≤ n) : raisedCount n = n := if_neg (Nat.not_lt.mpr full)

theorem raisedCount_below {n : Nat} (below : n < 255) : raisedCount n = n + 1 := if_pos below

theorem putCount_same : putCount who (s.prv.count who) s = s := by
  cases who with
  | port p => exact congrArg (fun v => ({ s with prv.counts := v } : Part)) (Vector.set_getElem_self _)
  | reader => rfl

theorem setCount_prv (n : Nat) : (setCount who n s).prv = (putCount who n s).prv := by
  rw [setCount]
  split
  · next same => rw [same, putCount_same]
  · exact queueCount_prv who n _

/-- Everything but the store and the count is as it was. -/
theorem failed_fields : (s.failed who).prv = (putCount who (raisedCount (s.prv.count who)) s).prv ∧ (s.failed who).psc = s.psc ∧
    (s.failed who).hlc = s.hlc ∧ (s.failed who).ports = s.ports ∧ (s.failed who).trk = s.trk ∧ (s.failed who).fco = s.fco ∧
    (s.failed who).sva = s.sva ∧ (s.failed who).mtu = s.mtu := by
  rcases Nat.lt_or_ge (s.prv.count who) 255 with below | full
  · rw [failed_rises below, raisedCount_below below]
    exact ⟨setCount_prv _, setCount_psc _ _ _, setCount_hlc _ _ _, setCount_ports _ _ _, setCount_trk _ _ _, setCount_fco _ _ _,
      setCount_sva _ _ _, setCount_mtu _ _ _⟩
  · rw [failed_full full, raisedCount_full full, putCount_same]
    exact ⟨rfl, rfl, rfl, rfl, rfl, rfl, rfl, rfl⟩

theorem failed_count : (s.failed who).prv.count who = raisedCount (s.prv.count who) := by
  obtain ⟨prv, -⟩ := failed_fields (s := s) (who := who)
  rw [prv, putCount_count]

/-- The part with the failure counted, as the count set and the store. -/
theorem failed_eq : ({ setCount who (raisedCount (s.prv.count who)) s with nvs := (s.failed who).nvs } : Part) = s.failed who := by
  rcases Nat.lt_or_ge (s.prv.count who) 255 with below | full
  · rw [failed_rises below, raisedCount_below below]
  · rw [failed_full full, raisedCount_full full, setCount, if_pos rfl]
    rfl

theorem retakeCount_none (none : ∀ j ∈ s.nvs.queue, j.countsFor who = false) (value : Nat) : retakeCount who value s = s := by
  have same : (s.nvs.queue.map fun j => if j.countsFor who then { j with body := j.body.withCount value false } else j) = s.nvs.queue := by
    refine (List.map_congr_left fun j hj => ?_).trans (List.map_id _)
    rw [none j hj]
    rfl
  rw [retakeCount, same]

theorem retakeCount_one {before after : List Job} {v : Nat} {l st : Bool} {o : List Nat}
    (queue : s.nvs.queue = before ++ ⟨.failcount who v l st, o⟩ :: after) (others : ∀ j ∈ before ++ after, j.countsFor who = false)
    (value : Nat) : retakeCount who value s = { s with nvs.queue := before ++ ⟨.failcount who value l st, o⟩ :: after } := by
  have mine : Job.countsFor ⟨.failcount who v l st, o⟩ who = true := beq_self_eq_true who
  have taken : (s.nvs.queue.map fun j => if j.countsFor who then { j with body := j.body.withCount value false } else j) =
      before ++ ⟨.failcount who value l st, o⟩ :: after := by
    rw [queue, map_one (mine := fun j : Job => j.countsFor who) mine others]
    simp only [JobBody.withCount, Bool.or_false]
  rw [retakeCount, taken]

end

/-- R115, R117: the evaluation of a subject leaves the counts and the store. -/
theorem evalSubject_store (who : Subject) (s : Part) : (evalSubject who s).nvs = s.nvs ∧
    ∀ w, (evalSubject who s).prv.count w = s.prv.count w := by
  by_cases save : s.psc.state = .save
  · cases who with
    | port p => exact ⟨congrArg Part.nvs (evalPort_save p save), fun w => congrArg (fun t => t.prv.count w) (evalPort_save p save)⟩
    | reader =>
      have same : evalReader s = s := if_pos save
      exact ⟨congrArg Part.nvs same, fun w => congrArg (fun t => t.prv.count w) same⟩
  · cases who with
    | port p =>
      have evaluated := portEvaluated_evaluates p s
      change (evalPort p s).nvs = s.nvs ∧ ∀ w, (evalPort p s).prv.count w = s.prv.count w
      rw [evalPort_eq save, evaluated.prv]
      exact ⟨evaluated.nvs, fun w => by cases w <;> rfl⟩
    | reader =>
      have judged := readerEvaluated_judged s
      change (evalReader s).nvs = s.nvs ∧ ∀ w, (evalReader s).prv.count w = s.prv.count w
      rw [evalReader_eq save, judged.prv]
      exact ⟨judged.nvs, fun w => by cases w <;> rfl⟩

section
variable {s : Part}

theorem countFailure_port {p : Port} (active : s.active = true) (free : s.ports[p].admission ≠ .barred) : countFailure (.port p) s =
    if s.prv.stationLimit ≠ 0 ∧ s.prv.stationLimit ≤ raisedCount s.prv.counts[p] then (s.failed (.port p)).barredAt p
    else s.failed (.port p) := by
  obtain ⟨prv, psc, -, ports, -, -, -, -⟩ := failed_fields (s := s) (who := .port p)
  have awake : (s.failed (.port p)).psc.state ≠ .save := by
    rw [psc]
    rcases (active_iff s).mp active with run | quiet
    · rw [run]; exact PartState.noConfusion
    · rw [quiet]; exact PartState.noConfusion
  have limit : (s.failed (.port p)).prv.stationLimit = s.prv.stationLimit := by rw [prv]; rfl
  have count : (s.failed (.port p)).prv.counts[p] = raisedCount s.prv.counts[p] := failed_count (s := s) (who := .port p)
  rw [countFailure_eq]
  change evalPort p (s.failed (.port p)) = _
  rw [evalPort_eq awake, Part.portEvaluated, ports, limit, count, if_neg free, if_neg free]
  exact if_congr decide_eq_true_iff rfl rfl

theorem countFailure_reader (active : s.active = true) (ready : s.sva.reader = .ready) : countFailure .reader s =
    if s.prv.badgeLimit ≠ 0 ∧ s.prv.badgeLimit ≤ raisedCount s.prv.readerCount then (s.failed .reader).readerBarredNow
    else s.failed .reader := by
  obtain ⟨prv, psc, -, -, -, -, sva, -⟩ := failed_fields (s := s) (who := .reader)
  have awake : (s.failed .reader).psc.state ≠ .save := by
    rw [psc]
    rcases (active_iff s).mp active with run | quiet
    · rw [run]; exact PartState.noConfusion
    · rw [quiet]; exact PartState.noConfusion
  have limit : (s.failed .reader).prv.badgeLimit = s.prv.badgeLimit := by rw [prv]; rfl
  have count : (s.failed .reader).prv.readerCount = raisedCount s.prv.readerCount := failed_count (s := s) (who := .reader)
  have free : (s.failed .reader).sva.reader ≠ .barred := by rw [sva, ready]; exact Reader.noConfusion
  rw [countFailure_eq]
  change evalReader (s.failed .reader) = _
  rw [evalReader_eq awake, Part.readerEvaluated, limit, count, if_neg free, if_neg free]
  exact if_congr decide_eq_true_iff rfl rfl

end

/-! ### The part once a subject is barred -/

section
variable {u : Part} {p : Port}

theorem noticed_ports (b : NoticeBody) (s : Part) : (s.noticed b).ports = s.ports := rfl

theorem noticed_prv (b : NoticeBody) (s : Part) : (s.noticed b).prv = s.prv := rfl

theorem barredAt_admitted (admitted : u.ports[p].admission = .admitted) :
    u.barredAt p = (leaveAdmitted p .barred .barred (endContext p u)).noticed (.portBarred p u.prv.counts[p]) := by
  rw [Part.barredAt, if_pos admitted]
  rfl

theorem barredAt_out (out : u.ports[p].admission ≠ .admitted) : u.barredAt p =
    Part.noticed { endContext p u with ports := u.ports.set p { u.ports[p] with admission := .barred } } (.portBarred p u.prv.counts[p]) := by
  rw [Part.barredAt, if_neg out]
  rfl

theorem barredAt_port (p : Port) (u : Part) : (u.barredAt p).ports[p].admission = .barred ∧
    (u.barredAt p).ports[p].link = u.ports[p].link ∧ (u.barredAt p).ports[p].parked = u.ports[p].parked ∧
    (u.barredAt p).prv.contexts[p] = none ∧ (u.ports[p].admission = .admitted → (u.barredAt p).ports[p].relay = []) := by
  have ended : (endContext p u).prv.contexts[p] = none := (set_get _ _ _ _).trans (if_pos rfl)
  by_cases admitted : u.ports[p].admission = .admitted
  · have left := leaveAdmitted_leaves p .barred .barred (endContext p u)
    have port : (u.barredAt p).ports[p] = (leaveAdmitted p .barred .barred (endContext p u)).ports[p] := by
      rw [barredAt_admitted admitted, noticed_ports]
    have contexts : (u.barredAt p).prv = (endContext p u).prv := by
      rw [barredAt_admitted admitted, noticed_prv]
      exact left.prv
    rw [port, left.port, contexts]
    exact ⟨rfl, rfl, rfl, ended, fun _ => rfl⟩
  · have port : (u.barredAt p).ports[p] = { u.ports[p] with admission := .barred } := by
      rw [barredAt_out admitted]
      exact (set_get u.ports p p _).trans (if_pos rfl)
    have contexts : (u.barredAt p).prv = (endContext p u).prv := by rw [barredAt_out admitted]; rfl
    rw [port, contexts]
    exact ⟨rfl, rfl, rfl, ended, fun h => absurd h admitted⟩

theorem readerBarredNow_ready (ready : u.sva.reader = .ready) : u.readerBarredNow = Part.noticed { u with
    prv := { u.prv with barTimer := some (u.mtu.uptime + BitVec.ofNat 48 (u.prv.barPeriod * 60000)) }
    sva := { u.sva with reader := .barred } } (.readerBarred u.prv.readerCount u.prv.barPeriod) := by
  rw [Part.readerBarredNow, ready]

end

/-- Settles O41: the job of a changed count; one failure counted; the port and the reader evaluated against their limits. -/
theorem failuresAreCountedAndBar : Obligations.FailuresAreCountedAndBar := by
  unfold Obligations.FailuresAreCountedAndBar
  refine ⟨fun who n s => ?_, fun who s most => ?_, fun p s active free => ?_, fun s active ready most => ?_⟩
  · intro q
    refine ⟨fun same => if_pos same, fun l flies changed flight => ?_⟩
    obtain ⟨lifting, flying⟩ := liftInFlight_cases flight
    have set : setCount who n s = { q with nvs := s.nvs.counted who n } := setCount_changed changed
    refine ⟨fun none => ⟨fun room => ?_, fun full new => ?_, fun before after m full deferred others => ?_⟩,
      fun before after v lifts stale o queue others => ?_⟩
    · rw [set, counted_new lifting flying n none room]
    · rw [set, counted_deferred lifting flying n none full, deferCount_new new]
    · rw [set, counted_deferred lifting flying n none full, deferred, deferCount_joins others]
    · rw [set, counted_waiting lifting flying n queue others]
  · intro n
    obtain ⟨nvs, counts⟩ := evalSubject_store who (s.failed who)
    rw [countFailure_eq]
    refine ⟨(counts who).trans failed_count, fun changed => ?_, fun same => ?_⟩
    · have below : s.prv.count who < 255 := not_le.mp fun full => changed (raisedCount_full full)
      rw [nvs, failed_rises below]
      exact congrArg (fun m => (setCount who m s).nvs) (raisedCount_below below).symm
    · have full : s.prv.count who = 255 := by
        refine Nat.le_antisymm most (not_lt.mp fun below => ?_)
        have rises : s.prv.count who + 1 = s.prv.count who := (raisedCount_below below).symm.trans same
        omega
      rw [nvs, failed_full full.ge]
      refine ⟨fun none => by rw [retakeCount_none none], fun before after v lifts stale o queue others => ?_⟩
      rw [retakeCount_one queue others, full]
  · intro t n counted most
    have active := (active_iff s).mpr active
    obtain ⟨nvs, -⟩ := evalSubject_store (.port p) (s.failed (.port p))
    have counted_eq : counted = s.failed (.port p) :=
      (congrArg (fun v => ({ setCount (.port p) n s with nvs := v } : Part)) nvs).trans failed_eq
    obtain ⟨prv, psc, hlc, ports, trk, fco, sva, mtu⟩ := failed_fields (s := s) (who := .port p)
    have count : (s.failed (.port p)).prv.counts[p] = n := failed_count (s := s) (who := .port p)
    have judged := countFailure_port active free
    refine ⟨fun reached => ?_, fun below => ?_⟩
    · intro ended
      have barred : t = (s.failed (.port p)).barredAt p := judged.trans (if_pos reached)
      have ended_eq : ended = endContext p (s.failed (.port p)) := by
        have contexts : (s.failed (.port p)).prv.contexts = s.prv.contexts := by rw [prv]; rfl
        have : ended = { counted with prv := { counted.prv with contexts := s.prv.contexts.set p none } } := rfl
        rw [this, counted_eq, ← contexts]
        rfl
      obtain ⟨admission, link, parked, ended', relay⟩ := barredAt_port p (s.failed (.port p))
      rw [ports] at link parked relay
      rw [barred, ended_eq]
      refine ⟨fun admitted => ?_, fun out => ?_, admission, link, parked, ended', relay, fun out => ?_⟩
      · rw [barredAt_admitted (by rw [ports]; exact admitted), count]
      · rw [barredAt_out (by rw [ports]; exact out), count, ports]
      · rw [barredAt_out (by rw [ports]; exact out), count]
        refine ⟨?_, fco⟩
        rw [Part.noticed, ← hlc, ← mtu, ← trk]
        rfl
    · have still : t = s.failed (.port p) := judged.trans (if_neg below)
      rw [still]
      exact ⟨counted_eq.symm, ports, hlc, fco⟩
  · intro t n
    have active := (active_iff s).mpr active
    obtain ⟨prv, psc, hlc, ports, trk, fco, sva, mtu⟩ := failed_fields (s := s) (who := .reader)
    have judged := countFailure_reader active ready
    have timer : (s.failed .reader).prv.barTimer = s.prv.barTimer := by rw [prv]; rfl
    have period : (s.failed .reader).prv.barPeriod = s.prv.barPeriod := by rw [prv]; rfl
    have count : (s.failed .reader).prv.readerCount = n := failed_count (s := s) (who := .reader)
    refine ⟨fun reached => ?_, fun below => ?_⟩
    · have barred : t = (s.failed .reader).readerBarredNow := judged.trans (if_pos reached)
      rw [barred, readerBarredNow_ready (by rw [sva]; exact ready), count, period, sva, hlc, mtu, trk]
      exact ⟨rfl, rfl, rfl⟩
    · have still : t = s.failed .reader := judged.trans (if_neg below)
      rw [still]
      exact ⟨sva, timer, hlc⟩

end Sys2Proof.Machine
end

section
/-! Unexpected frames, and a port that leaves ADMITTED (R57, R81, R87, R88, R90): the settling of UnexpectedFramesFallBack. -/

namespace Sys2Proof.Machine

/-! ### What FCO does when a port leaves ADMITTED (R57) -/

section
variable {s : Part} {p : Port}

theorem dropQueued_none (none : s.fco.feedQueueing p = none) : dropQueued p s = s := by
  rw [dropQueued, none]

theorem withGrant_unserved (unserved : s.fco.feedServing p = none) (go : Feed → Lease → Part → Part) : withGrant p go s = s := by
  rw [withGrant, unserved]

variable {f : Feed} {l : Lease} (serving : s.fco.feedServing p = some f)
include serving

theorem withGrant_granted (granted : s.fco.feeds[f].state = .granted l) (go : Feed → Lease → Part → Part) : withGrant p go s = go f l s := by
  rw [withGrant, serving]
  dsimp only
  rw [granted]

theorem withGrant_other (other : ∀ l, s.fco.feeds[f].state ≠ .granted l) (go : Feed → Lease → Part → Part) : withGrant p go s = s := by
  rw [withGrant, serving]
  dsimp only
  cases state : s.fco.feeds[f].state with
  | granted l => exact absurd state (other l)
  | closed | free | held _ | draining _ => rfl

end

section
variable {s : Part} {p : Port}

theorem portLeft_idle (unqueued : s.fco.feedQueueing p = none) (ungranted : ∀ f l, s.fco.feedServing p = some f → s.fco.feeds[f].state ≠ .granted l) :
    portLeft p s = voidClaim p .silent s := by
  rw [portLeft, dropQueued_none (by exact unqueued)]
  cases serving : s.fco.feedServing p with
  | none => exact withGrant_unserved (by exact serving) endGrant
  | some f => exact withGrant_other (s := voidClaim p .silent s) serving (fun l => ungranted f l serving) endGrant

theorem portLeft_queued {f : Feed} {before after : List QueueEntry} {e : QueueEntry} (unserved : s.fco.feedServing p = none)
    (queue : s.fco.feeds[f].queue = before ++ e :: after) (port : e.port = p) (others : ∀ x ∈ before ++ after, x.port ≠ p)
    (feeds : ∀ g : Feed, g ≠ f → ∀ x ∈ s.fco.feeds[g].queue, x.port ≠ p) : portLeft p s =
      askTrk (releaseRequest f p e.container e.remnant) (setQueue f (before ++ after) (voidClaim p .silent s)) := by
  have still (g : Feed) : (setQueue f (before ++ after) (voidClaim p .silent s)).fco.feeds[g].state = s.fco.feeds[g].state := by
    rw [setQueue, modFeed_fco]
    dsimp only
    rw [upd_get]
    split <;> rfl
  rw [portLeft, dropQueued_one (s := voidClaim p .silent s) queue port others feeds]
  exact withGrant_unserved (by exact (feedServing_congr p still).trans unserved) endGrant

theorem portLeft_granted {f : Feed} {l : Lease} (unqueued : s.fco.feedQueueing p = none) (serving : s.fco.feedServing p = some f)
    (granted : s.fco.feeds[f].state = .granted l) : portLeft p s = arbitrate f
      (askTrk (releaseRequest f l.port l.container l.remnant) (setFeed f l.target.state (voidClaim p .silent s))) := by
  rw [portLeft, dropQueued_none (by exact unqueued), withGrant_granted (s := voidClaim p .silent s) serving granted endGrant]
  rfl

end

/-! ### A port leaves ADMITTED (R88) -/

theorem leaveAdmitted_told (p : Port) (dest : Admission) (why : LeaveCause) (s : Part) : leaveAdmitted p dest why s =
    let told := portLeft p (setAdmission p dest s)
    Part.noticed (if s.ports[p].relay.length = 0 then told
      else (modPort p (fun r => { r with relay := [] }) told).noticed (.relayDropped p s.ports[p].relay.length)) (.portState p dest why) := by
  have departs := portLeft_departs p (setAdmission p dest s)
  have relay : (portLeft p (setAdmission p dest s)).ports[p].relay = s.ports[p].relay :=
    (congrArg PortRec.relay (departs.ports p)).trans
      ((congrArg PortRec.relay (upd_self s.ports p fun r => { r with admission := dest })).trans rfl)
  rw [leaveAdmitted, dropRelay, relay]
  rfl

theorem leaveAdmitted_fco (p : Port) (dest : Admission) (why : LeaveCause) (s : Part) :
    (leaveAdmitted p dest why s).fco = (portLeft p (setAdmission p dest s)).fco := by
  rw [leaveAdmitted_told]
  dsimp only
  split <;> rfl

theorem leaveAdmitted_hlc (p : Port) (dest : Admission) (why : LeaveCause) (s : Part) : (leaveAdmitted p dest why s).hlc =
    (if s.ports[p].relay.length = 0 then s.hlc
      else s.hlc.enqueue ⟨.relayDropped p s.ports[p].relay.length, s.mtu.hall, s.trk.pitch⟩).enqueue
        ⟨.portState p dest why, s.mtu.hall, s.trk.pitch⟩ := by
  have departs := portLeft_departs p (setAdmission p dest s)
  rw [leaveAdmitted_told]
  dsimp only
  have hlc : (portLeft p (setAdmission p dest s)).hlc = s.hlc := departs.hlc
  have mtu : (portLeft p (setAdmission p dest s)).mtu = s.mtu := departs.mtu
  have trk : (portLeft p (setAdmission p dest s)).trk = s.trk := departs.trk
  rw [← hlc, ← mtu, ← trk]
  split <;> rfl

/-! ### An unexpected frame (R81, R87, R90) -/

theorem acceptsKind_undefined {s : Part} {p : Port} {kind : Byte} (undefined : ¬ (1 ≤ kind.toNat ∧ kind.toNat ≤ 0x0B)) : ¬ s.acceptsKind p kind := by
  have ne (k : Byte) (known : 1 ≤ k.toNat ∧ k.toNat ≤ 0x0B) : kind ≠ k := by
    rintro rfl
    exact undefined known
  rw [Part.acceptsKind]
  cases s.ports[p].admission with
  | dark | known => exact id
  | listening =>
    rintro (hello | report | ⟨doseEnd, -⟩)
    exacts [ne 0x01 (by decide) hello, ne 0x04 (by decide) report, ne 0x09 (by decide) doseEnd]
  | challenged =>
    rintro (proof | report)
    exacts [ne 0x02 (by decide) proof, ne 0x04 (by decide) report]
  | admitted =>
    dsimp only
    omega
  | parked | barred => exact ne 0x04 (by decide)

theorem acceptsKind_heardAt {s : Part} {p : Port} {kind : Byte} : (s.heardAt p).acceptsKind p kind ↔ s.acceptsKind p kind := by
  rw [Part.acceptsKind, Part.acceptsKind, heardAt_admission]
  rfl

/-- R90: a frame of a kind that its port's state does not accept. -/
theorem gives_unexpected {c : Instr} {p : Port} {kind : Byte} {s : State} {t : Part} (frame : stationFrameOf c = some (p, kind))
    (hears : s.part.hears p) (settled : s.part.ports[p].admission ≠ .known) (refused : ¬ s.part.acceptsKind p kind)
    (fallsBack : unexpected p kind (s.part.heardAt p) = t) : Gives c s t := by
  obtain ⟨accepts, serve, executes, sound⟩ := exec_stationFrame frame
  obtain ⟨active, hunting, live⟩ := hears
  refine gives_of_act (executes s) ?_
  have turned : accepts (s.part.heardAt p) = false := Bool.eq_false_iff.mpr fun taken =>
    refused (acceptsKind_heardAt.mp (sound _ (by rw [heardAt_admission]; exact live) (by rw [heardAt_admission]; exact settled) taken))
  rw [stationFrameIn_hears active hunting, heard_live live, routeFrame, turned]
  exact fallsBack

/-- Settles O42: an unexpected frame by the port's state; what leaving ADMITTED changes; what FCO makes of it. -/
theorem unexpectedFramesFallBack : Obligations.UnexpectedFramesFallBack := by
  unfold Obligations.UnexpectedFramesFallBack
  refine ⟨⟨fun s p kind undefined => ⟨if_neg undefined, acceptsKind_undefined undefined⟩, fun c p kind s frame hears refused => ?_⟩,
    fun p dest why s => ?_, fun p s => ?_⟩
  · intro q r waiting refused'
    have admission : q.ports[p].admission = r.admission := heardAt_admission p p s.part
    have parked : q.ports[p].parked = r.parked := (congrArg PortRec.parked (heardAt_port (s := s.part) (p := p))).trans rfl
    have give {a : Admission} {t : Part} (here : r.admission = a) (settled : a ≠ .known) (fallsBack : unexpected p kind q = t) : Gives c s t :=
      gives_unexpected frame hears (by rw [← here] at settled; exact settled) refused fallsBack
    have waits (x : Part) (same : x.ports = q.ports) : modPort p (fun r => { r with admission := waitingState r }) x =
        modPort p (fun r => { r with admission := waiting }) x := by
      refine modPort_congr ?_
      rw [same, waitingState, parked]
    refine ⟨?_, fun listening => ?_, fun challenged exchange => ?_, fun challenged ended => ?_, fun admitted => ?_⟩
    · rintro (here | here)
      · exact give here Admission.noConfusion (by rw [unexpected, admission, here])
      · exact give here Admission.noConfusion (by rw [unexpected, admission, here])
    · exact give listening Admission.noConfusion (by rw [unexpected, admission, listening])
    · refine give challenged Admission.noConfusion ?_
      rw [unexpected, admission, challenged]
      refine (if_pos exchange).trans ?_
      rw [failExchange, waits (endContext p q) rfl]
      rfl
    · refine give challenged Admission.noConfusion ?_
      rw [unexpected_ended (s := q) (admission.trans challenged) ended, waits q rfl]
      rfl
    · refine give admitted Admission.noConfusion ?_
      rw [unexpected, admission, admitted]
      dsimp only
      rw [waitingState, parked]
      rfl
  · intro t n
    have left := leaveAdmitted_leaves p dest why s
    have departs := portLeft_departs p (setAdmission p dest s)
    have fco : t.fco = (portLeft p (setAdmission p dest s)).fco := leaveAdmitted_fco p dest why s
    have port : t.ports[p] = { s.ports[p] with admission := dest, relay := [], sent := t.ports[p].sent } := left.port
    refine ⟨leaveAdmitted_hlc p dest why s, (congrArg PortRec.admission port).trans rfl, (congrArg PortRec.relay port).trans rfl,
      (congrArg PortRec.cfg port).trans rfl, (congrArg PortRec.link port).trans rfl, fun k claim => ?_, fun unqueued ungranted => ?_,
      fun f before after e unserved queue mine others feeds => ?_, fun f l unqueued serving granted empty => ?_,
      left.sva, left.prv, left.trk, left.mtu, left.nvs, left.psc, leaveAdmitted_told p dest why s⟩
    · rw [fco, departs.claims p, if_pos (List.mem_singleton.mpr rfl)]
      exact congrArg (Option.map _) claim
    · rw [fco, portLeft_idle (s := setAdmission p dest s) unqueued ungranted]
      exact ⟨rfl, rfl, rfl⟩
    · rw [fco, portLeft_queued (s := setAdmission p dest s) unserved queue mine others feeds]
      exact ⟨(upd_self _ _ _).trans rfl, rfl⟩
    · have here : (askTrk (releaseRequest f l.port l.container l.remnant)
          (setFeed f l.target.state (voidClaim p .silent (setAdmission p dest s)))).fco.feeds[f] =
          { s.fco.feeds[f] with state := l.target.state } := setFeed_feed f l.target.state (voidClaim p .silent (setAdmission p dest s))
      rw [fco, portLeft_granted (s := setAdmission p dest s) unqueued serving granted,
        arbitrate_empty (by rw [here]; exact empty)]
      exact ⟨here, rfl, rfl⟩
  · intro q
    refine ⟨fun unqueued unserved => ?_, fun f before after e unserved queue mine others feeds => ?_, fun f l unqueued serving =>
      ⟨fun granted => ?_, fun leased => ?_⟩⟩
    · exact portLeft_idle unqueued fun f l serving => nomatch unserved.symm.trans serving
    · exact portLeft_queued unserved queue mine others feeds
    · exact portLeft_granted unqueued serving granted
    · refine portLeft_idle unqueued fun g l' serves granted => ?_
      cases serving.symm.trans serves
      rcases leased with held | draining
      · exact nomatch held.symm.trans granted
      · exact nomatch draining.symm.trans granted

end Sys2Proof.Machine
end

section
/-! DISOWN, REPORT and RELAY of a station (R56, R88, R93, R99, R100): the settling of StationsReportAndRelay. -/

namespace Sys2Proof.Machine

/-! ### A robot that is HOMING or FAULTED (R56) -/

section
variable {s : Part} {p : Port}

theorem voidClaim_none (none : s.fco.claims[p] = none) (v : Void) : voidClaim p v s = s := by
  have same : upd s.fco.claims p (fun k => k.map fun k => { k with void := k.void <|> some v }) = s.fco.claims :=
    (upd_congr (g := id) (by rw [none]; rfl)).trans (Vector.set_getElem_self _)
  rw [voidClaim, same]

theorem robotUnready_idle (unqueued : s.fco.feedQueueing p = none) (ungranted : ∀ f l, s.fco.feedServing p = some f → s.fco.feeds[f].state ≠ .granted l) :
    robotUnready p s = voidClaim p .notReady s := by
  rw [robotUnready, dropQueued_none (by exact unqueued)]
  cases serving : s.fco.feedServing p with
  | none => exact withGrant_unserved (by exact serving) lapse
  | some f => exact withGrant_other (s := voidClaim p .notReady s) serving (fun l => ungranted f l serving) lapse

theorem robotUnready_queued {f : Feed} {before after : List QueueEntry} {e : QueueEntry} (unclaimed : s.fco.claims[p] = none)
    (unserved : s.fco.feedServing p = none) (queue : s.fco.feeds[f].queue = before ++ e :: after) (port : e.port = p)
    (others : ∀ x ∈ before ++ after, x.port ≠ p) (feeds : ∀ g : Feed, g ≠ f → ∀ x ∈ s.fco.feeds[g].queue, x.port ≠ p) :
    robotUnready p s = askTrk (releaseRequest f p e.container e.remnant) (setQueue f (before ++ after) s) := by
  have still (g : Feed) : (setQueue f (before ++ after) s).fco.feeds[g].state = s.fco.feeds[g].state := by
    rw [setQueue, modFeed_fco]
    dsimp only
    rw [upd_get]
    split <;> rfl
  rw [robotUnready, voidClaim_none unclaimed, dropQueued_one queue port others feeds]
  exact withGrant_unserved (by exact (feedServing_congr p still).trans unserved) lapse

theorem robotUnready_granted {f : Feed} {l : Lease} (unclaimed : s.fco.claims[p] = none) (unqueued : s.fco.feedQueueing p = none)
    (serving : s.fco.feedServing p = some f) (granted : s.fco.feeds[f].state = .granted l) : robotUnready p s = lapse f l s := by
  rw [robotUnready, voidClaim_none unclaimed, dropQueued_none unqueued, withGrant_granted serving granted lapse]

end

/-! ### REPORT (R93, R99) -/

theorem active_iff_not (s : Part) : s.active = true ↔ s.psc.state ≠ .off ∧ s.psc.state ≠ .startUp ∧ s.psc.state ≠ .save := by
  rw [active_iff]
  cases s.psc.state <;> simp

/-- R99: the oldest relay message goes out as one change of the port. -/
theorem releaseRelay_eq (p : Port) (t : Part) : releaseRelay p t = match t.ports[p].admission, t.ports[p].relay with
    | .admitted, m :: rest => modPort p (fun r => { r with
        relay := rest
        sent := if r.link ∧ t.psc.state ≠ .off ∧ t.psc.state ≠ .startUp ∧ t.psc.state ≠ .save then r.sent ++ [(StationOut.relay m).bytes]
          else r.sent }) t
    | _, _ => t := by
  rw [releaseRelay]
  cases t.ports[p].admission with
  | admitted =>
    rw [if_pos rfl]
    cases t.ports[p].relay with
    | nil => rfl
    | cons m rest =>
      dsimp only
      simp only [← active_iff_not]
      by_cases active : t.active = true
      · rw [sendStation_active (by exact active), modPort_modPort]
        refine modPort_congr ?_
        simp only [active, and_true]
        rfl
      · rw [sendStation_dropped (.inl (Bool.eq_false_iff.mpr (by exact active)))]
        refine modPort_congr ?_
        rw [if_neg fun ⟨_, on⟩ => active on]
  | dark | listening | known | challenged | parked | barred => rfl

section
variable {s : Part} {p : Port} {b : Byte}

theorem takeReport_told (told : s.ports[p].cfg.role = .robot ∧ s.ports[p].status ≠ some (statusOf b) ∧
      (statusOf b = .homing ∨ statusOf b = .faulted)) : takeReport p b s =
    releaseRelay p (robotUnready p (modPort p (fun r => { r with status := some (statusOf b) }) s)) := by
  have role : (modPort p (fun r => { r with status := some (statusOf b) }) s).ports[p].cfg.role = s.ports[p].cfg.role :=
    (congrArg (fun r : PortRec => r.cfg.role) (upd_self _ _ _)).trans rfl
  rw [takeReport, tellStatus, role, if_pos told]

theorem takeReport_untold (untold : ¬ (s.ports[p].cfg.role = .robot ∧ s.ports[p].status ≠ some (statusOf b) ∧
      (statusOf b = .homing ∨ statusOf b = .faulted))) : takeReport p b s =
    releaseRelay p (modPort p (fun r => { r with status := some (statusOf b) }) s) := by
  have role : (modPort p (fun r => { r with status := some (statusOf b) }) s).ports[p].cfg.role = s.ports[p].cfg.role :=
    (congrArg (fun r : PortRec => r.cfg.role) (upd_self _ _ _)).trans rfl
  rw [takeReport, tellStatus, role, if_neg untold]

end

/-- Settles O43: DISOWN; RELAY; REPORT by what FCO is told and what the robot holds. -/
theorem stationsReportAndRelay : Obligations.StationsReportAndRelay := by
  unfold Obligations.StationsReportAndRelay
  refine ⟨fun p s hears admitted => ?_, fun p d s hears admitted fits => ?_, fun p b s hears settled => ?_⟩
  · exact gives_admitted (serve := leaveAdmitted p .listening .disown) rfl hears admitted rfl
  · exact gives_admitted (serve := raise (.relay p d)) (congrArg (act · s) (if_pos fits)) hears admitted rfl
  · intro r new q told relayed
    have role : (s.part.heardAt p).ports[p].cfg.role = r.cfg.role := heardAt_role
    have status : (s.part.heardAt p).ports[p].status = r.status := heardAt_status
    have give {t : Part} (taken : takeReport p b (s.part.heardAt p) = releaseRelay p t) : Gives (.report p b) s (relayed t) :=
      gives_frame (serve := takeReport p b) rfl hears rfl (taken.trans (releaseRelay_eq p t))
    have tells {t : Part} (tells : told) (unready : robotUnready p q = t) : Gives (.report p b) s (relayed t) := by
      refine give ((takeReport_told (s := s.part.heardAt p) ?_).trans (congrArg (releaseRelay p) unready))
      rw [role, status]
      exact tells
    refine ⟨fun untold => give (takeReport_untold ?_), fun h => tells h rfl, fun k h claim unqueued unserved => tells h ?_,
      fun f before after e h unclaimed unserved queue mine others feeds => tells h ?_,
      fun f l h unclaimed unqueued serving => ⟨fun granted => tells h ?_, fun leased => tells h ?_⟩⟩
    · rw [role, status]
      exact untold
    · rw [robotUnready_idle (s := q) unqueued fun f l serving => nomatch unserved.symm.trans serving]
      exact voidClaim_some (s := q) claim .notReady
    · exact robotUnready_queued (s := q) unclaimed unserved queue mine others feeds
    · exact robotUnready_granted (s := q) unclaimed unqueued serving granted
    · refine (robotUnready_idle (s := q) unqueued fun g l' serves granted => ?_).trans (voidClaim_none (s := q) unclaimed .notReady)
      cases serving.symm.trans serves
      rcases leased with held | draining
      · exact nomatch held.symm.trans granted
      · exact nomatch draining.symm.trans granted

end Sys2Proof.Machine
end

section
/-! PORT PARK, PORT WAKE and RELAY of the host (R94, R95, R98): the settling of HostParksWakesAndRelays. -/

namespace Sys2Proof.Machine

section
variable {c : Fco} {p : Port}

theorem not_busy (idle : c.busy p = false) : c.feedServing p = none ∧ c.feedQueueing p = none ∧ c.claims[p] = none := by
  rw [Fco.busy, Bool.or_eq_false_iff, Bool.or_eq_false_iff, Option.isSome_eq_false_iff, Option.isSome_eq_false_iff,
    Option.isSome_eq_false_iff, Option.isNone_iff_eq_none, Option.isNone_iff_eq_none, Option.isNone_iff_eq_none] at idle
  obtain ⟨⟨serving, queueing⟩, claims⟩ := idle
  exact ⟨serving, queueing, claims⟩

/-- A port that holds nothing at FCO leaves nothing behind. -/
theorem departed_idle (idle : c.busy p = false) : c.departed p = c := by
  obtain ⟨-, unqueued, unclaimed⟩ := not_busy idle
  have claims : upd c.claims p (fun k => k.map fun k => { k with void := k.void <|> some .silent }) = c.claims :=
    (upd_congr (g := id) (by rw [unclaimed]; rfl)).trans (Vector.set_getElem_self _)
  have voided : c.voided p .silent = c := by rw [Fco.voided, claims]
  rw [Fco.departed, voided, Fco.dropped, unqueued]

end

theorem wakePort_entered {s : Part} {k : ReqKind} (serves : s.serves k) (tag : Byte) (payload : List Byte) (p : Port) :
    reply s.hlc.nextHandle .done (wakePort p (s.entered k tag payload)) = modPort p (fun r => { r with
      parked := false, admission := if r.admission = .parked then .listening else r.admission }) (s.answered k tag payload .done []) :=
  congrArg (modPort p fun r => { r with parked := false, admission := if r.admission = .parked then .listening else r.admission })
    (reply_entered serves.below k tag payload .done)

section
variable {s : Part} {p : Port} (h : Nat)

theorem parkRequest_wrongState (out : s.ports[p].admission ≠ .admitted) : parkRequest h p s = reply h .wrongState s := by
  rw [parkRequest, beq_eq_false_iff_ne.mpr out, check_false]

theorem parkRequest_busy (admitted : s.ports[p].admission = .admitted) (busy : s.fco.busy p = true) : parkRequest h p s = reply h .busy s := by
  rw [parkRequest, admitted, busy]
  rfl

theorem parkRequest_parks (admitted : s.ports[p].admission = .admitted) (idle : s.fco.busy p = false) :
    parkRequest h p s = reply h .done (parkPort p .portPark s) := by
  rw [parkRequest, admitted, idle]
  rfl

theorem relayTo_wrongState (out : s.ports[p].admission ≠ .admitted) (d : List Byte) : relayTo h d p s = reply h .wrongState s := by
  rw [relayTo, beq_eq_false_iff_ne.mpr out, check_false]

theorem relayTo_full (admitted : s.ports[p].admission = .admitted) (full : 4 ≤ s.ports[p].relay.length) (d : List Byte) :
    relayTo h d p s = reply h .full s := by
  have room : decide (s.ports[p].relay.length < Config.relaySize) = false := decide_eq_false (Nat.not_lt.mpr full)
  rw [relayTo, admitted, room]
  rfl

theorem relayTo_joins (admitted : s.ports[p].admission = .admitted) (room : s.ports[p].relay.length < 4) (d : List Byte) :
    relayTo h d p s = reply h .done (modPort p (fun r => { r with relay := r.relay ++ [d] }) s) := by
  have room : decide (s.ports[p].relay.length < Config.relaySize) = true := decide_eq_true room
  rw [relayTo, admitted, room]
  rfl

end

/-- Settles O44: each request by the port's state. -/
theorem hostParksWakesAndRelays : Obligations.HostParksWakesAndRelays := by
  unfold Obligations.HostParksWakesAndRelays
  have relayFits (n : Byte) {d : List Byte} (short : d.length ≤ 64) : lengthFits .relay (n :: d) = true ∧ (n :: d).length ≤ Config.payloadSize :=
    ⟨decide_eq_true ⟨Nat.le_add_left 1 _, by rw [List.length_cons]; exact (Nat.succ_le_succ short).trans (by decide)⟩,
      by rw [List.length_cons]; exact (Nat.succ_le_succ short).trans (by decide)⟩
  refine ⟨fun tag n d s outside short => ⟨fun serves => ?_, fun serves => ?_, fun serves => ?_⟩, fun tag n p s serves named => ?_,
    fun tag n p s serves named => ?_, fun tag n d p s serves named short => ?_, fun tag n d short => ⟨?_, ?_, ?_⟩⟩
  · refine gives_of_serve rfl serves rfl (number_fits n) ?_
    rw [show portOf (byteAt [n] 0).toNat = none from portOf_outside outside]
    exact reply_entered serves.below _ _ _ _
  · refine gives_of_serve rfl serves rfl (number_fits n) ?_
    rw [show portOf (byteAt [n] 0).toNat = none from portOf_outside outside]
    exact reply_entered serves.below _ _ _ _
  · obtain ⟨fits, size⟩ := relayFits n short
    refine gives_of_serve rfl serves fits size ?_
    rw [show portOf (byteAt (n :: d) 0).toNat = none from portOf_outside outside]
    exact reply_entered serves.below _ _ _ _
  · intro gives
    have give {t : Part} (parks : parkRequest s.part.hlc.nextHandle p (s.part.entered .portPark tag [n]) = t) : gives t := by
      refine gives_of_serve rfl serves rfl (number_fits n) ?_
      rw [show portOf (byteAt [n] 0).toNat = some p from named ▸ portOf_number p]
      exact parks
    refine ⟨fun out => give ?_, fun admitted busy => give ?_, fun admitted idle => ?_⟩
    · rw [parkRequest_wrongState _ (by exact out)]
      exact reply_entered serves.below _ _ _ _
    · rw [parkRequest_busy _ (by exact admitted) (by exact busy)]
      exact reply_entered serves.below _ _ _ _
    · intro r h
      refine give ?_
      obtain ⟨unserved, -, -⟩ := not_busy idle
      rw [parkRequest_parks _ (by exact admitted) (by exact idle), parkPort_unserved (by exact serves.active) (by exact unserved), reply_raises,
        departed_idle (by exact idle)]
      have parked : reply s.part.hlc.nextHandle .done { s.part.entered .portPark tag [n] with
            ports := upd s.part.ports p PortRec.parkedNow } =
          { s.part.answered .portPark tag [n] .done [] with ports := upd s.part.ports p PortRec.parkedNow } :=
        congrArg (fun u : Part => ({ u with ports := upd s.part.ports p PortRec.parkedNow } : Part)) (reply_entered serves.below .portPark tag [n] .done)
      refine (congrArg (fun u : Part => u.raises ((s.part.entered .portPark tag [n]).leaveNotices p .parked .portPark)) parked).trans ?_
      by_cases none : r.relay = []
      · have notices : (s.part.entered .portPark tag [n]).leaveNotices p .parked .portPark = [.portState p .parked .portPark] :=
          congrArg (· ++ [NoticeBody.portState p .parked .portPark]) (if_pos none)
        rw [notices, if_pos none]
        rfl
      · have notices : (s.part.entered .portPark tag [n]).leaveNotices p .parked .portPark =
            [.relayDropped p r.relay.length, .portState p .parked .portPark] :=
          congrArg (· ++ [NoticeBody.portState p .parked .portPark]) (if_neg none)
        rw [notices, if_neg none]
        rfl
  · refine gives_of_serve rfl serves rfl (number_fits n) ?_
    rw [show portOf (byteAt [n] 0).toNat = some p from named ▸ portOf_number p]
    exact wakePort_entered serves tag [n] p
  · intro answer
    obtain ⟨fits, size⟩ := relayFits n short
    have give {t : Part} (relays : relayTo s.part.hlc.nextHandle d p (s.part.entered .relay tag (n :: d)) = t) :
        Gives (.relay tag (n :: d)) s t := by
      refine gives_of_serve rfl serves fits size ?_
      rw [show portOf (byteAt (n :: d) 0).toNat = some p from named ▸ portOf_number p]
      exact relays
    refine ⟨fun out => give ?_, fun admitted full => give ?_, fun admitted room => give ?_⟩
    · rw [relayTo_wrongState _ (by exact out)]
      exact reply_entered serves.below _ _ _ _
    · rw [relayTo_full _ (by exact admitted) (by exact full)]
      exact reply_entered serves.below _ _ _ _
    · rw [relayTo_joins _ (by exact admitted) (by exact room)]
      exact congrArg (modPort p fun r => { r with relay := r.relay ++ [d] }) (reply_entered serves.below .relay tag (n :: d) .done)
  · exact onlyInRun_of_takeRequest (fun _ => rfl) rfl rfl (number_fits n)
  · exact onlyInRun_of_takeRequest (fun _ => rfl) rfl rfl (number_fits n)
  · obtain ⟨fits, size⟩ := relayFits n short
    exact onlyInRun_of_takeRequest (fun _ => rfl) rfl fits size

end Sys2Proof.Machine
end

section
/-! The door reader (R109, R111, R114, R118, R123 to R127, R198): the settling of PresentIsChecked and ReaderProofOpensASession. -/

namespace Sys2Proof.Machine

/-! ### Frames to the reader, and the return from QUIET -/

theorem sendReader_active {s : Part} (active : s.active = true) (f : ReaderOut) : sendReader f s = s.toldReader f := if_pos active

theorem active_of_run {s : Part} (run : s.psc.state = .run) : s.active = true := (active_iff s).mpr (.inl run)

theorem wakeUp_run {s : Part} (run : s.psc.state = .run) (c : WokenCause) : wakeUp c s = s := by
  rw [wakeUp_eq, if_neg (by rw [run]; exact PartState.noConfusion)]

theorem wakeUp_quiet {s : Part} (quiet : s.psc.state = .quiet) (c : WokenCause) :
    wakeUp c s = { s.noticed (.woken c) with psc := { s.psc with state := .run } } := by
  rw [wakeUp_eq, if_pos quiet]
  rfl

theorem denyBadge_active {s : Part} (active : s.active = true) : denyBadge s = countFailure .reader (Part.toldReader { s with
    sva := { s.sva with reader := .ready }, prv := { s.prv with readerContext := none } } (.refuse .denied)) := by
  rw [denyBadge, sendReader_active (by exact active)]

/-- A command that returns the part from QUIET first does as in RUN. -/
theorem exec_woken {i : Instr} {f : Part → Part} (hi : ∀ s, exec i s = act f s) {s : State} (quiet : s.part.psc.state = .quiet) {c : WokenCause}
    (same : f (wakeUp c s.part) = f s.part) : exec i s = exec i { s with part :=
      { s.part.noticed (.woken c) with psc := { s.part.psc with state := .run } } } := by
  rw [hi, hi, act_eq, act_eq, ← wakeUp_quiet quiet, same]

/-! ### PRESENT (R123, R125) -/

section
variable {s : Part} {b : Word}

theorem enabledBadge_none (none : ∀ r, ¬ (b ≠ 0 ∧ s.sva.badges.toList.find? (·.badge == b) = some r ∧ r.enabled = true)) :
    s.sva.enabledBadge b = .none := by
  by_cases zero : b = 0
  · exact if_pos zero
  · rw [Sva.enabledBadge, if_neg zero]
    refine Option.filter_eq_none_iff.mpr fun r found enabled => none r ⟨zero, found, enabled⟩

theorem enabledBadge_some {r : BadgeRec} (listed : b ≠ 0) (found : s.sva.badges.toList.find? (·.badge == b) = some r) (enabled : r.enabled = true) :
    s.sva.enabledBadge b = some r := by
  rw [Sva.enabledBadge, if_neg listed, found]
  exact if_pos enabled

theorem takePresent_run (run : s.psc.state = .run) : takePresent b s = servePresent b s := by
  rw [takePresent, active_of_run run, wakeUp_run run]
  rfl

theorem presentReady_room (room : s.sva.sessions.length < 3) (new : ∀ x ∈ s.sva.sessions, x.badge ≠ b) : presentReady b s =
    match s.sva.enabledBadge b with
    | none => denyBadge s
    | some r => challengeBadge r s := by
  have unopened : s.sva.sessions.any (·.badge == b) = false :=
    List.any_eq_false.mpr fun x hx same => new x hx (eq_of_beq same)
  rw [presentReady, if_neg (Nat.not_le.mpr (by exact room)), unopened]
  rfl

end

/-- Settles O45: a PRESENT by the reader's state and the checks in order. -/
theorem presentIsChecked : Obligations.PresentIsChecked := by
  unfold Obligations.PresentIsChecked
  refine ⟨fun b s run => ?_, fun b s quiet => ?_, fun b s run quiet => ?_⟩
  · intro v gives denied found
    have active := active_of_run run
    have give {t : Part} (served : servePresent b s.part = t) : gives t :=
      gives_of_act (f := takePresent b) rfl ((takePresent_run run).trans served)
    have ready {t : Part} (here : v.reader = .ready) (presents : presentReady b s.part = t) : gives t := by
      refine give ?_
      rw [servePresent, show s.part.sva.reader = .ready from here]
      exact presents
    refine ⟨fun barred => give ?_, fun b' r' challenging => give ?_, fun here full => ready here ?_, fun here room open_ => ready here ?_,
      fun here room new none => ready here ?_, fun r here room new found => ready here ?_⟩
    · rw [servePresent, show s.part.sva.reader = .barred from barred]
      exact sendReader_active active _
    · rw [servePresent, show s.part.sva.reader = .challenging b' r' from challenging]
      exact denyBadge_active active
    · exact (if_pos full).trans (sendReader_active active _)
    · obtain ⟨x, hx, same⟩ := open_
      have opened : s.part.sva.sessions.any (·.badge == b) = true := List.any_eq_true.mpr ⟨x, hx, beq_iff_eq.mpr same⟩
      exact (if_neg (Nat.not_le.mpr (by exact room))).trans ((if_pos opened).trans (sendReader_active active _))
    · rw [presentReady_room room new, enabledBadge_none none]
      exact denyBadge_active active
    · obtain ⟨listed, first, enabled⟩ := found
      have mine : r.badge = b := eq_of_beq (List.find?_some (p := fun r : BadgeRec => r.badge == b) first)
      rw [presentReady_room room new, enabledBadge_some listed first enabled, ← mine]
      exact sendReader_active (by exact active) _
  · refine exec_woken (f := takePresent b) (fun _ => rfl) quiet (c := .reader) ?_
    have woken : (wakeUp .reader s.part).psc.state = .run := by rw [wakeUp_quiet quiet]
    rw [takePresent_run woken, takePresent, (active_iff _).mpr (.inr quiet)]
    rfl
  · exact gives_of_act (f := takePresent b) rfl (if_neg (Bool.eq_false_iff.mp (inactive_of run quiet)))

/-! ### The number of a new session (R126) -/

/-- R126: the numbers run from 1 to 255. -/
theorem nextSession_toNat (n : Byte) : (nextSession n).toNat = n.toNat % 255 + 1 := by
  have bound := n.isLt
  rw [nextSession]
  split
  · next last =>
    rw [last]
    rfl
  · next other =>
    have below : n.toNat ≠ 255 := fun h => other (BitVec.eq_of_toNat_eq h)
    rw [BitVec.toNat_add, show (1 : Byte).toNat = 1 from rfl]
    omega

/-- Four numbers in a row are four numbers. -/
theorem nextSession_distinct (n : Byte) :
    let after := nextSession
    [after n, after (after n), after (after (after n)), after (after (after (after n)))].Nodup := by
  have ne {a b : Byte} (h : a.toNat ≠ b.toNat) : a ≠ b := fun same => h (congrArg _ same)
  dsimp only
  simp only [List.nodup_cons, List.mem_cons, List.not_mem_nil, or_false, not_or, List.nodup_nil, not_false_eq_true, and_true]
  refine ⟨⟨ne ?_, ne ?_, ne ?_⟩, ⟨ne ?_, ne ?_⟩, ne ?_⟩ <;> simp only [nextSession_toNat] <;> omega

/-- Three sessions cannot hold four numbers in a row. -/
theorem fourth_free {v : Sva} (few : v.sessions.length ≤ 3) {a b c d : Byte} (distinct : [a, b, c, d].Nodup)
    (open_ : ∀ n ∈ [a, b, c], ∃ x ∈ v.sessions, x.num = n) : ¬ ∃ x ∈ v.sessions, x.num = d := by
  rintro held
  have sub : [a, b, c, d] ⊆ v.sessions.map (·.num) := by
    intro n hn
    rw [List.mem_map]
    rw [List.mem_cons, List.mem_cons, List.mem_cons, List.mem_singleton] at hn
    rcases hn with rfl | rfl | rfl | rfl
    · exact open_ _ (by simp)
    · exact open_ _ (by simp)
    · exact open_ _ (by simp)
    · exact held
  have size := (List.subperm_of_subset distinct sub).length_le
  rw [List.length_map] at size
  simp only [List.length_cons, List.length_nil] at size
  omega

section
variable {v : Sva} {n : Byte} (k : Nat)

theorem freeSession_here (free : ¬ ∃ x ∈ v.sessions, x.num = n) : freeSession v k n = n := by
  cases k with
  | zero => rfl
  | succ k =>
    refine if_neg fun held => free ?_
    obtain ⟨x, hx, same⟩ := List.any_eq_true.mp held
    exact ⟨x, hx, eq_of_beq same⟩

theorem freeSession_next (held : ∃ x ∈ v.sessions, x.num = n) : freeSession v (k + 1) n = freeSession v k (nextSession n) := by
  obtain ⟨x, hx, same⟩ := held
  have opened : v.sessions.any (·.num == n) = true := List.any_eq_true.mpr ⟨x, hx, beq_iff_eq.mpr same⟩
  exact if_pos opened

end

/-! ### PROOF of the reader and the reader's timers (R111, R118, R124) -/

section
variable {s : Part} {nb proof : Block}

theorem takeReaderProof_idle (active : s.active = true) (idle : ∀ b role, s.sva.reader ≠ .challenging b role) :
    takeReaderProof nb proof s = s.toldReader (.refuse .denied) := by
  rw [takeReaderProof, if_pos active]
  cases reader : s.sva.reader with
  | challenging b role => exact absurd reader (idle b role)
  | ready | barred => exact sendReader_active active _

theorem takeReaderProof_challenging {b : Word} {role : BadgeRole} (active : s.active = true) (challenging : s.sva.reader = .challenging b role) :
    takeReaderProof nb proof s = badgeProof b role nb proof (wakeUp .reader s) := by
  rw [takeReaderProof, if_pos active, challenging]

theorem badgeProof_context {b : Word} {role : BadgeRole} {k : ReaderContext} (context : s.prv.readerContext = some k) :
    badgeProof b role nb proof s =
      if goodProof k.key k.nonce nb proof then openSession b role (proofValue k.key nb k.nonce) s else denyBadge s := by
  rw [badgeProof, context]

theorem openSession_eq (active : s.active = true) (b : Word) (role : BadgeRole) (x : Block) : openSession b role x s =
    Part.noticed (setCount .reader 0 (Part.toldReader { s with
      sva := { s.sva with
        sessions := s.sva.sessions ++
          [⟨s.sva.newSession, b, role, s.mtu.hall, some (s.mtu.uptime + BitVec.ofNat 48 (s.sva.timeout * 60000))⟩]
        lastSession := s.sva.newSession
        reader := .ready }
      prv := { s.prv with readerContext := none } } (.welcome x s.sva.newSession role))) (.sessionOpened s.sva.newSession b role) := by
  rw [openSession, sendReader_active (by exact active)]
  rfl

theorem readerProofExpiry_due {k : ReaderContext} (active : s.active = true) (context : s.prv.readerContext = some k) (due : s.due k.timer = true) :
    readerProofExpiry s = denyBadge s := by
  rw [readerProofExpiry, context]
  dsimp only
  rw [active, due]
  rfl

theorem readerProofExpiry_running (running : ∀ k, s.prv.readerContext = some k → s.due k.timer = false) : readerProofExpiry s = s := by
  rw [readerProofExpiry]
  cases context : s.prv.readerContext with
  | none => rfl
  | some k =>
    dsimp only
    rw [running k context, Bool.and_false]
    rfl

theorem barExpiry_due (save : s.psc.state ≠ .save) (off : s.psc.state ≠ .off) (due : s.due s.prv.barTimer = true) :
    barExpiry s = unbarReader (setCount .reader 0 s) := by
  rw [barExpiry, bne_iff_ne.mpr save, bne_iff_ne.mpr off, due]
  rfl

theorem barExpiry_idle (idle : s.psc.state = .save ∨ s.psc.state = .off ∨ s.due s.prv.barTimer = false) : barExpiry s = s := by
  refine if_neg ?_
  rw [Bool.and_eq_true, Bool.and_eq_true, bne_iff_ne, bne_iff_ne]
  rintro ⟨⟨save, off⟩, due⟩
  rcases idle with h | h | h
  · exact save h
  · exact off h
  · rw [h] at due
    cases due

/-- R118: the reader is freed as one change of SVA, PRV and the store. -/
theorem unbarReader_eq (s : Part) : unbarReader (setCount .reader 0 s) = { s with
    prv := { s.prv with readerCount := 0, barTimer := none }
    sva := { s.sva with reader := .ready }
    nvs := (setCount .reader 0 s).nvs } := by
  refine Part.eq_of_fields ?_ ?_ ?_ ?_ ?_ ?_ ?_ ?_ rfl
  · exact setCount_psc .reader 0 s
  · exact setCount_hlc .reader 0 s
  · exact setCount_ports .reader 0 s
  · exact congrArg (fun v : Prv => { v with barTimer := none }) (setCount_prv (who := .reader) 0)
  · exact setCount_trk .reader 0 s
  · exact setCount_fco .reader 0 s
  · exact congrArg (fun v : Sva => { v with reader := .ready }) (setCount_sva .reader 0 s)
  · exact setCount_mtu .reader 0 s

end

/-- Settles O46: PROOF of the reader by the exchange and the proof; the number of a new session; the reader's timers. -/
theorem readerProofOpensASession : Obligations.ReaderProofOpensASession := by
  unfold Obligations.ReaderProofOpensASession
  refine ⟨⟨fun b role k nb proof s run challenging context => ?_, fun nb proof s active idle => ?_,
    fun b role nb proof s run challenging ended => ?_, fun b role nb proof s quiet challenging => ?_, fun k s active context due => ?_,
    fun s running => ?_⟩, fun s save off due => ?_, fun s idle => ?_⟩
  · intro v good after open? a
    have taken : takeReaderProof nb proof s.part =
        if goodProof k.key k.nonce nb proof then openSession b role (proofValue k.key nb k.nonce) s.part else denyBadge s.part := by
      rw [takeReaderProof_challenging (active_of_run run) challenging, wakeUp_run run, badgeProof_context context]
    have give {t : Part} (served : takeReaderProof nb proof s.part = t) : Gives (.readerProof nb proof) s t :=
      gives_of_act (f := takeReaderProof nb proof) rfl served
    refine ⟨fun sound few => ⟨v.newSession, ?_, ?_, ?_, ?_, ?_⟩, fun bad => ?_⟩
    · exact fun free => freeSession_here 4 free
    · exact fun one free => (freeSession_next 3 one).trans (freeSession_here 3 free)
    · exact fun one two free => (freeSession_next 3 one).trans ((freeSession_next 2 two).trans (freeSession_here 2 free))
    · intro one two three
      have free := fourth_free few (nextSession_distinct v.lastSession) (by simpa using ⟨one, two, three⟩)
      exact (freeSession_next 3 one).trans ((freeSession_next 2 two).trans ((freeSession_next 1 three).trans (freeSession_here 1 free)))
    · exact give (taken.trans ((if_pos (goodProof_iff.mpr sound)).trans (openSession_eq (active_of_run run) b role _)))
    · exact give (taken.trans ((if_neg (mt goodProof_iff.mp bad)).trans (denyBadge_active (active_of_run run))))
  · exact gives_of_act (f := takeReaderProof nb proof) rfl (takeReaderProof_idle ((active_iff _).mpr active) idle)
  · refine gives_of_act (f := takeReaderProof nb proof) rfl ?_
    rw [takeReaderProof_challenging (active_of_run run) challenging, wakeUp_run run, badgeProof, ended]
    exact sendReader_active (by exact active_of_run run) _
  · refine exec_woken (f := takeReaderProof nb proof) (fun _ => rfl) quiet (c := .reader) ?_
    have woken : (wakeUp .reader s.part).psc.state = .run := by rw [wakeUp_quiet quiet]
    have still : (wakeUp .reader s.part).sva.reader = .challenging b role := by
      rw [wakeUp_quiet quiet]
      exact challenging
    rw [takeReaderProof_challenging (active_of_run woken) still, wakeUp_run woken,
      takeReaderProof_challenging ((active_iff _).mpr (.inr quiet)) challenging]
  · have active := (active_iff _).mpr active
    exact gives_of_act (f := readerProofExpiry) rfl ((readerProofExpiry_due active context due).trans (denyBadge_active active))
  · exact gives_of_act (f := readerProofExpiry) rfl (readerProofExpiry_running running)
  · refine ⟨_, gives_of_act (f := barExpiry) rfl ((barExpiry_due save off due).trans (unbarReader_eq s.part)), rfl, fun zero => ?_, rfl⟩
    have kept : (setCount .reader 0 s.part).nvs = s.part.nvs := congrArg Part.nvs (if_pos zero.symm)
    exact kept
  · exact gives_of_act (f := barExpiry) rfl (barExpiry_idle idle)

end Sys2Proof.Machine
end

section
/-! Sessions (R126, R128 to R130, R201): the settling of SessionsAreCheckedShownAndEnded. -/

namespace Sys2Proof.Machine

/-! ### The checks of R128 -/

theorem session_none {v : Sva} {num : Byte} (unopened : num = 0 ∨ ∀ x ∈ v.sessions, x.num ≠ num) : v.session? num = none := by
  rw [Sva.session?]
  rcases unopened with zero | other
  · exact if_pos zero
  · split
    · rfl
    · exact List.find?_eq_none.mpr fun x hx same => other x hx (eq_of_beq same)

theorem session_some {s : Part} {num : Byte} {x : Session} (session : s.inSession num x) : s.sva.session? num = some x := by
  obtain ⟨numbered, found⟩ := session
  exact (if_neg numbered).trans found

/-- R128: the requests that need a session check it in one way. -/
theorem exec_inSession {c : Instr} {k : ReqKind} {tag num : Byte} {d : List Byte} (request : requestOf c = some (k, tag, num :: d))
    (needs : k.needsSession = true) : ∃ (permitted : BadgeRole → Bool) (go : Nat → Session → Part → Part),
      (∀ s, exec c s = act (takeRequest k tag (num :: d) fun h => withSession h num permitted (go h)) s) ∧ ∀ r, permitted r = k.permits r := by
  cases c with
  | lockout | release | sessionClose =>
    cases request
    exact ⟨anyRole, _, fun s => rfl, fun r => rfl⟩
  | signOff | meterAdd =>
    cases request
    exact ⟨technicianUp, _, fun s => rfl, technicianUp_eq⟩
  | removeHold | unbar | sectionLockSection | sectionLockKeySlot | locksFreeze | boundarySet =>
    cases request
    exact ⟨supervisorOnly, _, fun s => rfl, supervisorOnly_eq⟩
  | _ => cases request <;> cases needs

theorem sessionPayload_size {k : ReqKind} {d : List Byte} (needs : k.needsSession = true) (fits : lengthFits k d = true) :
    d.length ≤ Config.payloadSize := by
  cases k with
  | lockout | release | sessionClose | signOff | meterAdd | removeHold | unbar | sectionLock | locksFreeze | boundarySet =>
    have length := eq_of_beq fits
    rw [length]
    decide
  | _ => cases needs

/-! ### The end of a session (R129) -/

theorem withIdle_others (l : List Session) (num : Byte) (t : Timer) :
    (l.map fun x => if x.num = num then { x with idle := t } else x).filter (·.num != num) = l.filter (·.num != num) := by
  induction l with
  | nil => rfl
  | cons x l ih =>
    rw [List.map_cons]
    by_cases mine : x.num = num
    · rw [if_pos mine, List.filter_cons_of_neg (by simp [mine]), List.filter_cons_of_neg (by simp [mine]), ih]
    · rw [if_neg mine, List.filter_cons_of_pos (by simp [mine]), List.filter_cons_of_pos (by simp [mine]), ih]

section
variable {s : Part} {num : Byte}

theorem idleExpiry_due {x : Session} (active : s.active = true) (found : s.sva.sessions.find? (·.num == num) = some x) (due : s.due x.idle = true) :
    idleExpiry num s = closeSession x true s := by
  rw [idleExpiry, found]
  dsimp only
  rw [active, due]
  rfl

theorem idleExpiry_running (running : ∀ x ∈ s.sva.sessions, x.num = num → s.due x.idle = false) : idleExpiry num s = s := by
  rw [idleExpiry]
  cases found : s.sva.sessions.find? (·.num == num) with
  | none => rfl
  | some x =>
    have mine : x.num = num := eq_of_beq (List.find?_some (p := fun x : Session => x.num == num) found)
    dsimp only
    rw [running x (List.mem_of_find?_eq_some found) mine, Bool.and_false]
    rfl

end

/-! ### SESSION READ (R130, R201) -/

theorem badgeNoted_eq (r : Reader) : r.badgeNoted.toNat = match r with
    | .challenging b _ => b.toNat
    | _ => 0 := by
  cases r <;> rfl

theorem sessionBytes_eq (s : Part) (x : Session) : sessionBytes s x = [x.num] ++ le 4 x.badge.toNat ++ [x.role.byte] ++
    le 6 x.opened.time.toNat ++ [markByte x.opened.unset] ++ le 4 (s.timeLeft x.idle) := by
  simp only [sessionBytes, Stamp.bytes, List.cons_append, List.nil_append, List.append_assoc]

theorem sessionContent_eq (s : Part) : sessionContent s = [s.sva.reader.byte] ++
    le 4 (match s.sva.reader with
      | .challenging b _ => b.toNat
      | _ => 0) ++
    [BitVec.ofNat 8 s.sva.sessions.length] ++
    s.sva.sessions.flatMap fun x =>
      [x.num] ++ le 4 x.badge.toNat ++ [x.role.byte] ++ le 6 x.opened.time.toNat ++ [markByte x.opened.unset] ++ le 4 (s.timeLeft x.idle) := by
  rw [sessionContent, badgeNoted_eq, funext (sessionBytes_eq s)]
  rfl

/-- Settles O47: the checks of R128, one for all the requests; the end of a session; SESSION READ. -/
theorem sessionsAreCheckedShownAndEnded : Obligations.SessionsAreCheckedShownAndEnded := by
  unfold Obligations.SessionsAreCheckedShownAndEnded
  refine ⟨⟨fun c k tag num d s request fits needs serves => ?_, ?_, ?_, ?_⟩, fun tag num x s accepts => ?_,
    fun num x s active found due => ?_, fun num s running => ?_, fun tag s serves => ?_⟩
  · obtain ⟨permitted, go, executes, permits⟩ := exec_inSession request needs
    have size := sessionPayload_size needs fits
    refine ⟨fun unopened => gives_of_serve (executes s) serves fits size ?_, fun x session denied => gives_of_serve (executes s) serves fits size ?_⟩
    · rw [withSession_none _ _ _ _ _ (by exact session_none unopened)]
      exact reply_entered serves.below _ _ _ _
    · rw [withSession_denied _ _ _ _ _ x (by exact session_some session) ((permits x.role).trans denied)]
      exact reply_entered serves.below _ _ _ _
  · simp [ReqKind.permits]
  · simp only [List.mem_cons, List.not_mem_nil, or_false]
    rintro k (rfl | rfl) r <;> cases r <;> simp [ReqKind.permits]
  · simp only [List.mem_cons, List.not_mem_nil, or_false]
    rintro k (rfl | rfl | rfl | rfl | rfl) r <;> exact beq_iff_eq
  · obtain ⟨serves, session, permitted⟩ := accepts
    have mine : x.num = num := session.num_eq
    refine gives_of_serve rfl serves rfl (number_fits num) ?_
    rw [show byteAt [num] 0 = num from rfl, withSession_accepts session (f := anyRole) rfl, closeSession, mine]
    have replied : reply s.part.hlc.nextHandle .done ((s.part.withIdle num).entered .sessionClose tag [num]) =
        (s.part.withIdle num).answered .sessionClose tag [num] .done [] := reply_entered (s := s.part.withIdle num) serves.below _ _ _ _
    rw [replied]
    exact congrArg (fun l => Part.noticed { s.part.answered .sessionClose tag [num] .done [] with
      sva := { s.part.sva with sessions := l } } (.sessionClosed num x.badge false)) (withIdle_others s.part.sva.sessions num _)
  · have mine : x.num = num := eq_of_beq (List.find?_some (p := fun x : Session => x.num == num) found)
    refine gives_of_act (f := idleExpiry num) rfl ((idleExpiry_due ((active_iff _).mpr active) found due).trans ?_)
    rw [closeSession, mine]
    rfl
  · exact gives_of_act (f := idleExpiry num) rfl (idleExpiry_running running)
  · refine gives_of_serve (serve := fun h s => replyWith h (sessionContent s) s) rfl serves rfl (Nat.zero_le _) ?_
    rw [replyWith_entered serves.below]
    exact congrArg (s.part.answered .sessionRead tag [] .done) (sessionContent_eq (s.part.entered .sessionRead tag []))

end Sys2Proof.Machine
end

section
/-! Isolation of a port and its robot (R72, R74, R88, R96): the settling of IsolationReachesPortAndRobot. -/

namespace Sys2Proof.Machine

/-! ### SPX isolates the port (R96) -/

theorem isolatePort_eq {s : Part} (active : s.active = true) (p : Port) : isolatePort p s =
    let q := modPort p (fun r => { r with
      parked := false, sent := if r.link then r.sent ++ [StationOut.isolate.bytes] else r.sent }) s
    match s.ports[p].admission with
    | .admitted => leaveAdmitted p .listening .isolation q
    | .challenged | .known => setAdmission p .listening (endContext p q)
    | .parked => setAdmission p .listening q
    | _ => q := by
  have told : sendStation p .isolate (modPort p (fun r => { r with parked := false }) s) = modPort p (fun r => { r with
      parked := false, sent := if r.link then r.sent ++ [StationOut.isolate.bytes] else r.sent }) s := by
    rw [sendStation_active (by exact active), modPort_modPort]
    rfl
  have admission : (modPort p (fun r => { r with
      parked := false, sent := if r.link then r.sent ++ [StationOut.isolate.bytes] else r.sent }) s).ports[p].admission = s.ports[p].admission :=
    (congrArg PortRec.admission (upd_self _ _ _)).trans rfl
  rw [isolatePort, told, admission] <;> cases s.ports[p].admission <;> rfl

/-! ### The arbiter grants only what is queued (R58) -/

theorem grantEntry_feeds (f : Feed) (e : QueueEntry) (s : Part) :
    (grantEntry f e s).fco.feeds = upd s.fco.feeds f fun r => { r with state := .granted (s.newGrant f e) } := by
  rw [grantEntry, sendStation_fco]
  rfl

theorem offer_others {f g : Feed} (other : f ≠ g) (l : List QueueEntry) (s : Part) : (offer f l s).fco.feeds[g] = s.fco.feeds[g] := by
  induction l generalizing s with
  | nil => exact upd_ne _ _ other
  | cons e l ih =>
    rw [offer]
    split
    · rw [ih, sendStation_fco]
      rfl
    · split
      · rw [ih, refuse, sendStation_fco]
        rfl
      · exact (congrArg (·[g]) (grantEntry_feeds f e (setQueue f l s))).trans ((upd_ne _ _ other).trans (upd_ne _ _ other))

theorem offer_leases {f : Feed} (l : List QueueEntry) {s : Part} (unleased : s.fco.feeds[f].state.lease? = none) {x : Lease}
    (leased : (offer f l s).fco.feeds[f].state.lease? = some x) : ∃ e ∈ l, e.port = x.port := by
  induction l generalizing s with
  | nil =>
    have still : (offer f [] s).fco.feeds[f].state = s.fco.feeds[f].state := (congrArg FeedRec.state (upd_self _ _ _)).trans rfl
    rw [still, unleased] at leased
    cases leased
  | cons e l ih =>
    have rest {t : Part} (fco : t.fco.feeds = s.fco.feeds) (leased : (offer f l t).fco.feeds[f].state.lease? = some x) :
        ∃ y ∈ e :: l, y.port = x.port := by
      obtain ⟨e', he, port⟩ := ih (s := t) (by rw [fco]; exact unleased) leased
      exact ⟨e', List.mem_cons_of_mem e he, port⟩
    rw [offer] at leased
    split at leased
    · exact rest (by rw [sendStation_fco]; rfl) leased
    · split at leased
      · exact rest (by rw [refuse, sendStation_fco]; rfl) leased
      · have here : (grantEntry f e (setQueue f l s)).fco.feeds[f].state = .granted ((setQueue f l s).newGrant f e) :=
          (congrArg (fun v : Vector FeedRec 4 => v[f].state) (grantEntry_feeds f e (setQueue f l s))).trans
            (congrArg FeedRec.state (upd_self _ _ _))
        rw [here] at leased
        cases leased
        exact ⟨e, List.mem_cons_self, rfl⟩

/-- A port that queues nothing and is served by no feed is not served once the arbiter has acted. -/
theorem arbitrate_unserved {f : Feed} {p : Port} {s : Part} (unqueued : s.fco.feedQueueing p = none) (unserved : s.fco.feedServing p = none) :
    (arbitrate f s).fco.feedServing p = none := by
  have none (g : Feed) (x : Lease) (leased : s.fco.feeds[g].state.lease? = some x) : x.port ≠ p := fun port => by
    have serves := feedServing_isSome.mpr ⟨g, x, leased, port⟩
    rw [unserved] at serves
    cases serves
  rw [← Option.not_isSome_iff_eq_none, feedServing_isSome]
  rintro ⟨g, x, leased, port⟩
  by_cases free : s.fco.feeds[f].state = .free
  · rw [arbitrate, if_pos free] at leased
    by_cases same : f = g
    · subst same
      obtain ⟨e, he, mine⟩ := offer_leases _ (by rw [free]; rfl) leased
      exact feedQueueing_none_iff.mp unqueued f e he (mine.trans port)
    · rw [offer_others same] at leased
      exact none g x leased port
  · rw [arbitrate_busy free] at leased
    exact none g x leased port

/-! ### FCO isolates the robot (R72, R74) -/

section
variable {s : Part} {p : Port}

theorem isolateRobot_unserved {t : Part} (left : portLeft p s = t) (unserved : t.fco.feedServing p = none) : isolateRobot p s = t := by
  rw [isolateRobot, left]
  rw [unserved]

theorem isolateRobot_cuts {f : Feed} (left : portLeft p s = s) (serving : s.fco.feedServing p = some f) : isolateRobot p s = cut f .isolation s := by
  rw [isolateRobot, left]
  rw [serving]

variable {f : Feed} {l : Lease}

theorem cut_isolated (held : s.fco.feeds[f].state = .held l) : cut f .isolation s =
    if l.inFlight then drainBegins l.port (setFeed f (.draining l) s) else arbitrate f (finishLease f l false (failFill f l .incomplete s)) := by
  rw [cut, held]
  rfl

end

/-- Settles O49: the port by its state; the robot by what it holds. -/
theorem isolationReachesPortAndRobot : Obligations.IsolationReachesPortAndRobot := by
  unfold Obligations.IsolationReachesPortAndRobot
  refine ⟨fun p s run => ?_, fun p s => ⟨fun unqueued unserved => ?_, fun f before after e unserved unclaimed queue mine others feeds => ?_,
    fun f l unclaimed unqueued serving only => ?_⟩⟩
  · intro r q listening
    have isolated := isolatePort_eq (active_of_run run) p
    refine ⟨?_, fun challenged => ?_, fun parked => ?_, fun admitted => ?_⟩
    · rintro (here | here | here)
      all_goals
        rw [isolated, show s.ports[p].admission = _ from here]
    · rw [isolated, show s.ports[p].admission = _ from challenged]
      rfl
    · rw [isolated, show s.ports[p].admission = _ from parked]
      rfl
    · rw [isolated, show s.ports[p].admission = _ from admitted]
  · exact isolateRobot_unserved (portLeft_idle unqueued fun f l serving => nomatch unserved.symm.trans serving) unserved
  · refine isolateRobot_unserved (portLeft_queued unserved queue mine others feeds |>.trans (by rw [voidClaim_none unclaimed]; rfl)) ?_
    refine (feedServing_congr p fun g => ?_).trans unserved
    change (upd s.fco.feeds f fun r => { r with queue := before ++ after })[g].state = _
    rw [upd_get]
    split <;> rfl
  · have left (ungranted : ∀ k, s.fco.feeds[f].state ≠ .granted k) : portLeft p s = s := by
      refine (portLeft_idle unqueued fun g k serves granted => ?_).trans (voidClaim_none unclaimed .silent)
      cases serving.symm.trans serves
      exact ungranted k granted
    refine ⟨fun granted => ?_, fun held idle => ?_, fun held dosing => ?_, fun draining => ?_⟩
    · refine isolateRobot_unserved (portLeft_granted unqueued serving granted |>.trans (by rw [voidClaim_none unclaimed]; rfl)) ?_
      have feed (g : Feed) : (setFeed f l.target.state s).fco.feeds[g] =
          if f = g then { s.fco.feeds[g] with state := l.target.state } else s.fco.feeds[g] := upd_get s.fco.feeds f g _
      refine arbitrate_unserved (feedQueueing_none_iff.mpr fun g e he => ?_) ?_
      · refine feedQueueing_none_iff.mp unqueued g e ?_
        change e ∈ (setFeed f l.target.state s).fco.feeds[g].queue at he
        rw [feed] at he
        split at he
        · exact he
        · exact he
      · rw [← Option.not_isSome_iff_eq_none, feedServing_isSome]
        rintro ⟨g, x, leased, port⟩
        change (setFeed f l.target.state s).fco.feeds[g].state.lease? = some x at leased
        rw [feed] at leased
        split at leased
        · cases target : l.target <;> rw [target] at leased <;> cases leased
        · next away => exact away (only g x leased port).symm
    · rw [isolateRobot_cuts (left fun k granted => nomatch held.symm.trans granted) serving, cut_isolated held, idle]
      rfl
    · have mine : l.port = p := feedServing_port serving (by rw [held]; rfl)
      rw [isolateRobot_cuts (left fun k granted => nomatch held.symm.trans granted) serving, cut_isolated held, dosing, mine]
      rfl
    · rw [isolateRobot_cuts (left fun k granted => nomatch draining.symm.trans granted) serving, cut, draining]

end Sys2Proof.Machine
end

section
/-! SIGN OFF and UNBAR (R116, R118, R142, R144, R161): the settling of SignOffAndUnbarQueueTheirJobs. -/

namespace Sys2Proof.Machine

/-! ### SIGN OFF on a port (R142, R161) -/

section
variable {h : Nat} {x : Session} {p : Port} {s : Part}

theorem signOffPort_wrongState (none : s.sva.holders[p] = []) : signOffPort h x p s = reply h .wrongState s := by
  rw [signOffPort, none]
  rfl

theorem signOffPort_notFound (held : s.sva.holders[p] ≠ []) (other : ∀ y ∈ s.sva.holders[p], y.badge ≠ x.badge) :
    signOffPort h x p s = reply h .notFound s := by
  have holds : (!s.sva.holders[p].isEmpty) = true := by rw [List.isEmpty_eq_false_iff.mpr held]; rfl
  have foreign : s.sva.holders[p].any (·.badge == x.badge) = false := List.any_eq_false.mpr fun y hy same => other y hy (eq_of_beq same)
  rw [signOffPort, holds, check_true, foreign, check_false]

theorem signOffPort_mine (mine : ∃ y ∈ s.sva.holders[p], y.badge = x.badge) : signOffPort h x p s =
    queueOrFull h (.threshold p (signOffThreshold s.mtu.cfg[p] s.mtu.meters[meterA p].value)) s := by
  obtain ⟨y, hy, same⟩ := mine
  have holds : (!s.sva.holders[p].isEmpty) = true := by
    rw [List.isEmpty_eq_false_iff.mpr (List.ne_nil_of_mem hy)]
    rfl
  have here : s.sva.holders[p].any (·.badge == x.badge) = true := List.any_eq_true.mpr ⟨y, hy, beq_iff_eq.mpr same⟩
  rw [signOffPort, holds, check_true, here, check_true]

end

theorem exec_signOff (tag num n : Byte) (s : State) : exec (.signOff tag [num, n]) s =
    act (takeRequest .signOff tag [num, n] (serveAtPort num n technicianUp signOffPort)) s := rfl

/-! ### UNBAR of a target (R116, R118, R144) -/

theorem unbarTarget_outside {n : Nat} (outside : 12 < n) : unbarTarget n = none := by
  rw [unbarTarget, if_neg (by omega), portOf_outside (by omega)]
  rfl

theorem unbarTarget_named {n : Byte} {who : Subject} (named : n = 0 ∧ who = .reader ∨ ∃ p : Port, n.toNat = p.val + 1 ∧ who = .port p) :
    unbarTarget n.toNat = some who := by
  rcases named with ⟨rfl, rfl⟩ | ⟨p, number, rfl⟩
  · rfl
  · rw [unbarTarget, number, if_neg (by omega), portOf_number]
    rfl

section
variable {who : Subject} {h : Nat} {s : Part}

theorem unbarRequest_full (none : ∀ j ∈ s.nvs.queue, j.countsFor who = false) (full : 8 ≤ s.nvs.queue.length) :
    unbarRequest h who s = reply h .full s := by
  have unqueued : s.nvs.queue.any (·.countsFor who) = false := List.any_eq_false.mpr fun j hj => Bool.eq_false_iff.mp (none j hj)
  rw [unbarRequest, unqueued, (hasRoom_false_iff s.nvs).mpr full]
  rfl

theorem unbarRequest_queued (none : ∀ j ∈ s.nvs.queue, j.countsFor who = false) (room : s.nvs.queue.length < 8) :
    unbarRequest h who s = s.queued (.failcount who 0 true false) [h] := by
  have unqueued : s.nvs.queue.any (·.countsFor who) = false := List.any_eq_false.mpr fun j hj => Bool.eq_false_iff.mp (none j hj)
  rw [unbarRequest, (hasRoom_iff s.nvs).mpr room, Bool.true_or, check_true, queueLift, unqueued]
  rfl

theorem unbarRequest_joins {before after : List Job} {v : Nat} {l st : Bool} {o : List Nat}
    (queue : s.nvs.queue = before ++ ⟨.failcount who v l st, o⟩ :: after) (others : ∀ j ∈ before ++ after, j.countsFor who = false) :
    unbarRequest h who s = { s with nvs := { s.nvs with queue := before ++ ⟨.failcount who 0 true st, o ++ [h]⟩ :: after } } := by
  have mine : Job.countsFor ⟨.failcount who v l st, o⟩ who = true := beq_self_eq_true who
  have waits : s.nvs.queue.any (·.countsFor who) = true := by rw [queue]; exact any_one (mine := fun j : Job => j.countsFor who) mine
  have lifted : (s.nvs.queue.map fun j => if j.countsFor who then ⟨j.body.withCount 0 true, j.origin ++ [h]⟩ else j) =
      before ++ ⟨.failcount who 0 true st, o ++ [h]⟩ :: after := by
    rw [queue, map_one (mine := fun j : Job => j.countsFor who) mine others]
    simp only [JobBody.withCount, Bool.or_true]
  rw [unbarRequest, waits, Bool.or_true, check_true, queueLift, if_pos waits, lifted]

end

/-- Settles O51: SIGN OFF by the holds on the port; UNBAR by the jobs that wait. -/
theorem signOffAndUnbarQueueTheirJobs : Obligations.SignOffAndUnbarQueueTheirJobs := by
  unfold Obligations.SignOffAndUnbarQueueTheirJobs
  refine ⟨fun tag num n x s accepts => ?_, fun tag num n x s accepts => ?_⟩
  · intro q refused
    have executed := exec_signOff tag num n s
    have fits := sessionPort_fits num n
    have ⟨_, _, permits⟩ := accepts
    have permitted : technicianUp x.role = true := (technicianUp_eq x.role).trans permits
    refine ⟨gives_badPort executed accepts permitted rfl fits, fun p named => ?_⟩
    intro held a i
    let entered : Part := q.entered .signOff tag [num, n]
    have refusal {code : Code} := gives_refusedAtPort (code := code) executed accepts permitted rfl fits named
    refine ⟨fun none => refusal (signOffPort_wrongState none), fun holds other => refusal (signOffPort_notFound holds other),
      fun mine full => refusal ((signOffPort_mine (s := entered) mine).trans (queueOrFull_full _ _ entered ((hasRoom_false_iff entered.nvs).mpr full))),
      fun mine room => ⟨signOffThreshold s.part.mtu.cfg[p] a, fun zero => if_pos zero, fun some => ?_, ?_⟩⟩
    · have sum : signOffThreshold s.part.mtu.cfg[p] a = BitVec.ofNat 32 (min (a.toNat + i.toNat) (2 ^ 32 - 1)) := if_neg some
      rw [sum, BitVec.toNat_ofNat]
      omega
    · exact gives_atPort executed accepts permitted rfl fits named
        ((signOffPort_mine (s := entered) mine).trans (queueOrFull_room _ _ entered ((hasRoom_iff entered.nvs).mpr room)))
  · intro q d h
    obtain ⟨serves, session, permits⟩ := accepts
    have permitted : supervisorOnly x.role = true := (supervisorOnly_eq x.role).trans permits
    have give {a : Option Subject} {t : Part} (target : unbarTarget n.toNat = a)
        (unbars : orBadValue h a (unbarRequest h) (q.entered .unbar tag d) = t) : Gives (.unbar tag d) s t := by
      refine gives_of_serve rfl serves rfl (sessionPort_fits num n) ?_
      rw [show byteAt [num, n] 0 = num from rfl, withSession_accepts session permitted, show byteAt [num, n] 1 = n from rfl, target]
      exact unbars
    have entered (code : Code) : reply h code (q.entered .unbar tag d) = q.answered .unbar tag d code [] :=
      reply_entered (s := q) serves.below .unbar tag d code
    refine ⟨fun outside => give (unbarTarget_outside outside) (entered .badValue), fun who named => ⟨fun none => ⟨fun full => ?_, fun room => ?_⟩,
      fun before after v lifts stale o queue others => ?_⟩⟩
    · exact give (unbarTarget_named named) ((unbarRequest_full (s := q.entered .unbar tag d) none full).trans (entered .full))
    · exact give (unbarTarget_named named) (unbarRequest_queued (s := q.entered .unbar tag d) none room)
    · exact give (unbarTarget_named named) (unbarRequest_joins (s := q.entered .unbar tag d) queue others)

end Sys2Proof.Machine
end

section
/-! The clocks and the second boundary (R102, R148, R150 to R152, R201): the settling of ClocksRunAndSecondsAreCounted. -/

namespace Sys2Proof.Machine

/-! ### The clocks (R148, R150 to R152) -/

theorem tick_eq {s : Part} (supplied : s.psc.state ≠ .off) : tick s = { s with mtu := { s.mtu with
    uptime := s.mtu.uptime + 1
    hall := ⟨s.mtu.hall.time + 1, s.mtu.hall.unset⟩
    secondsDue := if (s.mtu.uptime + 1).toNat ≠ 0 ∧ 1000 ∣ (s.mtu.uptime + 1).toNat then s.mtu.secondsDue + 1 else s.mtu.secondsDue } } := by
  have boundary : (s.mtu.uptime + 1 ≠ 0 ∧ (s.mtu.uptime + 1).toNat % 1000 = 0) =
      ((s.mtu.uptime + 1).toNat ≠ 0 ∧ 1000 ∣ (s.mtu.uptime + 1).toNat) := by
    rw [Nat.dvd_iff_mod_eq_zero, ← BitVec.toNat_ne_iff_ne]
    rfl
  rw [tick, if_neg supplied]
  simp only [boundary]

/-- The six bytes of a time, the low one first. -/
theorem time_of_bytes (b0 b1 b2 b3 b4 b5 : Byte) :
    BitVec.ofNat 48 (numberAt [b0, b1, b2, b3, b4, b5] 0 6) = (b5 ++ b4 ++ b3 ++ b2 ++ b1 ++ b0 : Time) := by
  have spelled : numberAt [b0, b1, b2, b3, b4, b5] 0 6 = (b5 ++ b4 ++ b3 ++ b2 ++ b1 ++ b0 : Time).toNat := by
    simp only [toNat_append_byte]
    rfl
  rw [spelled, BitVec.ofNat_toNat, BitVec.setWidth_eq]

/-! ### Meter B of the ADMITTED ports (R102, R154) -/

/-- R154: a meter once an increment has been applied to it. -/
def MeterRec.incremented (closed : Bool) (r : MeterRec) : MeterRec :=
  if closed = true ∨ r.full = true then r
  else if r.value.toNat = 4294967295 then ⟨r.value, true⟩
  else ⟨r.value + 1, false⟩

/-- Some meters B have been incremented from `s` to `t`: nothing but the meters and the notices differs. -/
structure Counts (l : List Port) (s t : Part) : Prop where
  same : t = { s with
    hlc := { s.hlc with notices := t.hlc.notices, gap := t.hlc.gap }
    mtu := { s.mtu with meters := t.mtu.meters } }
  counted : ∀ p ∈ l, t.mtu.meters[meterB p] = s.mtu.meters[meterB p].incremented s.mtu.closed
  left : ∀ m, (∀ p ∈ l, m ≠ meterB p) → t.mtu.meters[m] = s.mtu.meters[m]

theorem Hlc.enqueue_shape (n : Notice) (h : Hlc) : h.enqueue n = { h with notices := (h.enqueue n).notices, gap := (h.enqueue n).gap } := by
  simp only [Hlc.enqueue, bumpGap]
  split
  · rfl
  · split
    · rfl
    · split <;> rfl

theorem meterB_ne (p q : Port) : meterB p ≠ meterA q := fun same => by
  have value : 2 * p.val + 1 = 2 * q.val := congrArg Fin.val same
  omega

theorem meterB_inj {p q : Port} (same : meterB p = meterB q) : p = q := by
  have value : 2 * p.val + 1 = 2 * q.val + 1 := congrArg Fin.val same
  exact Fin.ext (by omega)

theorem meterInc_counts (p : Port) (s : Part) : Counts [p] s (meterInc (meterB p) s) := by
  have set (x : MeterRec) : (s.mtu.meters.set (meterB p) x)[meterB p] = x := (set_get _ _ _ _).trans (if_pos rfl)
  have others (x : MeterRec) (m : Meter) (other : ∀ q ∈ [p], m ≠ meterB q) : (s.mtu.meters.set (meterB p) x)[m] = s.mtu.meters[m] :=
    (set_get _ _ _ _).trans (if_neg fun same => other p List.mem_cons_self same.symm)
  by_cases still : s.mtu.closed = true ∨ s.mtu.meters[meterB p].full = true
  · rw [meterInc_left still]
    refine ⟨rfl, fun q hq => ?_, fun _ _ => rfl⟩
    rw [List.mem_singleton.mp hq, MeterRec.incremented, if_pos still]
  · have ⟨open_, room⟩ := not_or.mp still
    have closed : s.mtu.closed = false := Bool.eq_false_iff.mpr open_
    have full : s.mtu.meters[meterB p].full = false := Bool.eq_false_iff.mpr room
    by_cases last : s.mtu.meters[meterB p].value.toNat = 4294967295
    · rw [meterInc_fills closed full last]
      refine ⟨?_, fun q hq => ?_, others _⟩
      · exact congrArg (fun h => ({ s with
          hlc := h, mtu := { s.mtu with meters := s.mtu.meters.set (meterB p) ⟨s.mtu.meters[meterB p].value, true⟩ } } : Part))
          (Hlc.enqueue_shape _ s.hlc)
      · rw [List.mem_singleton.mp hq, MeterRec.incremented, if_neg still, if_pos last]
        exact set _
    · have below : s.mtu.meters[meterB p].value.toNat < 4294967295 := by
        have bound := s.mtu.meters[meterB p].value.isLt
        omega
      rw [meterInc_rises closed full below, evalMeter_other (meterB_ne p)]
      refine ⟨rfl, fun q hq => ?_, others _⟩
      rw [List.mem_singleton.mp hq, MeterRec.incremented, if_neg still, if_neg last, ← full]
      exact set _

theorem forEach_counts {l : List Port} (once : l.Nodup) (s : Part) : Counts l s (forEach l (fun p => meterInc (meterB p)) s) := by
  induction l generalizing s with
  | nil => exact ⟨rfl, fun _ hp => (nomatch hp), fun _ _ => rfl⟩
  | cons p l ih =>
    obtain ⟨new, once⟩ := List.nodup_cons.mp once
    have first := meterInc_counts p s
    have rest := ih once (meterInc (meterB p) s)
    rw [forEach_cons]
    generalize meterInc (meterB p) s = t at first rest
    generalize forEach l (fun p => meterInc (meterB p)) t = u at rest
    have closed : t.mtu.closed = s.mtu.closed := by rw [first.same]
    refine ⟨?_, fun q hq => ?_, fun m other => ?_⟩
    · rw [rest.same, first.same]
    · rcases List.mem_cons.mp hq with rfl | hq
      · rw [rest.left _ fun r hr same => new (by rw [meterB_inj same]; exact hr)]
        exact first.counted q List.mem_cons_self
      · have away : q ≠ p := fun same => new (same ▸ hq)
        rw [rest.counted q hq, closed, first.left _ fun r hr same => away ((meterB_inj same).trans (List.mem_singleton.mp hr))]
    · rw [rest.left m fun q hq => other q (List.mem_cons_of_mem p hq),
        first.left m fun q hq => other q (List.mem_singleton.mp hq ▸ List.mem_cons_self)]

/-- Settles O53: the clocks by their definitions; a second boundary as an increment of meter B of each ADMITTED port. -/
theorem clocksRunAndSecondsAreCounted : Obligations.ClocksRunAndSecondsAreCounted := by
  unfold Obligations.ClocksRunAndSecondsAreCounted
  refine ⟨⟨fun s supplied => ?_, fun s off => ?_, fun tag b0 b1 b2 b3 b4 b5 s serves => ?_, fun tag s serves => ?_⟩,
    fun s active due => ?_, fun s run quiet due => ?_, fun s none => ?_⟩
  · exact gives_of_act (f := tick) rfl (tick_eq supplied)
  · exact gives_of_act (f := tick) rfl (if_pos off)
  · refine gives_of_serve rfl serves rfl (by decide : 6 ≤ 248) ?_
    rw [setHall, time_of_bytes]
    exact congrArg (fun u : Part => ({ u with mtu := { s.part.mtu with hall := ⟨b5 ++ b4 ++ b3 ++ b2 ++ b1 ++ b0, false⟩ } } : Part))
      (reply_entered serves.below .timeSet tag [b0, b1, b2, b3, b4, b5] .done)
  · refine gives_of_serve (serve := fun h s => replyWith h (timeContent s) s) rfl serves rfl (Nat.zero_le _) ?_
    rw [replyWith_entered serves.below, timeContent, Stamp.bytes, ← List.append_assoc]
    rfl
  · let taken : Part := { s.part with mtu := { s.part.mtu with secondsDue := s.part.mtu.secondsDue - 1 } }
    let admitted : List Port := (List.finRange 12).filter fun p => s.part.ports[p].admission == .admitted
    have mem (p : Port) : p ∈ admitted ↔ s.part.ports[p].admission = .admitted := by
      rw [List.mem_filter, beq_iff_eq]
      exact and_iff_right (List.mem_finRange p)
    have counts := forEach_counts ((List.nodup_finRange 12).filter fun p : Port => s.part.ports[p].admission == .admitted) taken
    have gives : secondBoundary s.part = forEach admitted (fun p => meterInc (meterB p)) taken :=
      (if_pos due).trans (if_pos (by exact (active_iff s.part).mpr active))
    refine ⟨_, gives_of_act (f := secondBoundary) rfl gives, counts.same, fun p => ⟨fun here open_ room => ?_, fun left => ?_⟩, fun m other => ?_⟩
    · have counted := counts.counted p ((mem p).mpr here)
      have applies : ¬ (s.part.mtu.closed = true ∨ s.part.mtu.meters[meterB p].full = true) := by
        rw [open_, room]
        exact fun h => h.elim Bool.false_ne_true Bool.false_ne_true
      refine ⟨fun below => counted.trans ((if_neg applies).trans (if_neg (by exact below.ne))),
        fun last => counted.trans ((if_neg applies).trans (if_pos last))⟩
    · by_cases here : p ∈ admitted
      · exact (counts.counted p here).trans (if_pos (left.resolve_left fun out => out ((mem p).mp here)))
      · exact counts.left _ fun q hq same => here (meterB_inj same ▸ hq)
    · exact counts.left m fun q _ => other q
  · exact gives_of_act (f := secondBoundary) rfl ((if_pos due).trans (if_neg (Bool.eq_false_iff.mp (inactive_of run quiet))))
  · exact gives_of_act (f := secondBoundary) rfl (if_neg (by rw [none]; exact Nat.lt_irrefl 0))

end Sys2Proof.Machine
end

section
/-! SECTION LOCK, LOCKS FREEZE and BOUNDARY SET (R108, R172 to R174): the settling of LocksFreezeAndBoundaryAreChecked. -/

namespace Sys2Proof.Machine

/-! ### Requests of a session that wait for a job -/

theorem any_jobs_iff (n : Nvs) (f : Job → Bool) : n.jobs.any f = true ↔ ∃ j, (j ∈ n.queue ∨ n.inFlight = some j) ∧ f j = true := by
  rw [List.any_eq_true]
  refine exists_congr fun j => and_congr_left fun _ => ?_
  rw [Nvs.jobs, List.mem_append, Option.mem_toList, or_comm]

theorem queueOrFull_entered {s : Part} (below : s.hlc.handlesBelow) (k : ReqKind) (tag : Byte) (d : List Byte) (b : JobBody) :
    queueOrFull s.hlc.nextHandle b (s.entered k tag d) =
      if s.nvs.queue.length < 8 then (s.entered k tag d).queued b [s.hlc.nextHandle] else s.answered k tag d .full [] := by
  by_cases room : s.nvs.queue.length < 8
  · rw [if_pos room, queueOrFull_room _ _ _ ((hasRoom_iff (s.entered k tag d).nvs).mpr room)]
    rfl
  · rw [if_neg room, queueOrFull_full _ _ _ ((hasRoom_false_iff (s.entered k tag d).nvs).mpr (Nat.not_lt.mp room))]
    exact reply_entered below k tag d .full

/-! ### SECTION LOCK (R108, R172) -/

theorem targetOf_none {cls n : Byte} (outside : 1 < cls.toNat ∨ (cls = 0 ∧ 6 < n.toNat) ∨ (cls = 1 ∧ 7 < n.toNat)) :
    targetOf cls.toNat n.toNat = none := by
  rcases outside with other | ⟨rfl, beyond⟩ | ⟨rfl, beyond⟩
  · obtain ⟨k, hk⟩ : ∃ k, cls.toNat = k + 2 := ⟨cls.toNat - 2, by omega⟩
    rw [hk]
    rfl
  · exact congrArg (Option.map LockTarget.area) (dif_neg (Nat.not_lt.mpr beyond))
  · exact congrArg (Option.map LockTarget.slot) (dif_neg (Nat.not_lt.mpr beyond))

theorem targetOf_some {cls n : Byte} {t : LockTarget} (named : cls = 0 ∧ (∃ a : Fin 7, a.val = n.toNat ∧ t = .area a) ∨
    cls = 1 ∧ ∃ k : Slot, k.val = n.toNat ∧ t = .slot k) : targetOf cls.toNat n.toNat = some t := by
  rcases named with ⟨rfl, a, same, rfl⟩ | ⟨rfl, k, same, rfl⟩
  · rw [← same]
    exact congrArg (Option.map LockTarget.area) (dif_pos a.isLt)
  · rw [← same]
    exact congrArg (Option.map LockTarget.slot) (dif_pos k.isLt)

theorem targetLocked_iff {n : Nvs} {t : LockTarget} : n.targetLocked t = true ↔
    (∃ a, t = .area a ∧ n.sectionLocks[a] = true) ∨ ∃ k, t = .slot k ∧ n.slotLocks[k] = true := by
  cases t with
  | area a => simp [-Fin.getElem_fin, Nvs.targetLocked]
  | slot k => simp [-Fin.getElem_fin, Nvs.targetLocked]

section
variable {s : Part} {t : LockTarget} {h : Nat}

theorem lockTarget_done (locked : s.nvs.targetLocked t = true) : lockTarget h t s = reply h .done s := if_pos locked

theorem lockTarget_frozen (free : ¬ s.nvs.targetLocked t = true) (frozen : s.nvs.frozen = true) : lockTarget h t s = reply h .frozen s := by
  rw [lockTarget, if_neg free, frozen]
  rfl

theorem lockTarget_queues (free : ¬ s.nvs.targetLocked t = true) (thawed : s.nvs.frozen = false) :
    lockTarget h t s = queueOrFull h (.lock t) s := by
  rw [lockTarget, if_neg free, thawed]
  rfl

end

/-! ### LOCKS FREEZE and BOUNDARY SET (R173, R174) -/

theorem Job.isFreeze_iff {j : Job} : j.isFreeze = true ↔ j.body = .freeze := beq_iff_eq

theorem Job.boundary_iff {j : Job} : (Job.boundary? j).isSome = true ↔ ∃ w, j.body = .boundary w := by
  obtain ⟨body, origin⟩ := j
  cases body <;> simp [Job.boundary?]

section
variable {s : Part} {h v : Nat}

theorem freezeLocks_done (frozen : s.nvs.frozen = true) : freezeLocks h s = reply h .done s := if_pos frozen

variable (thawed : s.nvs.frozen = false)

include thawed in
theorem freezeLocks_inProgress (waiting : s.nvs.jobs.any (·.isFreeze) = true) : freezeLocks h s = reply h .inProgress s := by
  rw [freezeLocks, if_neg (Bool.eq_false_iff.mp thawed), waiting]
  rfl

include thawed in
theorem freezeLocks_queues (idle : ¬ s.nvs.jobs.any (·.isFreeze) = true) : freezeLocks h s = queueOrFull h .freeze s := by
  rw [freezeLocks, if_neg (Bool.eq_false_iff.mp thawed), Bool.eq_false_iff.mpr idle]
  rfl

theorem setBoundary_inProgress (waiting : (s.nvs.jobs.any fun j => (Job.boundary? j).isSome) = true) :
    setBoundary h v s = reply h .inProgress s := by
  rw [setBoundary, waiting]
  rfl

theorem setBoundary_badValue (idle : ¬ (s.nvs.jobs.any fun j => (Job.boundary? j).isSome) = true) (above : s.nvs.boundary ≤ v) :
    setBoundary h v s = reply h .badValue s := by
  rw [setBoundary, Bool.eq_false_iff.mpr idle, decide_eq_false (Nat.not_lt.mpr above)]
  rfl

theorem setBoundary_queues (idle : ¬ (s.nvs.jobs.any fun j => (Job.boundary? j).isSome) = true) (below : v < s.nvs.boundary) :
    setBoundary h v s = queueOrFull h (.boundary v) s := by
  rw [setBoundary, Bool.eq_false_iff.mpr idle, decide_eq_true below]
  rfl

end

/-- Settles O57: the checks of each request in order. -/
theorem locksFreezeAndBoundaryAreChecked : Obligations.LocksFreezeAndBoundaryAreChecked := by
  unfold Obligations.LocksFreezeAndBoundaryAreChecked
  refine ⟨fun c tag num cls n x s => ?_, fun tag num x s accepts => ?_, fun tag num v x s accepts => ?_⟩
  · intro d which accepts q replied
    obtain ⟨serves, session, permits⟩ := accepts
    have permitted : supervisorOnly x.role = true := (supervisorOnly_eq x.role).trans permits
    have executes : exec c s = act (takeRequest .sectionLock tag d (serveSectionLock d)) s := by rcases which with rfl | rfl <;> rfl
    have give {a : Option LockTarget} {t : Part} (target : targetOf cls.toNat n.toNat = a)
        (locks : orBadValue s.part.hlc.nextHandle a (lockTarget s.part.hlc.nextHandle) (q.entered .sectionLock tag d) = t) : Gives c s t := by
      refine gives_of_serve executes serves rfl (by decide : 3 ≤ 248) ?_
      rw [serveSectionLock, show byteAt d 0 = num from rfl, withSession_accepts session permitted, show byteAt d 1 = cls from rfl,
        show byteAt d 2 = n from rfl, target]
      exact locks
    have entered (code : Code) : reply s.part.hlc.nextHandle code (q.entered .sectionLock tag d) = q.answered .sectionLock tag d code [] :=
      reply_entered (s := q) serves.below .sectionLock tag d code
    refine ⟨fun outside => give (targetOf_none outside) (entered .badValue), fun t named => ?_⟩
    intro locked
    have target := targetOf_some named
    have marked : (q.entered .sectionLock tag d).nvs.targetLocked t = true ↔ locked := targetLocked_iff
    have queues (free : ¬ locked) (thawed : s.part.nvs.frozen = false) : lockTarget s.part.hlc.nextHandle t (q.entered .sectionLock tag d) =
        if s.part.nvs.queue.length < 8 then (q.entered .sectionLock tag d).queued (.lock t) [s.part.hlc.nextHandle]
        else q.answered .sectionLock tag d .full [] :=
      (lockTarget_queues (s := q.entered .sectionLock tag d) (mt marked.mp free) thawed).trans
        (queueOrFull_entered (s := q) serves.below .sectionLock tag d (.lock t))
    refine ⟨fun set => give target ((lockTarget_done (s := q.entered .sectionLock tag d) (marked.mpr set)).trans (entered .done)),
      fun free frozen => give target ((lockTarget_frozen (s := q.entered .sectionLock tag d) (mt marked.mp free) frozen).trans (entered .frozen)),
      fun free thawed full => give target ((queues free thawed).trans (if_neg (Nat.not_lt.mpr full))),
      fun free thawed room => give target ((queues free thawed).trans (if_pos room))⟩
  · intro q n replied waiting
    obtain ⟨serves, session, permits⟩ := accepts
    have permitted : supervisorOnly x.role = true := (supervisorOnly_eq x.role).trans permits
    have give {t : Part} (freezes : freezeLocks s.part.hlc.nextHandle (q.entered .locksFreeze tag [num]) = t) :
        Gives (.locksFreeze tag [num]) s t := by
      refine gives_of_serve rfl serves rfl (number_fits num) ?_
      rw [show byteAt [num] 0 = num from rfl, withSession_accepts session permitted]
      exact freezes
    have entered (code : Code) : reply s.part.hlc.nextHandle code (q.entered .locksFreeze tag [num]) = q.answered .locksFreeze tag [num] code [] :=
      reply_entered (s := q) serves.below .locksFreeze tag [num] code
    have waits : (q.entered .locksFreeze tag [num]).nvs.jobs.any (·.isFreeze) = true ↔ waiting :=
      (any_jobs_iff n _).trans (exists_congr fun j => and_congr_right' Job.isFreeze_iff)
    have queues (thawed : n.frozen = false) (idle : ¬ waiting) : freezeLocks s.part.hlc.nextHandle (q.entered .locksFreeze tag [num]) =
        if n.queue.length < 8 then (q.entered .locksFreeze tag [num]).queued .freeze [s.part.hlc.nextHandle]
        else q.answered .locksFreeze tag [num] .full [] :=
      (freezeLocks_queues (s := q.entered .locksFreeze tag [num]) thawed (mt waits.mp idle)).trans
        (queueOrFull_entered (s := q) serves.below .locksFreeze tag [num] .freeze)
    refine ⟨fun frozen => give ((freezeLocks_done (s := q.entered .locksFreeze tag [num]) frozen).trans (entered .done)),
      fun thawed waiting => give ((freezeLocks_inProgress (s := q.entered .locksFreeze tag [num]) thawed
        (waits.mpr waiting)).trans (entered .inProgress)),
      fun thawed idle full => give ((queues thawed idle).trans (if_neg (Nat.not_lt.mpr full))),
      fun thawed idle room => give ((queues thawed idle).trans (if_pos room))⟩
  · intro q n replied waiting
    obtain ⟨serves, session, permits⟩ := accepts
    have permitted : supervisorOnly x.role = true := (supervisorOnly_eq x.role).trans permits
    have give {t : Part} (sets : setBoundary s.part.hlc.nextHandle v.toNat (q.entered .boundarySet tag [num, v]) = t) :
        Gives (.boundarySet tag [num, v]) s t := by
      refine gives_of_serve rfl serves rfl (sessionPort_fits num v) ?_
      rw [show byteAt [num, v] 0 = num from rfl, withSession_accepts session permitted]
      exact sets
    have entered (code : Code) :
        reply s.part.hlc.nextHandle code (q.entered .boundarySet tag [num, v]) = q.answered .boundarySet tag [num, v] code [] :=
      reply_entered (s := q) serves.below .boundarySet tag [num, v] code
    have waits : ((q.entered .boundarySet tag [num, v]).nvs.jobs.any fun j => (Job.boundary? j).isSome) = true ↔ waiting := by
      refine (any_jobs_iff n _).trans (exists_congr fun j => ?_)
      rw [Job.boundary_iff, exists_and_left]
    have queues (idle : ¬ waiting) (below : v.toNat < n.boundary) :
        setBoundary s.part.hlc.nextHandle v.toNat (q.entered .boundarySet tag [num, v]) =
          if n.queue.length < 8 then (q.entered .boundarySet tag [num, v]).queued (.boundary v.toNat) [s.part.hlc.nextHandle]
          else q.answered .boundarySet tag [num, v] .full [] :=
      (setBoundary_queues (s := q.entered .boundarySet tag [num, v]) (mt waits.mp idle) below).trans
        (queueOrFull_entered (s := q) serves.below .boundarySet tag [num, v] (.boundary v.toNat))
    refine ⟨fun waiting => give ((setBoundary_inProgress (s := q.entered .boundarySet tag [num, v])
        (waits.mpr waiting)).trans (entered .inProgress)),
      fun idle above => give ((setBoundary_badValue (s := q.entered .boundarySet tag [num, v]) (mt waits.mp idle) above).trans (entered .badValue)),
      fun idle below full => give ((queues idle below).trans (if_neg (Nat.not_lt.mpr full))),
      fun idle below room => give ((queues idle below).trans (if_pos room))⟩

end Sys2Proof.Machine
end

section
/-! The checkpoint timer and the start of a store job (R162, R163, R170, R172, R176 to R180): the settling of
StoreJobsAreAskedForAndStart. -/

namespace Sys2Proof.Machine

/-! ### Asking for a CHECKPOINT (R162, R178) -/

theorem Job.isCheckpoint_iff {j : Job} : j.isCheckpoint = true ↔ ∃ c save, j.body = .checkpoint c save := by
  obtain ⟨body, origin⟩ := j
  cases body <;> simp [Job.isCheckpoint]

theorem any_checkpoint_iff {q : List Job} : q.any (·.isCheckpoint) = true ↔ ∃ j ∈ q, ∃ c save, j.body = .checkpoint c save := by
  rw [List.any_eq_true]
  exact exists_congr fun j => and_congr_right' Job.isCheckpoint_iff

section
variable {s : Part}

theorem askCheckpoint_waiting (waiting : s.nvs.queue.any (·.isCheckpoint) = true) : askCheckpoint s = s := if_pos waiting

variable (idle : ¬ s.nvs.queue.any (·.isCheckpoint) = true)

include idle in
theorem askCheckpoint_room (room : s.nvs.queue.length < 8) : askCheckpoint s = s.queued (.checkpoint none false) [] :=
  (if_neg idle).trans (if_pos ((hasRoom_iff s.nvs).mpr room))

include idle in
theorem askCheckpoint_full (full : 8 ≤ s.nvs.queue.length) : askCheckpoint s =
    if Deferred.checkpoint ∈ s.nvs.deferred then s else { s with nvs := { s.nvs with deferred := s.nvs.deferred ++ [.checkpoint] } } := by
  have crowded : ¬ s.nvs.hasRoom = true := Bool.eq_false_iff.mp ((hasRoom_false_iff s.nvs).mpr full)
  rw [askCheckpoint, if_neg idle, if_neg crowded]
  simp only [List.contains_iff_mem]

end

/-! ### The arbiter's choice (R177) -/

theorem Job.isHold_iff {j : Job} : j.isHold = true ↔ (∃ h, j.body = .holdAdd h) ∨ ∃ p b, j.body = .holdRemove p b := by
  obtain ⟨body, origin⟩ := j
  cases body <;> simp [Job.isHold]

section
variable {before after : List Job} {j : Job}

/-- R177: the job is the oldest hold job, or the oldest job where no hold job waits. -/
def Oldest (before : List Job) (j : Job) (after : List Job) : Prop :=
  (j.isHold = true ∧ ∀ k ∈ before, ¬ k.isHold = true) ∨ (before = [] ∧ ∀ k ∈ before ++ j :: after, ¬ k.isHold = true)

theorem arbiterChoice_oldest (oldest : Oldest before j after) : arbiterChoice (before ++ j :: after) = some j := by
  rcases oldest with ⟨hold, others⟩ | ⟨rfl, others⟩
  · have found : (before ++ j :: after).find? (·.isHold) = some j := by
      rw [List.find?_append, List.find?_eq_none.mpr others, List.find?_cons_of_pos hold]
      rfl
    rw [arbiterChoice, found]
    rfl
  · rw [arbiterChoice, List.find?_eq_none.mpr others]
    rfl

theorem withoutChoice_oldest (oldest : Oldest before j after) : withoutChoice (before ++ j :: after) = before ++ after := by
  rcases oldest with ⟨hold, others⟩ | ⟨rfl, others⟩
  · have waits : (before ++ j :: after).any (·.isHold) = true :=
      List.any_eq_true.mpr ⟨j, List.mem_append_right before List.mem_cons_self, hold⟩
    rw [withoutChoice, if_pos waits, List.eraseP_append_right _ others, List.eraseP_cons_of_pos hold]
  · have waits : ¬ ([] ++ j :: after).any (·.isHold) = true := by
      rw [List.any_eq_true]
      rintro ⟨k, mem, hold⟩
      exact others k mem hold
    rw [withoutChoice, if_neg waits]
    rfl

end

/-! ### The checks of a job at its start (R163, R170, R172) -/

theorem unitLocked_iff {n : Nvs} {c : Setting} : (n.sectionLocked c.unit || n.slotLocked c.unit) = true ↔
    n.sectionLocks[c.unit.area] = true ∨ ∃ k v, c = .key k v ∧ n.slotLocks[k] = true := by
  rw [Bool.or_eq_true]
  refine or_congr Iff.rfl ?_
  cases c <;> simp [Setting.unit, Nvs.slotLocked, -Fin.getElem_fin]

section
variable {s : Part} {j : Job}

theorem beginJob_locked {c : Setting} (body : j.body = .setting c)
    (locked : (s.nvs.sectionLocked c.unit || s.nvs.slotLocked c.unit) = true) : beginJob j s = s.repliedTo j.origin .locked := by
  simp only [beginJob, body]
  rw [if_pos locked, replyAll_eq]

theorem beginJob_broken {c : Setting} (body : j.body = .setting c)
    (free : ¬ (s.nvs.sectionLocked c.unit || s.nvs.slotLocked c.unit) = true) (broken : sectionRules s.nvs c = false) :
    beginJob j s = s.repliedTo j.origin .badValue := by
  simp only [beginJob, body]
  rw [if_neg free, broken, replyAll_eq]
  rfl

theorem beginJob_setting {c : Setting} (body : j.body = .setting c)
    (free : ¬ (s.nvs.sectionLocked c.unit || s.nvs.slotLocked c.unit) = true) (fits : sectionRules s.nvs c = true) :
    beginJob j s = setInFlight j s := by
  simp only [beginJob, body]
  rw [if_neg free, fits]
  rfl

theorem beginJob_lock {t : LockTarget} (body : j.body = .lock t) :
    beginJob j s = if s.nvs.frozen then s.repliedTo j.origin .frozen else setInFlight j s := by
  simp only [beginJob, body, replyAll_eq]

theorem beginJob_checkpoint {m : Option (Vector MeterRec 28)} {save : Bool} (body : j.body = .checkpoint m save) :
    beginJob j s = setInFlight ⟨.checkpoint (some s.mtu.meters) save, j.origin⟩ s := by
  simp only [beginJob, body]

theorem beginJob_unchecked (body : ((∃ h, j.body = .holdAdd h) ∨ ∃ p b, j.body = .holdRemove p b) ∨ j.body = .freeze ∨
    (∃ v, j.body = .boundary v) ∨ (∃ p v, j.body = .threshold p v) ∨ ∃ w v l st, j.body = .failcount w v l st) :
    beginJob j s = setInFlight j s := by
  rcases body with (⟨h, body⟩ | ⟨p, b, body⟩) | body | ⟨v, body⟩ | ⟨p, v, body⟩ | ⟨w, v, l, st, body⟩ <;>
    simp only [beginJob, body]

end

/-- The section rules read the PORTS and BADGES of the store alone. -/
theorem sectionRules_congr {m n : Nvs} (ports : m.ports = n.ports) (badges : m.badges = n.badges) (c : Setting) :
    sectionRules m c = sectionRules n c := by
  cases c with
  | port p c => rw [sectionRules, sectionRules, ports]
  | badge i b => rw [sectionRules, sectionRules, badges]
  | _ => rfl

/-! ### The step of the store (R176, R177, R180) -/

section
variable {s : Part}

theorem startJob_busy (busy : s.nvs.inFlight.isSome = true) : startJob s = s := if_pos busy

theorem startJob_save (idle : s.nvs.inFlight = none) (save : s.psc.state = .save) (owed : s.nvs.saveDue = true) :
    startJob s = beginSaveCheckpoint s := by
  rw [startJob, idle, if_neg (by decide), if_pos ⟨save, owed⟩]

theorem startJob_other (other : s.psc.state ≠ .save ∨ s.nvs.saveDue = false) (idle : s.nvs.inFlight = none) :
    startJob s = if s.mayStartJob then startChosen s else s := by
  have unsaved : ¬ (s.psc.state = .save ∧ s.nvs.saveDue = true) := by
    rintro ⟨save, owed⟩
    rcases other with elsewhere | done
    · exact elsewhere save
    · exact absurd owed (Bool.eq_false_iff.mp done)
  rw [startJob, idle, if_neg (by decide), if_neg unsaved]

theorem startJob_still (still : s.mayStartJob = false ∨ s.nvs.queue = []) (other : s.psc.state ≠ .save ∨ s.nvs.saveDue = false) :
    startJob s = s := by
  cases flies : s.nvs.inFlight with
  | some j => exact startJob_busy (by rw [flies]; rfl)
  | none =>
    rw [startJob_other other flies]
    rcases still with barred | empty
    · rw [if_neg (Bool.eq_false_iff.mp barred)]
    · have chosen : startChosen s = s := by
        rw [startChosen, empty]
        rfl
      rw [chosen, ite_self]

variable {before after : List Job} {j : Job}

/-- R177, R178: the job chosen begins over the queue without it, in which the place it leaves is free. -/
theorem startJob_oldest (active : s.active = true) (calm : s.psc.restart = none) (unowed : s.psc.owed.any = false)
    (idle : s.nvs.inFlight = none) (queue : s.nvs.queue = before ++ j :: after) (oldest : Oldest before j after) :
    startJob s = beginJob j (convertDeferred { s with nvs.queue := before ++ after }) := by
  have awake : s.psc.state ≠ .save := by
    rcases (active_iff s).mp active with state | state <;> rw [state] <;> decide
  have may : s.mayStartJob = true := by
    rw [Part.mayStartJob, active, calm, unowed]
    rfl
  rw [startJob_other (.inl awake) idle, if_pos may, startChosen, queue, arbiterChoice_oldest oldest, withoutChoice_oldest oldest]

end

/-- Settles O58: the checkpoint timer's request, and each branch of the arbiter's step. -/
theorem storeJobsAreAskedForAndStart : Obligations.StoreJobsAreAskedForAndStart := by
  unfold Obligations.StoreJobsAreAskedForAndStart
  refine ⟨⟨fun s running due => ?_, fun s idle => ?_⟩,
    fun before after j s running calm unowed idle queue atMost => ?_, fun s save owed idle => ?_,
    fun s notRun notQuiet other => ?_, fun s still => ?_⟩
  · intro q n waiting gives
    have asks {t : Part} (asked : askCheckpoint q = t) : gives t := by
      refine gives_of_act (f := checkpointExpiry) rfl ?_
      rw [checkpointExpiry, (active_iff s.part).mpr running, due]
      exact asked
    refine ⟨fun waits => asks (askCheckpoint_waiting (s := q) (any_checkpoint_iff.mpr waits)),
      fun alone room => asks (askCheckpoint_room (s := q) (mt any_checkpoint_iff.mp alone) room),
      fun alone full marked => asks ((askCheckpoint_full (s := q) (mt any_checkpoint_iff.mp alone) full).trans (if_pos marked)),
      fun alone full unmarked => asks ((askCheckpoint_full (s := q) (mt any_checkpoint_iff.mp alone) full).trans (if_neg unmarked))⟩
  · refine gives_of_act (f := checkpointExpiry) rfl (if_neg ?_)
    rcases idle with ⟨notRun, notQuiet⟩ | early
    · rw [inactive_of notRun notQuiet, Bool.false_and]
      decide
    · rw [early, Bool.and_false]
      decide
  · intro hold chosen n base starts gives
    have oldest : Oldest before j after := by
      rw [Oldest, ← queue]
      simpa only [Job.isHold_iff] using chosen
    have room : (before ++ after).length < 8 := by
      rw [queue] at atMost
      simp only [List.length_append, List.length_cons] at atMost ⊢
      omega
    have freed : convertDeferred { s.part with nvs.queue := before ++ after } = base ∧
        ∃ q d, base = { s.part with nvs := { n with queue := q, deferred := d } } := by
      cases marks : s.part.nvs.deferred with
      | nil =>
        have same := convertDeferred_none (s := { s.part with nvs.queue := before ++ after }) marks
        refine ⟨same.trans ?_, before ++ after, [], ?_⟩ <;> simp only [base, n, marks]
      | cons d rest =>
        have turned := convertDeferred_cons (s := { s.part with nvs.queue := before ++ after }) marks room
        refine ⟨turned.trans ?_, before ++ after ++ [⟨s.part.deferredJob d, []⟩], rest, ?_⟩ <;>
          · simp only [base, n, marks]
            cases d <;> rfl
    obtain ⟨converted, q, d, shape⟩ := freed
    have begins {t : Part} (begun : beginJob j base = t) : gives t := by
      refine gives_of_act (f := startJob) rfl ?_
      rw [startJob_oldest ((active_iff s.part).mpr running) calm (by rw [unowed]; rfl) idle queue oldest, converted]
      exact begun
    clear_value base
    subst shape
    refine ⟨fun c body => ?_, fun t body => ⟨fun frozen => begins ((beginJob_lock body).trans (if_pos frozen)),
      fun thawed => begins ((beginJob_lock body).trans (if_neg (Bool.eq_false_iff.mp thawed)))⟩,
      fun m save body => begins (beginJob_checkpoint body), fun body => begins (beginJob_unchecked body)⟩
    intro locked
    have rules := sectionRules_congr (m := { n with queue := q, deferred := d }) (n := n) rfl rfl c
    have locks : (({ n with queue := q, deferred := d } : Nvs).sectionLocked c.unit ||
        ({ n with queue := q, deferred := d } : Nvs).slotLocked c.unit) = true ↔ locked := unitLocked_iff
    refine ⟨fun set => begins (beginJob_locked body (locks.mpr set)),
      fun free broken => begins (beginJob_broken body (mt locks.mp free) (rules.trans broken)),
      fun free fits => begins (beginJob_setting body (mt locks.mp free) (rules.trans fits))⟩
  · exact gives_of_act (f := startJob) rfl (startJob_save idle save owed)
  · refine gives_of_act (f := startJob) rfl (startJob_still (.inl ?_) other)
    rw [Part.mayStartJob, inactive_of notRun notQuiet]
    rfl
  · refine gives_of_act (f := startJob) rfl ?_
    rcases still with busy | ⟨running, still⟩
    · exact startJob_busy busy
    · have awake : s.part.psc.state ≠ .save := by
        rcases running with state | state <;> rw [state] <;> decide
      refine startJob_still ?_ (.inl awake)
      rcases still with empty | restart | owed
      · exact .inr empty
      · refine .inl ?_
        rw [Part.mayStartJob, restart, Bool.not_true, Bool.and_false, Bool.false_and]
      · refine .inl ?_
        rw [Part.mayStartJob, owed, Bool.not_true, Bool.and_false]

end Sys2Proof.Machine
end

section
/-! The end of a write of the store, and the users of a unit (R176, R170, R113, R115, R117): the settling of WritesEnd. -/

namespace Sys2Proof.Machine

/-! ### The end of the job in flight (R176) -/

section
variable {s : Part} {α : Type} {pick : JobBody → Option α} {b : JobBody} {o : List Nat} {a : α} {ok bad : α → List Nat → Part → Part}

theorem endJob_written (receives : s.hostReceives = true) (flies : s.nvs.inFlight = some ⟨b, o⟩) (picked : pick b = some a) :
    endJob pick true ok bad s = ok a o { s.jobEnded with nvs := s.jobEnded.nvs.commit b } := by
  rw [endJob, flies]
  dsimp only
  rw [picked]
  exact if_pos receives

theorem endJob_failed (receives : s.hostReceives = true) (flies : s.nvs.inFlight = some ⟨b, o⟩) (picked : pick b = some a) :
    endJob pick false ok bad s = bad a o (s.jobEnded.noticed (.storeFault b)) := by
  rw [endJob, flies]
  dsimp only
  rw [picked]
  exact if_pos receives

/-- R176: an end of a kind that is not in flight is no event (log entry 3). -/
theorem endJob_other (written : Bool) (other : ∀ j, s.nvs.inFlight = some j → pick j.body = none) :
    endJob pick written ok bad s = s := by
  rw [endJob]
  cases flies : s.nvs.inFlight with
  | none => rfl
  | some j =>
    dsimp only
    rw [other j flies]

/-- R170: the end of a failed job of which nobody but the waiting requests is told. -/
theorem endJob_fault (receives : s.hostReceives = true) (flies : s.nvs.inFlight = some ⟨b, o⟩) (picked : pick b = some a) :
    endJob pick false ok replyFault s = (s.jobEnded.noticed (.storeFault b)).repliedTo o .storeFault :=
  (endJob_failed receives flies picked).trans (replyAll_eq o .storeFault _)

/-- The end of a completed job of which nobody but the waiting requests is told. -/
theorem endJob_done (receives : s.hostReceives = true) (flies : s.nvs.inFlight = some ⟨b, o⟩) (picked : pick b = some a) :
    endJob pick true replyDone bad s = ({ s.jobEnded with nvs := s.jobEnded.nvs.commit b } : Part).repliedTo o .done :=
  (endJob_written receives flies picked).trans (replyAll_eq o .done _)

end

/-! ### Every port and the reader evaluated (R113, R115, R117, R118) -/

section
variable {s : Part}

theorem standing_released {p : Port} (free : ¬ s.portBarred p = true) (was : s.ports[p].admission = .barred) :
    s.standing p = s.ports[p].released := (if_neg free).trans (if_pos was)

theorem readerEvaluated_bars (reached : s.readerBarred = true) (free : s.sva.reader ≠ .barred) :
    s.readerEvaluated = s.readerBarredNow := (if_pos reached).trans (if_neg free)

theorem readerEvaluated_frees (below : ¬ s.readerBarred = true) (was : s.sva.reader = .barred) : s.readerEvaluated =
    { s with prv := { s.prv with barTimer := none }, sva := { s.sva with reader := .ready } } := (if_neg below).trans (if_pos was)

theorem readerEvaluated_stays (below : ¬ s.readerBarred = true) (free : s.sva.reader ≠ .barred) : s.readerEvaluated = s :=
  (if_neg below).trans (if_neg free)

theorem readerBarredNow_timer (s : Part) :
    s.readerBarredNow.prv.barTimer = some (s.mtu.uptime + BitVec.ofNat 48 (s.prv.barPeriod * 60000)) := rfl

theorem readerBarredNow_context {b : Word} {r : BadgeRole} (asked : s.sva.reader = .challenging b r) :
    s.readerBarredNow.prv.readerContext = none := by
  rw [Part.readerBarredNow, asked]
  dsimp only
  split <;> rfl

/-- R113: the ports evaluated, the reader not yet. -/
def Part.portsEvaluated (s : Part) : Part := (List.finRange 12).foldl Part.portEvaluated s

theorem evaluated_eq (s : Part) : s.evaluated = s.portsEvaluated.readerEvaluated := rfl

theorem portsEvaluated_evaluates (s : Part) : Evaluates (List.finRange 12) s s.portsEvaluated := foldl_evaluates (List.nodup_finRange 12)

theorem portsEvaluated_reader (s : Part) : s.portsEvaluated.readerBarred = s.readerBarred := by
  rw [Part.readerBarred, (portsEvaluated_evaluates s).prv]
  rfl

theorem Judged.limits {s t : Part} (judged : Judged s t) : t.sva.timeout = s.sva.timeout ∧ t.prv.stationLimit = s.prv.stationLimit ∧
    t.prv.badgeLimit = s.prv.badgeLimit ∧ t.prv.barPeriod = s.prv.barPeriod ∧ t.prv.counts = s.prv.counts ∧
    t.prv.readerCount = s.prv.readerCount := by
  rw [judged.sva, judged.prv]
  exact ⟨rfl, rfl, rfl, rfl, rfl, rfl⟩

theorem evaluated_timer_stopped (was : s.sva.reader = .barred) (freed : s.evaluated.sva.reader ≠ .barred) :
    s.evaluated.prv.barTimer = none := by
  have ports := portsEvaluated_evaluates s
  rw [evaluated_eq, readerEvaluated_frees (by rw [portsEvaluated_reader]; exact mt (evaluated_judged s).reader.mpr freed)
    (by rw [ports.sva]; exact was)]

theorem evaluated_timer_started (free : s.sva.reader ≠ .barred) (barred : s.evaluated.sva.reader = .barred) :
    s.evaluated.prv.barTimer = some (s.mtu.uptime + BitVec.ofNat 48 (s.prv.barPeriod * 60000)) := by
  have ports := portsEvaluated_evaluates s
  rw [evaluated_eq, readerEvaluated_bars (by rw [portsEvaluated_reader]; exact (evaluated_judged s).reader.mp barred)
    (by rw [ports.sva]; exact free), readerBarredNow_timer, ports.mtu, ports.prv]

theorem evaluated_context_ended {b : Word} {r : BadgeRole} (asked : s.sva.reader = .challenging b r)
    (barred : s.evaluated.sva.reader = .barred) : s.evaluated.prv.readerContext = none := by
  have ports := portsEvaluated_evaluates s
  have under : s.portsEvaluated.sva.reader = .challenging b r := by rw [ports.sva]; exact asked
  rw [evaluated_eq, readerEvaluated_bars (by rw [portsEvaluated_reader]; exact (evaluated_judged s).reader.mp barred)
    (by rw [under]; exact Reader.noConfusion), readerBarredNow_context under]

end

/-- R117, R118, R125: what the evaluation has done to the bar timer and to an exchange with the reader. -/
theorem evaluated_timers {s t : Part} (is : s.evaluated = t) :
    (s.sva.reader = .barred → t.sva.reader ≠ .barred → t.prv.barTimer = none) ∧
    (s.sva.reader ≠ .barred → t.sva.reader = .barred →
      t.prv.barTimer = some (s.mtu.uptime + BitVec.ofNat 48 (s.prv.barPeriod * 60000))) ∧
    ∀ b r, s.sva.reader = .challenging b r → t.sva.reader = .barred → t.prv.readerContext = none := by
  subst is
  exact ⟨evaluated_timer_stopped, evaluated_timer_started, fun b r => evaluated_context_ended⟩

/-- Settles O59: a failed write, the user of each unit, and the locks, marks and thresholds. -/
theorem writesEnd : Obligations.WritesEnd := by
  unfold Obligations.WritesEnd
  refine ⟨fun body o c s receives flies kind => ?_, fun v o s receives flies => ?_, fun o s receives => ?_⟩
  · rcases kind with ⟨⟨v, rfl⟩, rfl⟩ | ⟨⟨t, rfl⟩, rfl⟩ | ⟨rfl, rfl⟩ | ⟨⟨v, rfl⟩, rfl⟩ | ⟨⟨p, v, rfl⟩, rfl⟩
    · exact gives_of_act (f := endJob JobBody.setting? false (fun c o s => replyAll o .done (tellUser c s)) replyFault) rfl
        (endJob_fault receives flies rfl)
    · exact gives_of_act (f := endJob JobBody.lock? false replyDone replyFault) rfl (endJob_fault receives flies rfl)
    · exact gives_of_act (f := endJob JobBody.freeze? false replyDone replyFault) rfl (endJob_fault receives flies rfl)
    · exact gives_of_act (f := endJob JobBody.boundary? false replyDone replyFault) rfl (endJob_fault receives flies rfl)
    · exact gives_of_act (f := endJob JobBody.threshold? false thresholdSet replyFault) rfl (endJob_fault receives flies rfl)
  · intro q n gives
    have told {t : Part} (user : tellUser v { q with nvs := n.commit (.setting v) } = t) : gives t := by
      refine gives_of_act (f := endJob JobBody.setting? true (fun c o s => replyAll o .done (tellUser c s)) replyFault) rfl ?_
      exact (endJob_written (pick := JobBody.setting?) (a := v) receives flies rfl).trans
        ((replyAll_eq o .done _).trans (congrArg (fun t : Part => t.repliedTo o .done) user))
    refine ⟨fun g is => told (by rw [is]; rfl), fun f c is => told (by rw [is]; rfl), fun p c is => told (by rw [is]; rfl),
      fun p c is => told (by rw [is]; rfl), fun i b is => told (by rw [is]; rfl), fun k x is => told (by rw [is]; rfl),
      fun l is => ?_⟩
    intro loaded t
    subst is
    refine ⟨fun save => told (evalAll_save (s := loaded) save), fun running => ?_⟩
    have awake : loaded.psc.state ≠ .save := by
      rcases running with state | state <;> exact fun save => nomatch state.symm.trans save
    have is : loaded.evaluated = t := rfl
    clear_value t
    have judged : Judged loaded t := is ▸ evaluated_judged loaded
    obtain ⟨stopped, started, ended⟩ := evaluated_timers is
    obtain ⟨timeout, stationLimit, badgeLimit, barPeriod, counts, readerCount⟩ := judged.limits
    have user : tellUser (.limits l) { q with nvs := n.commit (.setting (.limits l)) } = t :=
      (evalAll_eq (s := loaded) awake).trans is
    refine ⟨told user, judged.nvs, timeout, judged.mtu, stationLimit, badgeLimit, barPeriod, counts, readerCount, judged.psc,
      fun p => ?_, judged.reader, judged.timer, stopped, started, ended, fun p barred below => ?_⟩
    · rw [judged.admission p]
      exact standing_iff loaded p
    · rw [judged.admission p]
      exact standing_released (Bool.eq_false_iff.mp below) barred
  · intro q n flies gives
    refine ⟨fun a flying => ?_, fun k flying => ?_, fun flying => ?_, fun v flying => ?_, fun p v flying => ?_⟩
    · exact gives_of_act (f := endJob JobBody.lock? true replyDone replyFault) rfl (endJob_done receives flying rfl)
    · exact gives_of_act (f := endJob JobBody.lock? true replyDone replyFault) rfl (endJob_done receives flying rfl)
    · exact gives_of_act (f := endJob JobBody.freeze? true replyDone replyFault) rfl (endJob_done receives flying rfl)
    · exact gives_of_act (f := endJob JobBody.boundary? true replyDone replyFault) rfl (endJob_done receives flying rfl)
    · exact gives_of_act (f := endJob JobBody.threshold? true thresholdSet replyFault) rfl
        ((endJob_written (pick := JobBody.threshold?) (a := (p, v)) receives flying rfl).trans (replyAll_eq o .done _))

end Sys2Proof.Machine
end

section
/-! The end of hold, FAILCOUNT and CHECKPOINT jobs (R132 to R147, R114 to R118, R163, R195): the settling of
HoldsCountsAndCheckpointsEnd. -/

namespace Sys2Proof.Machine

/-! ### Holds (R132, R135, R140) -/

theorem modHold_eq (p : Port) (b : Word) (f : Hold → Hold) (s : Part) : modHold p b f s = { s with sva := { s.sva with
    holders := s.sva.holders.set p (s.sva.holders[p].map fun x => if x.badge = b then f x else x) } } := by
  simp only [modHold, upd, beq_iff_eq]

theorem modHold_runEnable (p : Port) (b : Word) (f : Hold → Hold) (s : Part) : (modHold p b f s).runEnable p = s.runEnable p := by
  have holders : (modHold p b f s).sva.holders[p] = s.sva.holders[p].map fun x => if x.badge == b then f x else x := upd_self _ _ _
  rw [Part.runEnable, holders, List.isEmpty_map]
  rfl

/-- The part with a hold marked recorded. -/
def Part.recorded (s : Part) (h : StoredHold) : Part := modHold h.port h.badge (fun x => { x with recorded := true }) s

theorem holdAdded_answered {s : Part} {h : StoredHold} (answered : s.psc.restart.isSome = true ∨ s.runEnable h.port = false)
    (o : List Nat) : holdAdded h o s = (dropLockouts o (s.recorded h)).repliedTo o .done := by
  have now : ((s.recorded h).psc.restart.isSome || !(s.recorded h).runEnable h.port) = true := by
    rw [Part.recorded, modHold_runEnable, Bool.or_eq_true, Bool.not_eq_true']
    exact answered
  exact (if_pos now).trans (replyAll_eq o .done _)

theorem holdAdded_waits {s : Part} {h : StoredHold} (waits : ¬ (s.psc.restart.isSome = true ∨ s.runEnable h.port = false))
    (o : List Nat) : holdAdded h o s = s.recorded h := by
  refine if_neg ?_
  rw [modHold_runEnable, Bool.or_eq_true, Bool.not_eq_true']
  exact waits

theorem forEach_requests (l : List Lockout) (c : Code) (s : Part) :
    forEach l (fun x => reply x.request c) s = s.repliedTo (l.map (·.request)) c := by
  rw [forEach_reply, Part.repliedTo, List.foldl_map]

theorem holdRemoved_eq (p : Port) (b : Word) (o : List Nat) (s : Part) : holdRemoved (p, b) o s =
    (Part.repliedTo { s with sva := { s.sva with
      holders := s.sva.holders.set p (s.sva.holders[p].filter fun x => x.badge != b)
      lockouts := s.sva.lockouts.filter fun k => !(k.port == p && k.badge == b) } } o .done).repliedTo
      (if s.psc.state = .save then [] else (s.sva.lockouts.filter fun k => k.port == p && k.badge == b).map (·.request)) .aborted := by
  rw [holdRemoved, forEach_requests, replyAll_eq, apply_ite (List.map _), List.map_nil]
  rfl

/-! ### Counts (R114 to R118) -/

section
variable {s : Part}

theorem portEvaluated_below {p : Port} (below : ¬ limitReached s.prv.stationLimit s.prv.counts[p] = true) : s.portEvaluated p =
    { s with ports := s.ports.set p { s.ports[p] with
        admission := if s.ports[p].admission ≠ .barred then s.ports[p].admission else s.ports[p].released } } := by
  rw [Part.portEvaluated, if_neg below]
  by_cases barred : s.ports[p].admission = .barred
  · rw [if_pos barred, if_neg (not_not.mpr barred)]
  · rw [if_neg barred, if_pos barred]
    have same : s.ports.set p s.ports[p] = s.ports := Vector.set_getElem_self p.isLt
    exact (congrArg (fun v => ({ s with ports := v } : Part)) same).symm

theorem portEvaluated_sound {p : Port} (sound : s.ports[p].admission = .barred ↔ s.portBarred p = true) : s.portEvaluated p = s := by
  by_cases reached : s.portBarred p = true
  · exact (if_pos reached).trans (if_pos (sound.mpr reached))
  · exact (if_neg reached).trans (if_neg (mt sound.mp reached))

theorem readerEvaluated_below (below : ¬ limitReached s.prv.badgeLimit s.prv.readerCount = true) : s.readerEvaluated = { s with
    prv := { s.prv with barTimer := if s.sva.reader = .barred then none else s.prv.barTimer }
    sva := { s.sva with reader := if s.sva.reader = .barred then .ready else s.sva.reader } } := by
  by_cases barred : s.sva.reader = .barred
  · rw [readerEvaluated_frees below barred, if_pos barred, if_pos barred]
  · rw [readerEvaluated_stays below barred, if_neg barred, if_neg barred]

theorem readerEvaluated_sound (sound : s.sva.reader = .barred ↔ s.readerBarred = true) : s.readerEvaluated = s := by
  by_cases reached : s.readerBarred = true
  · exact (if_pos reached).trans (if_pos (sound.mpr reached))
  · exact readerEvaluated_stays reached (mt sound.mp reached)

/-- R115, R117: a subject whose barred condition is as it should be is left as it is. -/
theorem evalSubject_sound (sound : s.barringSound) (on : s.psc.state ≠ .off) (who : Subject) : evalSubject who s = s := by
  by_cases save : s.psc.state = .save
  · cases who with
    | port p => exact evalPort_save p save
    | reader => exact if_pos save
  · obtain ⟨ports, reader⟩ := sound save on
    cases who with
    | port p => exact (evalPort_eq save p).trans (portEvaluated_sound (ports p))
    | reader => exact (evalReader_eq save).trans (readerEvaluated_sound reader)

theorem evalSubject_save (save : s.psc.state = .save) (who : Subject) : evalSubject who s = s := by
  cases who with
  | port p => exact evalPort_save p save
  | reader => exact if_pos save

/-! ### A lifted count, evaluated (R116, R118) -/

theorem limitReached_iff {limit n : Nat} : limitReached limit n = true ↔ limit ≠ 0 ∧ limit ≤ n := decide_eq_true_iff

section
variable {v : Nat} (awake : s.psc.state ≠ .save)

theorem putCount_counts (p : Port) (v : Nat) (s : Part) : (putCount (.port p) v s).prv.counts[p] = v :=
  (set_get _ _ _ _).trans (if_pos rfl)

include awake in
theorem portLifted_below {p : Port} (below : ¬ (s.prv.stationLimit ≠ 0 ∧ s.prv.stationLimit ≤ v)) :
    evalSubject (.port p) (putCount (.port p) v s) = { s with
      prv := { s.prv with counts := s.prv.counts.set p v }
      ports := s.ports.set p { s.ports[p] with
        admission := if s.ports[p].admission ≠ .barred then s.ports[p].admission else s.ports[p].released } } := by
  refine (evalPort_eq (s := putCount (.port p) v s) awake p).trans (portEvaluated_below ?_)
  rw [putCount_counts]
  exact mt limitReached_iff.mp below

theorem portLifted_reached {p : Port} (reached : s.prv.stationLimit ≠ 0 ∧ s.prv.stationLimit ≤ v) :
    ((putCount (.port p) v s).portEvaluated p).ports[p].admission = .barred ∧
      ((putCount (.port p) v s).portEvaluated p).prv.counts[p] = v := by
  have evaluated := portEvaluated_evaluates p (putCount (.port p) v s)
  have barred : (putCount (.port p) v s).portBarred p = true := by
    rw [Part.portBarred, putCount_counts]
    exact limitReached_iff.mpr reached
  refine ⟨?_, ?_⟩
  · rw [evaluated.admission p, if_pos (List.mem_singleton_self p), standing_barred barred]
  · rw [evaluated.prv]
    exact putCount_counts p v s

include awake in
theorem readerLifted_below (below : ¬ (s.prv.badgeLimit ≠ 0 ∧ s.prv.badgeLimit ≤ v)) :
    evalSubject .reader (putCount .reader v s) = { s with
      prv := { s.prv with readerCount := v, barTimer := if s.sva.reader = .barred then none else s.prv.barTimer }
      sva := { s.sva with reader := if s.sva.reader = .barred then .ready else s.sva.reader } } :=
  (evalReader_eq (s := putCount .reader v s) awake).trans (readerEvaluated_below (mt limitReached_iff.mp below))

theorem readerLifted_reached (reached : s.prv.badgeLimit ≠ 0 ∧ s.prv.badgeLimit ≤ v) :
    (putCount .reader v s).readerEvaluated.sva.reader = .barred ∧ (putCount .reader v s).readerEvaluated.prv.readerCount = v ∧
      (s.sva.reader = .barred → (putCount .reader v s).readerEvaluated.prv.barTimer = s.prv.barTimer) := by
  have judged := readerEvaluated_judged (putCount .reader v s)
  have barred := judged.reader.mpr (limitReached_iff.mpr reached)
  refine ⟨barred, ?_, fun was => judged.timer was barred⟩
  rw [judged.prv]
  rfl

end

theorem failcountWritten_lifts (who : Subject) (v : Nat) (stale : Bool) (o : List Nat) : failcountWritten (who, v, true, stale) o s =
    (evalSubject who (if stale then s else putCount who v s)).repliedTo o .done := replyAll_eq o .done _

end

/-! ### Checkpoints (R163, R195) -/

theorem dropLinks_eq (s : Part) : dropLinks s = { s with
    psc := { s.psc with
      linksDropped := true
      saveHold := if s.psc.supwarn then s.psc.saveHold else some (s.mtu.uptime + 10) }
    hlc := { s.hlc with sending := none } } := by
  rw [dropLinks]
  cases warned : s.psc.supwarn <;> rfl

/-! ### Another job's end (R176) -/

section
variable {b : JobBody}

theorem setting?_iff {c : Setting} : b.setting? = some c ↔ b = .setting c := by
  cases b <;> simp [JobBody.setting?]

theorem lock?_iff {t : LockTarget} : b.lock? = some t ↔ b = .lock t := by
  cases b <;> simp [JobBody.lock?]

theorem freeze?_iff {a : Unit} : b.freeze? = some a ↔ b = .freeze := by
  cases b <;> simp [JobBody.freeze?]

theorem boundary?_iff {w : Nat} : b.boundary? = some w ↔ b = .boundary w := by
  cases b <;> simp [JobBody.boundary?]

theorem holdAdd?_iff {h : StoredHold} : b.holdAdd? = some h ↔ b = .holdAdd h := by
  cases b <;> simp [JobBody.holdAdd?]

theorem holdRemove?_iff {k : Port × Word} : b.holdRemove? = some k ↔ b = .holdRemove k.1 k.2 := by
  cases b <;> simp [JobBody.holdRemove?, Prod.ext_iff]

theorem threshold?_iff {k : Port × Word} : b.threshold? = some k ↔ b = .threshold k.1 k.2 := by
  cases b <;> simp [JobBody.threshold?, Prod.ext_iff]

theorem failcount?_iff {k : Subject × Nat × Bool × Bool} : b.failcount? = some k ↔ b = .failcount k.1 k.2.1 k.2.2.1 k.2.2.2 := by
  cases b <;> simp [JobBody.failcount?, Prod.ext_iff]

theorem checkpoint?_iff {save : Bool} : b.checkpoint? = some save ↔ ∃ c, b = .checkpoint c save := by
  cases b <;> simp [JobBody.checkpoint?]

end

/-- Settles O60: the hold jobs, the FAILCOUNT job, the CHECKPOINT, and the ends that are no event. -/
theorem holdsCountsAndCheckpointsEnd : Obligations.HoldsCountsAndCheckpointsEnd := by
  unfold Obligations.HoldsCountsAndCheckpointsEnd
  refine ⟨⟨fun h o s receives flies => ?_, fun p b o s receives flies => ?_⟩, fun who v lifting stale o s receives flies => ?_,
    fun m save o s receives flies => ?_, fun written s => ?_⟩
  · intro v rest q recorded answered
    let t : Part := { q with nvs := q.nvs.commit (.holdAdd h) }
    have marks (left : List Lockout) : ({ t.recorded h with sva := { (t.recorded h).sva with lockouts := left } } : Part) = recorded left := by
      rw [Part.recorded, modHold_eq]
      rfl
    have added {u : Part} (done : holdAdded h o t = u) : Gives (.holdAddJobEnd true) s u :=
      gives_of_act (f := endJob JobBody.holdAdd? true holdAdded fun h o s => replyFault h o (dropLockouts o s)) rfl
        ((endJob_written (pick := JobBody.holdAdd?) (a := h) receives flies rfl).trans done)
    refine ⟨fun now => added ((holdAdded_answered (s := t) now o).trans (congrArg (fun u : Part => u.repliedTo o .done) (marks rest))),
      fun waits => added ((holdAdded_waits (s := t) waits o).trans (marks v.lockouts)), ?_⟩
    exact gives_of_act (f := endJob JobBody.holdAdd? false holdAdded fun h o s => replyFault h o (dropLockouts o s)) rfl
      ((endJob_failed (pick := JobBody.holdAdd?) (a := h) receives flies rfl).trans (replyAll_eq o .storeFault _))
  · intro v mine q
    refine ⟨gives_of_act (f := endJob JobBody.holdRemove? true holdRemoved fun k o s =>
        replyFault k o (modHold k.1 k.2 (fun x => { x with releasing := false }) s)) rfl
        ((endJob_written (pick := JobBody.holdRemove?) (a := (p, b)) receives flies rfl).trans (holdRemoved_eq p b o _)),
      gives_of_act (f := endJob JobBody.holdRemove? false holdRemoved fun k o s =>
        replyFault k o (modHold k.1 k.2 (fun x => { x with releasing := false }) s)) rfl
        ((endJob_failed (pick := JobBody.holdRemove?) (a := (p, b)) receives flies rfl).trans ((replyAll_eq o .storeFault _).trans ?_))⟩
    rw [modHold_eq]
    rfl
  · intro q written gives
    have commits : ({ q with nvs := q.nvs.commit (.failcount who v lifting stale) } : Part) = written := by cases who <;> rfl
    have ends {t : Part} (done : failcountWritten (who, v, lifting, stale) o written = t) : gives t :=
      gives_of_act (f := endJob JobBody.failcount? true failcountWritten replyFault) rfl
        ((endJob_written (pick := JobBody.failcount?) (a := (who, v, lifting, stale)) receives flies rfl).trans
          ((congrArg (failcountWritten (who, v, lifting, stale) o) commits).trans done))
    have lifts {t : Part} (lift : lifting = true) (done : evalSubject who (if stale then written else putCount who v written) = t) :
        gives (t.repliedTo o .done) := by
      refine ends ?_
      rw [lift, failcountWritten_lifts, done]
    have fresh {t : Part} (lift : lifting = true) (new : stale = false) (done : evalSubject who (putCount who v written) = t) :
        gives (t.repliedTo o .done) := by
      refine lifts lift ?_
      rw [new]
      exact done
    refine ⟨fun stays => ends (by rw [stays]; rfl), fun p is lift new below awake => ?_, fun p is lift new nonzero reached awake => ?_,
      fun is lift new below awake => ?_, fun is lift new nonzero reached awake => ?_, fun lift old sound => ?_, fun lift new save => ?_,
      gives_of_act (f := endJob JobBody.failcount? false failcountWritten replyFault) rfl (endJob_fault receives flies rfl)⟩
    · subst is
      exact fresh lift new (portLifted_below (s := written) awake below)
    · subst is
      exact ⟨fresh lift new (evalPort_eq (s := putCount (.port p) v written) awake p),
        portLifted_reached (s := written) ⟨nonzero, reached⟩⟩
    · subst is
      exact fresh lift new (readerLifted_below (s := written) awake below)
    · subst is
      exact ⟨fresh lift new (evalReader_eq (s := putCount .reader v written) awake),
        readerLifted_reached (s := written) ⟨nonzero, reached⟩⟩
    · have still : written.barringSound ∧ written.psc.state ≠ .off := by
        rw [← commits]
        exact ⟨sound, on_of_receives receives⟩
      refine lifts lift ?_
      rw [old]
      exact evalSubject_sound still.1 still.2 who
    · cases who with
      | port p => exact fresh lift new (evalSubject_save (s := putCount (.port p) v written) save (.port p))
      | reader => exact fresh lift new (evalSubject_save (s := putCount .reader v written) save .reader)
  · intro q down
    have links (t : Part) (psc : t.psc = s.part.psc) (mtu : t.mtu.uptime = s.part.mtu.uptime) : (if save then dropLinks t else t) = down t := by
      cases save with
      | false => rfl
      | true =>
        refine (dropLinks_eq t).trans ?_
        rw [psc, mtu]
        rfl
    exact ⟨gives_of_act (f := endJob JobBody.checkpoint? true checkpointDone checkpointFailed) rfl
        ((endJob_written (pick := JobBody.checkpoint?) (a := save) receives flies rfl).trans (links _ rfl rfl)),
      gives_of_act (f := endJob JobBody.checkpoint? false checkpointDone checkpointFailed) rfl
        ((endJob_failed (pick := JobBody.checkpoint?) (a := save) receives flies rfl).trans (links _ rfl rfl))⟩
  · intro other nothing
    have still {c : Instr} {α : Type} (pick : JobBody → Option α) {ok bad : α → List Nat → Part → Part}
        (executes : exec c s = act (endJob pick written ok bad) s)
        (others : ∀ j a, s.part.nvs.inFlight = some j → pick j.body ≠ some a) : nothing c :=
      gives_of_act executes (endJob_other written fun j flies => Option.eq_none_iff_forall_ne_some.mpr fun a => others j a flies)
    exact ⟨fun others => still JobBody.setting? rfl fun j c flies picked => others j flies ⟨c, setting?_iff.mp picked⟩,
      fun others => still JobBody.lock? rfl fun j t flies picked => others j flies ⟨t, lock?_iff.mp picked⟩,
      fun others => still JobBody.freeze? rfl fun j _ flies picked => others j flies (freeze?_iff.mp picked),
      fun others => still JobBody.boundary? rfl fun j w flies picked => others j flies ⟨w, boundary?_iff.mp picked⟩,
      fun others => still JobBody.holdAdd? rfl fun j h flies picked => others j flies ⟨h, holdAdd?_iff.mp picked⟩,
      fun others => still JobBody.holdRemove? rfl fun j k flies picked => others j flies ⟨k.1, k.2, holdRemove?_iff.mp picked⟩,
      fun others => still JobBody.threshold? rfl fun j k flies picked => others j flies ⟨k.1, k.2, threshold?_iff.mp picked⟩,
      fun others => still JobBody.failcount? rfl fun j k flies picked => others j flies ⟨k.1, k.2.1, k.2.2.1, k.2.2.2, failcount?_iff.mp picked⟩,
      fun others => still JobBody.checkpoint? rfl fun j save flies picked =>
        others j flies ((checkpoint?_iff.mp picked).imp fun c is => ⟨save, is⟩)⟩

end Sys2Proof.Machine
end

section
/-! The ranges of the settings sections (R1, R48, R84, R106, R113, R120, R127, R157, R162, R168): the settling of SettingsAreInRange. -/

namespace Sys2Proof.Machine

/-! ### Fields that take some values only -/

theorem markOf_eq (b : Byte) : markOf b = if b.toNat ≤ 1 then some (decide (b = 1)) else none := by
  by_cases zero : b = 0
  · subst zero; rfl
  · by_cases one : b = 1
    · subst one; rfl
    · rw [markOf, if_neg zero, if_neg one, if_neg (by bv_omega)]

theorem roleOf_eq (b : Byte) : roleOf b =
    if b.toNat ≤ 2 then some (if b = 0 then .unused else if b = 1 then .robot else .camera) else none := by
  by_cases zero : b = 0
  · subst zero; rfl
  · by_cases one : b = 1
    · subst one; rfl
    · by_cases two : b = 2
      · subst two; rfl
      · rw [roleOf, if_neg zero, if_neg one, if_neg two, if_neg (by bv_omega)]

theorem badgeRoleOf_eq (b : Byte) : badgeRoleOf b =
    if 1 ≤ b.toNat ∧ b.toNat ≤ 3 then some (if b = 1 then .operator else if b = 2 then .technician else .supervisor) else none := by
  by_cases one : b = 1
  · subst one; rfl
  · by_cases two : b = 2
    · subst two; rfl
    · by_cases three : b = 3
      · subst three; rfl
      · rw [badgeRoleOf, if_neg one, if_neg two, if_neg three, if_neg (by bv_omega)]

theorem slotOf_iff {n : Nat} {k : Slot} : slotOf n = some k ↔ k.val = n := by
  rw [slotOf]
  split
  · rw [Option.some_inj, Fin.ext_iff, eq_comm]
  · next outside => exact iff_of_false (fun h => nomatch h) fun same => outside (same ▸ k.isLt)

theorem half_of_bytes (a b : Byte) : fromLe [a, b] = a.toNat + 256 * b.toNat := by
  simp [fromLe]

theorem word_of_bytes (b0 b1 b2 b3 : Byte) : BitVec.ofNat 32 (fromLe [b0, b1, b2, b3]) = (b3 ++ b2 ++ b1 ++ b0 : Word) :=
  wordAt_badge 0 0 b0 b1 b2 b3

theorem identity_of_bytes (i0 i1 i2 i3 i4 i5 i6 i7 : Byte) :
    BitVec.ofNat 64 (fromBytes [i0, i1, i2, i3, i4, i5, i6, i7]) = (i0 ++ i1 ++ i2 ++ i3 ++ i4 ++ i5 ++ i6 ++ i7 : Identity) := by
  have spelled : fromBytes [i0, i1, i2, i3, i4, i5, i6, i7] = (i0 ++ i1 ++ i2 ++ i3 ++ i4 ++ i5 ++ i6 ++ i7 : Identity).toNat := by
    simp only [toNat_append_byte, fromBytes, List.foldl_cons, List.foldl_nil]
    omega
  rw [spelled, BitVec.ofNat_toNat, BitVec.setWidth_eq]

/-! ### The units of eleven, seven, five and seven bytes -/

theorem guarded_eq {α : Type} {ok : Bool} {p : Prop} [Decidable p] (a : α) (same : ok = true ↔ p) :
    guarded ok a = if p then some a else none := if_congr same rfl rfl

theorem feedFits_iff {c : FeedCfg} : feedFits c = true ↔
    20 ≤ c.takeWindow ∧ c.takeWindow ≤ 1000 ∧ 200 ≤ c.holdLimit ∧ c.holdLimit ≤ 10000 := by
  simp [feedFits, and_assoc]

theorem settingOf_feed (f : Feed) (m a b c d : Byte) : settingOf (.feed f) [m, a, b, c, d] =
    if m.toNat ≤ 1 ∧ 20 ≤ a.toNat + 256 * b.toNat ∧ a.toNat + 256 * b.toNat ≤ 1000 ∧ 200 ≤ c.toNat + 256 * d.toNat ∧
        c.toNat + 256 * d.toNat ≤ 10000 then
      some (.feed f ⟨decide (m = 1), a.toNat + 256 * b.toNat, c.toNat + 256 * d.toNat⟩)
    else none := by
  have fields : settingOf (.feed f) [m, a, b, c, d] = (markOf m).bind fun single =>
      guarded (feedFits ⟨single, fromLe [a, b], fromLe [c, d]⟩) (.feed f ⟨single, fromLe [a, b], fromLe [c, d]⟩) := rfl
  rw [fields, markOf_eq, half_of_bytes, half_of_bytes]
  by_cases mark : m.toNat ≤ 1
  · rw [if_pos mark, Option.bind_some, guarded_eq _ feedFits_iff]
    simp only [mark, true_and]
  · rw [if_neg mark, if_neg fun h => mark h.1]
    rfl

theorem settingOf_port (p : Port) (r k w i0 i1 i2 i3 i4 i5 i6 i7 : Byte) (v : Setting) :
    settingOf (.port p) [r, i0, i1, i2, i3, i4, i5, i6, i7, k, w] = some v ↔ r.toNat ≤ 2 ∧ w.toNat ≤ 1 ∧
      ∃ slot : Slot, slot.val = k.toNat ∧ v = .port p
        ⟨if r = 0 then .unused else if r = 1 then .robot else .camera, i0 ++ i1 ++ i2 ++ i3 ++ i4 ++ i5 ++ i6 ++ i7, slot,
         decide (w = 1)⟩ := by
  have fields : settingOf (.port p) [r, i0, i1, i2, i3, i4, i5, i6, i7, k, w] = (roleOf r).bind fun role =>
      (slotOf k.toNat).bind fun slot => (markOf w).map fun wake =>
        .port p ⟨role, BitVec.ofNat 64 (fromBytes [i0, i1, i2, i3, i4, i5, i6, i7]), slot, wake⟩ := rfl
  rw [fields, roleOf_eq, markOf_eq, identity_of_bytes]
  simp only [Option.bind_eq_some_iff, Option.map_eq_some_iff, Option.ite_none_right_eq_some, Option.some_inj, slotOf_iff]
  constructor
  · rintro ⟨-, ⟨role, rfl⟩, slot, same, -, ⟨mark, rfl⟩, rfl⟩
    exact ⟨role, mark, slot, same, rfl⟩
  · rintro ⟨role, mark, slot, same, rfl⟩
    exact ⟨_, ⟨role, rfl⟩, slot, same, _, ⟨mark, rfl⟩, rfl⟩

theorem settingOf_meter (p : Port) (t0 t1 t2 t3 g0 g1 g2 g3 i0 i1 i2 i3 : Byte) :
    settingOf (.meter p) [t0, t1, t2, t3, g0, g1, g2, g3, i0, i1, i2, i3] =
      some (.meter p ⟨t3 ++ t2 ++ t1 ++ t0, g3 ++ g2 ++ g1 ++ g0, i3 ++ i2 ++ i1 ++ i0⟩) := by
  rw [← word_of_bytes t0, ← word_of_bytes g0, ← word_of_bytes i0]
  rfl

theorem settingOf_badge (n : Fin 16) (b0 b1 b2 b3 r k e : Byte) (v : Setting) :
    settingOf (.badge n) [b0, b1, b2, b3, r, k, e] = some v ↔ 1 ≤ r.toNat ∧ r.toNat ≤ 3 ∧ e.toNat ≤ 1 ∧
      ∃ slot : Slot, slot.val = k.toNat ∧ v = .badge n
        ⟨b3 ++ b2 ++ b1 ++ b0, if r = 1 then .operator else if r = 2 then .technician else .supervisor, slot, decide (e = 1)⟩ := by
  have fields : settingOf (.badge n) [b0, b1, b2, b3, r, k, e] = (badgeRoleOf r).bind fun role =>
      (slotOf k.toNat).bind fun slot => (markOf e).map fun enabled =>
        .badge n ⟨BitVec.ofNat 32 (fromLe [b0, b1, b2, b3]), role, slot, enabled⟩ := rfl
  rw [fields, badgeRoleOf_eq, markOf_eq, word_of_bytes]
  simp only [Option.bind_eq_some_iff, Option.map_eq_some_iff, Option.ite_none_right_eq_some, Option.some_inj, slotOf_iff]
  constructor
  · rintro ⟨-, ⟨⟨low, high⟩, rfl⟩, slot, same, -, ⟨mark, rfl⟩, rfl⟩
    exact ⟨low, high, mark, slot, same, rfl⟩
  · rintro ⟨low, high, mark, slot, same, rfl⟩
    exact ⟨_, ⟨⟨low, high⟩, rfl⟩, slot, same, _, ⟨mark, rfl⟩, rfl⟩

theorem settingOf_key (k : Slot) {u : List Byte} (size : u.length = 16) : settingOf (.key k) u = some (.key k (blockOf u)) := by
  rw [settingOf, List.take_of_length_le size.le]

theorem supplyLow_iff (g : Byte) : [1, 2, 4, 8].contains g.toNat = true ↔ g = 1 ∨ g = 2 ∨ g = 4 ∨ g = 8 := by
  rw [List.contains_iff_mem]
  simp only [List.mem_cons, List.not_mem_nil, or_false]
  bv_omega

theorem limitsFit_iff (a b c d g : Byte) (period : Nat) : limitsFit ⟨a.toNat, b.toNat, c.toNat, d.toNat, period, g.toNat⟩ = true ↔
    a.toNat ≤ 15 ∧ b.toNat ≤ 31 ∧ 1 ≤ c.toNat ∧ c.toNat ≤ 60 ∧ 1 ≤ d.toNat ∧ d.toNat ≤ 120 ∧ 10 ≤ period ∧ period ≤ 600 ∧
      (g = 1 ∨ g = 2 ∨ g = 4 ∨ g = 8) := by
  simp only [limitsFit, Bool.and_eq_true, decide_eq_true_eq, supplyLow_iff, and_assoc]

theorem settingOf_limits (a b c d e f g : Byte) : settingOf .limits [a, b, c, d, e, f, g] =
    if a.toNat ≤ 15 ∧ b.toNat ≤ 31 ∧ 1 ≤ c.toNat ∧ c.toNat ≤ 60 ∧ 1 ≤ d.toNat ∧ d.toNat ≤ 120 ∧ 10 ≤ e.toNat + 256 * f.toNat ∧
        e.toNat + 256 * f.toNat ≤ 600 ∧ (g = 1 ∨ g = 2 ∨ g = 4 ∨ g = 8) then
      some (.limits ⟨a.toNat, b.toNat, c.toNat, d.toNat, e.toNat + 256 * f.toNat, g.toNat⟩)
    else none := by
  have fields : settingOf .limits [a, b, c, d, e, f, g] = guarded (limitsFit ⟨a.toNat, b.toNat, c.toNat, d.toNat, fromLe [e, f], g.toNat⟩)
      (.limits ⟨a.toNat, b.toNat, c.toNat, d.toNat, fromLe [e, f], g.toNat⟩) := rfl
  rw [fields, half_of_bytes, guarded_eq _ (limitsFit_iff a b c d g _)]

end Sys2Proof.Machine
end

section
/-! The LINE unit and its fifty bytes (R1, 11.2). -/

namespace Sys2Proof.Machine

/-! ### Lists of byte pairs -/

section
variable {α : Type} (f h : α → Byte)

/-- A list spelled as two bytes per entry. -/
def pairs (l : List α) : List Byte := l.flatMap fun a => [f a, h a]

theorem pairs_length (l : List α) : (pairs f h l).length = 2 * l.length := by
  induction l with
  | nil => rfl
  | cons a l ih =>
    change (pairs f h l).length + 1 + 1 = 2 * (l.length + 1)
    omega

theorem pairs_getD {l : List α} {i : Nat} (inside : i < l.length) :
    (pairs f h l).getD (2 * i) 0 = f l[i] ∧ (pairs f h l).getD (2 * i + 1) 0 = h l[i] := by
  induction l generalizing i with
  | nil => exact absurd inside (Nat.not_lt_zero i)
  | cons a l ih =>
    cases i with
    | zero => exact ⟨rfl, rfl⟩
    | succ i => exact ih (Nat.lt_of_succ_lt_succ inside)

end

/-! ### The bytes of a geometry -/

/-- R28, 11.2: a flags byte. -/
def flagsByte (required bypass : Bool) : Byte := markByte required ||| markByte bypass <<< 1

/-- R28, 11.2: the flags byte of a camera entry. -/
def Camera.flags (c : Camera) : Byte := flagsByte c.required c.bypass

/-- The windows of a geometry, two bytes each. -/
def Geometry.windowBytes (g : Geometry) : List Byte :=
  pairs (fun w : Window => BitVec.ofNat 8 w.first) (fun w => BitVec.ofNat 8 w.last) g.windows.toList

/-- The camera entries of a geometry, two bytes each. -/
def Geometry.cameraBytes (g : Geometry) : List Byte :=
  pairs (fun c : Camera => BitVec.ofNat 8 c.offset) Camera.flags g.cameras.toList

section
variable (g : Geometry)

theorem Geometry.bytes_eq : g.bytes = [BitVec.ofNat 8 g.gate, BitVec.ofNat 8 g.divider] ++ g.windowBytes ++ g.cameraBytes := rfl

theorem Geometry.windowBytes_length : g.windowBytes.length = 24 := by
  rw [Geometry.windowBytes, pairs_length, Vector.length_toList]

theorem Geometry.cameraBytes_length : g.cameraBytes.length = 24 := by
  rw [Geometry.cameraBytes, pairs_length, Vector.length_toList]

theorem Geometry.bytes_length : g.bytes.length = 50 := by
  rw [Geometry.bytes_eq, List.length_append, List.length_append, windowBytes_length, cameraBytes_length]
  rfl

theorem Geometry.byteAt_window {k : Nat} (inside : k < 24) : byteAt g.bytes (2 + k) = g.windowBytes.getD k 0 := by
  have size := g.windowBytes_length
  have left : 2 + k < ([BitVec.ofNat 8 g.gate, BitVec.ofNat 8 g.divider] ++ g.windowBytes).length := by
    rw [List.length_append, size, List.length_cons, List.length_cons, List.length_nil]
    omega
  rw [byteAt, Geometry.bytes_eq, List.getD_append _ _ _ _ left, List.getD_append_right _ _ _ _ (by simp)]
  simp

theorem Geometry.byteAt_camera (k : Nat) : byteAt g.bytes (26 + k) = g.cameraBytes.getD k 0 := by
  have size : ([BitVec.ofNat 8 g.gate, BitVec.ofNat 8 g.divider] ++ g.windowBytes).length = 26 := by
    rw [List.length_append, g.windowBytes_length]
    rfl
  rw [byteAt, Geometry.bytes_eq, List.getD_append_right _ _ _ _ (by rw [size]; omega), size, Nat.add_sub_cancel_left]

theorem Geometry.byteAt_windowOf (p : Port) : byteAt g.bytes (2 + 2 * p.val) = BitVec.ofNat 8 g.windows[p].first ∧
    byteAt g.bytes (3 + 2 * p.val) = BitVec.ofNat 8 g.windows[p].last := by
  obtain ⟨first, last⟩ := pairs_getD (fun w : Window => BitVec.ofNat 8 w.first) (fun w => BitVec.ofNat 8 w.last)
    (l := g.windows.toList) (i := p.val) (by rw [Vector.length_toList]; exact p.isLt)
  have next : 3 + 2 * p.val = 2 + (2 * p.val + 1) := by omega
  rw [next, g.byteAt_window (by omega), g.byteAt_window (by omega)]
  exact ⟨first, last⟩

theorem Geometry.byteAt_cameraOf (p : Port) : byteAt g.bytes (26 + 2 * p.val) = BitVec.ofNat 8 g.cameras[p].offset ∧
    byteAt g.bytes (27 + 2 * p.val) = g.cameras[p].flags := by
  obtain ⟨offset, flags⟩ := pairs_getD (fun c : Camera => BitVec.ofNat 8 c.offset) Camera.flags
    (l := g.cameras.toList) (i := p.val) (by rw [Vector.length_toList]; exact p.isLt)
  have next : 27 + 2 * p.val = 26 + (2 * p.val + 1) := by omega
  rw [next, g.byteAt_camera, g.byteAt_camera]
  exact ⟨offset, flags⟩

end

/-! ### Reading a geometry from its bytes -/

theorem flagsByte_bits : ∀ required bypass : Bool, (flagsByte required bypass).toNat < 4 ∧
    (flagsByte required bypass).getLsbD 0 = required ∧ (flagsByte required bypass).getLsbD 1 = bypass := by decide

theorem Camera.flags_small (c : Camera) : c.flags.toNat < 4 ∧ c.flags.getLsbD 0 = c.required ∧ c.flags.getLsbD 1 = c.bypass :=
  flagsByte_bits c.required c.bypass

theorem flags_of_bits {b : Byte} (small : b.toNat < 4) : flagsByte (b.getLsbD 0) (b.getLsbD 1) = b := by
  have values : b = 0 ∨ b = 1 ∨ b = 2 ∨ b = 3 := by bv_omega
  rcases values with rfl | rfl | rfl | rfl <;> decide

theorem flagsFit_iff {u : List Byte} : flagsFit u = true ↔ ∀ p : Port, (byteAt u (27 + 2 * p.val)).toNat < 4 := by
  simp only [flagsFit, List.all_eq_true, List.mem_range, decide_eq_true_eq]
  exact ⟨fun all p => all p.val p.isLt, fun all i inside => all ⟨i, inside⟩⟩

theorem flagsFit_bytes (g : Geometry) : flagsFit g.bytes = true := by
  refine flagsFit_iff.mpr fun p => ?_
  rw [(g.byteAt_cameraOf p).2]
  exact (Camera.flags_small _).1

theorem ofNat_byte (b : Byte) : BitVec.ofNat 8 b.toNat = b := by
  rw [BitVec.ofNat_toNat, BitVec.setWidth_eq]

theorem byte_ofNat {n : Nat} (small : n < 256) : (BitVec.ofNat 8 n).toNat = n := by
  rw [BitVec.toNat_ofNat, Nat.mod_eq_of_lt small]

section
variable {u : List Byte}

theorem geometryOf_window (p : Port) :
    (geometryOf u).windows[p] = ⟨(byteAt u (2 + 2 * p.val)).toNat, (byteAt u (3 + 2 * p.val)).toNat⟩ := by
  simp [geometryOf]

theorem geometryOf_camera (p : Port) : (geometryOf u).cameras[p] = ⟨(byteAt u (26 + 2 * p.val)).toNat,
    (byteAt u (27 + 2 * p.val)).getLsbD 0, (byteAt u (27 + 2 * p.val)).getLsbD 1⟩ := by
  simp [geometryOf]

/-- 11.2: the bytes of the geometry that fifty bytes spell are those bytes, where every flags byte is in range. -/
theorem geometryOf_bytes (size : u.length = 50) (flags : flagsFit u = true) : (geometryOf u).bytes = u := by
  refine List.ext_getElem ((geometryOf u).bytes_length.trans size.symm) fun k inside inside' => ?_
  rw [← List.getD_eq_getElem _ 0 inside, ← List.getD_eq_getElem _ 0 inside']
  change byteAt (geometryOf u).bytes k = byteAt u k
  rw [size] at inside'
  have place : k = 0 ∨ k = 1 ∨ (∃ p : Port, k = 2 + 2 * p.val) ∨ (∃ p : Port, k = 3 + 2 * p.val) ∨
      (∃ p : Port, k = 26 + 2 * p.val) ∨ ∃ p : Port, k = 27 + 2 * p.val := by
    rcases Nat.lt_or_ge k 2 with low | high
    · omega
    · rcases Nat.lt_or_ge k 26 with window | camera
      · have half : (k - 2) / 2 < 12 := by omega
        rcases Nat.mod_two_eq_zero_or_one k with even | odd
        · exact .inr (.inr (.inl ⟨⟨(k - 2) / 2, half⟩, by simp only; omega⟩))
        · exact .inr (.inr (.inr (.inl ⟨⟨(k - 2) / 2, half⟩, by simp only; omega⟩)))
      · have half : (k - 26) / 2 < 12 := by omega
        rcases Nat.mod_two_eq_zero_or_one k with even | odd
        · exact .inr (.inr (.inr (.inr (.inl ⟨⟨(k - 26) / 2, half⟩, by simp only; omega⟩))))
        · exact .inr (.inr (.inr (.inr (.inr ⟨⟨(k - 26) / 2, half⟩, by simp only; omega⟩))))
  rcases place with rfl | rfl | ⟨p, rfl⟩ | ⟨p, rfl⟩ | ⟨p, rfl⟩ | ⟨p, rfl⟩
  · exact ofNat_byte _
  · exact ofNat_byte _
  · rw [((geometryOf u).byteAt_windowOf p).1, geometryOf_window, ofNat_byte]
  · rw [((geometryOf u).byteAt_windowOf p).2, geometryOf_window, ofNat_byte]
  · rw [((geometryOf u).byteAt_cameraOf p).1, geometryOf_camera, ofNat_byte]
  · rw [((geometryOf u).byteAt_cameraOf p).2, geometryOf_camera]
    exact flags_of_bits (flagsFit_iff.mp flags p)

end

/-- The values of a geometry that one byte each can hold. -/
structure Geometry.small (g : Geometry) : Prop where
  gate : g.gate < 256
  divider : g.divider < 256
  windows : ∀ p : Port, g.windows[p].first < 256 ∧ g.windows[p].last < 256
  cameras : ∀ p : Port, g.cameras[p].offset < 256

/-- 11.2: a geometry of small values is what its bytes spell. -/
theorem Geometry.small.read {g : Geometry} (small : g.small) : geometryOf g.bytes = g := by
  have windows : (geometryOf g.bytes).windows = g.windows := by
    refine Vector.ext fun i inside => ?_
    refine (geometryOf_window ⟨i, inside⟩).trans ?_
    rw [(g.byteAt_windowOf ⟨i, inside⟩).1, (g.byteAt_windowOf ⟨i, inside⟩).2, byte_ofNat (small.windows ⟨i, inside⟩).1,
      byte_ofNat (small.windows ⟨i, inside⟩).2]
    rfl
  have cameras : (geometryOf g.bytes).cameras = g.cameras := by
    refine Vector.ext fun i inside => ?_
    obtain ⟨-, required, bypass⟩ := Camera.flags_small g.cameras[(⟨i, inside⟩ : Port)]
    refine (geometryOf_camera ⟨i, inside⟩).trans ?_
    rw [(g.byteAt_cameraOf ⟨i, inside⟩).1, (g.byteAt_cameraOf ⟨i, inside⟩).2, byte_ofNat (small.cameras ⟨i, inside⟩), required, bypass]
    rfl
  calc geometryOf g.bytes = ⟨(BitVec.ofNat 8 g.gate).toNat, (BitVec.ofNat 8 g.divider).toNat, (geometryOf g.bytes).windows,
        (geometryOf g.bytes).cameras⟩ := rfl
    _ = g := by rw [byte_ofNat small.gate, byte_ofNat small.divider, windows, cameras]

/-! ### The ranges of LINE (R1) -/

theorem all_toList {α : Type} {n : Nat} (v : Vector α n) (f : α → Bool) : v.toList.all f = true ↔ ∀ i : Fin n, f v[i] = true := by
  rw [List.all_eq_true]
  constructor
  · intro all i
    exact all _ (by simp)
  · intro all a mem
    obtain ⟨i, inside, rfl⟩ := List.getElem_of_mem mem
    rw [Vector.length_toList] at inside
    exact all ⟨i, inside⟩

theorem windowFits_iff {n : Nat} {w : Window} : windowFits n w = true ↔ w = ⟨0, 0⟩ ∨ 1 ≤ w.first ∧ w.first ≤ w.last ∧ w.last < n := by
  obtain ⟨first, last⟩ := w
  simp [windowFits]

theorem cameraFits_iff {n : Nat} {c : Camera} : cameraFits n c = true ↔ c.offset = 0 ∨ 1 ≤ c.offset ∧ c.offset < n := decide_eq_true_iff

theorem geometryFits_iff {g : Geometry} : geometryFits g = true ↔ 4 ≤ g.gate ∧ g.gate ≤ 90 ∧ 1 ≤ g.divider ∧ g.divider ≤ 64 ∧
    ∀ p : Port, (g.windows[p] = ⟨0, 0⟩ ∨
        1 ≤ g.windows[p].first ∧ g.windows[p].first ≤ g.windows[p].last ∧ g.windows[p].last < g.gate) ∧
      (g.cameras[p].offset = 0 ∨ 1 ≤ g.cameras[p].offset ∧ g.cameras[p].offset < g.gate) := by
  simp only [geometryFits, Bool.and_eq_true, decide_eq_true_eq, all_toList, windowFits_iff, cameraFits_iff, and_assoc, forall_and]

theorem geometryFits_small {g : Geometry} (fits : geometryFits g = true) : g.small := by
  obtain ⟨-, gate, -, divider, ports⟩ := geometryFits_iff.mp fits
  refine ⟨by omega, by omega, fun p => ?_, fun p => ?_⟩
  · rcases (ports p).1 with free | ⟨-, order, last⟩
    · rw [free]
      decide
    · omega
  · rcases (ports p).2 with free | ⟨-, offset⟩ <;> omega

theorem settingOf_line_iff {u : List Byte} (size : u.length = 50) (g : Geometry) :
    settingOf .line u = some (.line g) ↔ g.bytes = u ∧ geometryFits g = true := by
  have fields : settingOf .line u = if geometryFits (geometryOf u) = true ∧ flagsFit u = true then some (.line (geometryOf u)) else none :=
    guarded_eq _ (Bool.and_eq_true_iff)
  rw [fields]
  constructor
  · intro spelled
    obtain ⟨⟨fits, flags⟩, same⟩ := Option.ite_none_right_eq_some.mp spelled
    obtain rfl := Setting.line.inj (Option.some_inj.mp same)
    exact ⟨geometryOf_bytes size flags, fits⟩
  · rintro ⟨rfl, fits⟩
    rw [(geometryFits_small fits).read, if_pos ⟨fits, flagsFit_bytes g⟩]

/-- Settles O56: the ranges of each section. -/
theorem settingsAreInRange : Obligations.SettingsAreInRange := by
  unfold Obligations.SettingsAreInRange
  exact ⟨settingOf_feed, settingOf_port, settingOf_meter, settingOf_badge, fun k u => settingOf_key k, settingOf_limits,
    fun u g size => (settingOf_line_iff size g).trans (and_congr_right' geometryFits_iff)⟩

end Sys2Proof.Machine
end

section
/-! SETTING READ and SETTING WRITE (R84, R107, R120, R128, R169, R171): the settling of SettingsAreReadAndWritten. -/

namespace Sys2Proof.Machine

/-! ### The units (R168) -/

theorem slotOf_val (k : Slot) : slotOf k.val = some k := slotOf_iff.mpr rfl

theorem unitOf_badge (k : Fin 16) : unitOf 4 k.val = some (.badge k) := dif_pos k.isLt

theorem unitOf_other {a : Nat} (other : 6 < a) (i : Nat) : unitOf a i = none := by
  obtain ⟨k, rfl⟩ : ∃ k, a = k + 7 := ⟨a - 7, by omega⟩
  rfl

theorem unitOf_none {a i : Byte} (outside : 6 < a.toNat ∨ ((a = 0 ∨ a = 6) ∧ i ≠ 0) ∨ (a = 1 ∧ ¬ (1 ≤ i.toNat ∧ i.toNat ≤ 4)) ∨
    ((a = 2 ∨ a = 3) ∧ ¬ (1 ≤ i.toNat ∧ i.toNat ≤ 12)) ∨ (a = 4 ∧ 15 < i.toNat) ∨ (a = 5 ∧ 7 < i.toNat)) :
    unitOf a.toNat i.toNat = none := by
  rcases outside with other | ⟨which, beyond⟩ | ⟨rfl, beyond⟩ | ⟨which, beyond⟩ | ⟨rfl, beyond⟩ | ⟨rfl, beyond⟩
  · exact unitOf_other other _
  · have nonzero : i.toNat ≠ 0 := by bv_omega
    rcases which with rfl | rfl
    · exact if_neg nonzero
    · exact if_neg nonzero
  · exact congrArg (Option.map UnitRef.feed) (feedOf_outside beyond)
  · rcases which with rfl | rfl
    · exact congrArg (Option.map UnitRef.port) (portOf_outside beyond)
    · exact congrArg (Option.map UnitRef.meter) (portOf_outside beyond)
  · exact dif_neg (Nat.not_lt.mpr beyond)
  · exact congrArg (Option.map UnitRef.key) (dif_neg (Nat.not_lt.mpr beyond))

/-- The section of a unit is the one that names it. -/
theorem unitOf_area {a i : Nat} {r : UnitRef} (named : unitOf a i = some r) : r.area.val = a := by
  match a, named with
  | 0, named | 6, named =>
    obtain ⟨-, same⟩ := Option.ite_none_right_eq_some.mp named
    obtain rfl := Option.some_inj.mp same
    rfl
  | 1, named | 2, named | 3, named | 5, named =>
    obtain ⟨k, -, rfl⟩ := Option.map_eq_some_iff.mp named
    rfl
  | 4, named =>
    obtain ⟨inside, same⟩ := Option.dite_none_right_eq_some.mp named
    obtain rfl := Option.some_inj.mp same
    rfl

/-! ### SETTING READ (R171) -/

section
variable {s : State} {tag a i : Byte} (serves : s.part.serves .settingRead)
include serves

theorem gives_unit {r : UnitRef} (named : unitOf a.toNat i.toNat = some r) : Gives (.settingReadSection tag [0, a, i]) s
    (s.part.answered .settingRead tag [0, a, i] .done (sectionContent s.part.nvs r)) := by
  refine gives_of_serve rfl serves rfl (by decide : 3 ≤ 248) ?_
  refine Eq.trans (b := orBadValue _ (unitOf a.toNat i.toNat) _ _) rfl ?_
  rw [named, orBadValue_some]
  exact replyWith_entered serves.below _ _ _ _

theorem gives_noUnit (outside : unitOf a.toNat i.toNat = none) : Gives (.settingReadSection tag [0, a, i]) s
    (s.part.answered .settingRead tag [0, a, i] .badValue []) := by
  refine gives_of_serve rfl serves rfl (by decide : 3 ≤ 248) ?_
  refine Eq.trans (b := orBadValue _ (unitOf a.toNat i.toNat) _ _) rfl ?_
  rw [outside, orBadValue_none]
  exact reply_entered serves.below _ _ _ _

theorem gives_otherSelector {sel : Byte} (other : 1 < sel.toNat) : Gives (.settingReadSection tag [sel, a, i]) s
    (s.part.answered .settingRead tag [sel, a, i] .badValue []) := by
  refine gives_of_serve rfl serves rfl (by decide : 3 ≤ 248) ?_
  obtain ⟨k, two⟩ : ∃ k, sel.toNat = k + 2 := ⟨sel.toNat - 2, by omega⟩
  rw [serveSettingRead, show byteAt [sel, a, i] 0 = sel from rfl, two]
  exact reply_entered serves.below _ _ _ _

theorem gives_protection : Gives (.settingReadProtection tag [1, a, i]) s
    (s.part.answered .settingRead tag [1, a, i] .done (protectionContent s.part.nvs)) :=
  gives_of_serve rfl serves rfl (by decide : 3 ≤ 248) (replyWith_entered serves.below _ _ _ _)

end

theorem findSome?_eq_find? {α β : Type} (f : α → Option β) (l : List α) :
    l.findSome? f = (l.find? fun a => (f a).isSome).bind f := by
  induction l with
  | nil => rfl
  | cons a l ih =>
    cases first : f a with
    | none => rw [List.findSome?_cons_of_isNone (by rw [first]; rfl), List.find?_cons_of_neg (by rw [first]; exact Bool.false_ne_true), ih]
    | some b => rw [List.findSome?_cons_of_isSome (by rw [first]; rfl), List.find?_cons_of_pos (by rw [first]; rfl), Option.bind_some]

/-- R171: the last byte of a PROTECTION read is the value of the oldest BOUNDARY job, or 0xFF. -/
theorem protectionContent_eq {n : Nvs} {v : Byte} (idle : (∀ j ∈ n.jobs, Job.boundary? j = none) → v = 0xFF)
    (waiting : ∀ j w, n.jobs.find? (fun j => (Job.boundary? j).isSome) = some j → Job.boundary? j = some w → v = BitVec.ofNat 8 w) :
    protectionContent n = [bitsByte n.sectionLocks.toList, bitsByte n.slotLocks.toList, markByte n.frozen,
      BitVec.ofNat 8 n.boundary, BitVec.ofNat 8 n.activeBoundary, v] := by
  cases asked : n.jobs.findSome? Job.boundary? with
  | none =>
    rw [idle (List.findSome?_eq_none_iff.mp asked), protectionContent, asked]
  | some w =>
    have first := asked
    rw [findSome?_eq_find?] at first
    obtain ⟨j, found, value⟩ := Option.bind_eq_some_iff.mp first
    rw [waiting j w found value, protectionContent, asked]

/-! ### SETTING WRITE (R169) -/

section
variable {s : Part} {h : Nat} {r : UnitRef} {u : List Byte}

theorem writeUnit_outside (outside : settingOf r u = none) : writeUnit h r u s = reply h .badValue s := by
  rw [writeUnit, outside]
  rfl

variable {c : Setting} (spelled : settingOf r u = some c)
include spelled

theorem writeUnit_broken (broken : sectionRules s.nvs c = false) : writeUnit h r u s = reply h .badValue s := by
  rw [writeUnit, spelled, Option.filter_some_neg broken, orBadValue_none]

theorem writeUnit_checked (fits : sectionRules s.nvs c = true) : writeUnit h r u s =
    check h (!s.nvs.sectionLocked r && !s.nvs.slotLocked r) .locked (queueOrFull h (.setting c)) s := by
  rw [writeUnit, spelled, Option.filter_some_pos fits, orBadValue_some]

end

theorem unlocked_iff {n : Nvs} {r : UnitRef} : (!n.sectionLocked r && !n.slotLocked r) = true ↔
    ¬ (n.sectionLocks[r.area] = true ∨ ∃ k : Slot, r = .key k ∧ n.slotLocks[k] = true) := by
  have slot : n.slotLocked r = true ↔ ∃ k : Slot, r = .key k ∧ n.slotLocks[k] = true := by
    cases r <;> simp [Nvs.slotLocked, -Fin.getElem_fin]
  rw [← slot, Bool.and_eq_true, Bool.not_eq_true', Bool.not_eq_true', not_or, Bool.not_eq_true, Bool.not_eq_true]
  rfl

/-- R128, R169: who may write a unit, in the session named, if one is. -/
def Nvs.mayWrite (n : Nvs) (r : UnitRef) (session : Option Session) : Prop :=
  ¬ n.activeBoundary ≤ r.area.val ∨ ∃ x, session = some x ∧ x.role = .supervisor

theorem writeRoles_iff {n : Nvs} {r : UnitRef} {x : Session} : writeRoles n (some r) x.role = true ↔ n.mayWrite r (some x) := by
  have guard : n.guarded r = true ↔ n.activeBoundary ≤ r.area.val := decide_eq_true_iff
  rw [writeRoles, Nvs.mayWrite, ← guard]
  by_cases guarded : n.guarded r = true
  · simp [guarded, supervisorOnly_eq]
  · simp [guarded, anyRole]

theorem serveSettingWrite_eq (num a i : Byte) (u : List Byte) (h : Nat) (s : Part) : serveSettingWrite (num :: a :: i :: u) h s =
    if num = 0 then
      orBadValue h (unitOf a.toNat i.toNat) (fun r => check h (!s.nvs.guarded r) .noSession (writeUnit h r u)) s
    else withSession h num (writeRoles s.nvs (unitOf a.toNat i.toNat))
      (fun _ => orBadValue h (unitOf a.toNat i.toNat) fun r => writeUnit h r u) s := rfl

/-- R128: the part with the idle timer restarted of the session that a number names, if it names one. -/
def Part.asked (s : Part) (num : Byte) : Part := if num = 0 then s else s.withIdle num

theorem asked_hlc (s : Part) (num : Byte) : (s.asked num).hlc = s.hlc := by
  rw [Part.asked]
  split <;> rfl

theorem asked_nvs (s : Part) (num : Byte) : (s.asked num).nvs = s.nvs := by
  rw [Part.asked]
  split <;> rfl

section
variable {s : Part} {tag num a i : Byte} {u : List Byte} {session : Option Session} {h : Nat}

/-- R169: the writer is nobody, under number 0, or the session that the number names. -/
def Part.writer (s : Part) (num : Byte) (session : Option Session) : Prop :=
  num = 0 ∧ session = none ∨ ∃ x, session = some x ∧ s.inSession num x

section
variable {r : UnitRef} (named : unitOf a.toNat i.toNat = some r) (guard : s.nvs.activeBoundary ≤ r.area.val)
include named guard

theorem serveSettingWrite_nobody : serveSettingWrite (0 :: a :: i :: u) h (s.entered .settingWrite tag (0 :: a :: i :: u)) =
    reply h .noSession (s.entered .settingWrite tag (0 :: a :: i :: u)) := by
  have guarded : (s.entered .settingWrite tag (0 :: a :: i :: u)).nvs.guarded r = true := decide_eq_true guard
  rw [serveSettingWrite_eq, named, if_pos rfl, orBadValue_some, guarded]
  rfl

theorem serveSettingWrite_denied {x : Session} (open' : s.inSession num x) (role : x.role ≠ .supervisor) :
    serveSettingWrite (num :: a :: i :: u) h (s.entered .settingWrite tag (num :: a :: i :: u)) =
      reply h .notPermitted (s.entered .settingWrite tag (num :: a :: i :: u)) := by
  have denied : writeRoles s.nvs (some r) x.role = false := by
    refine Bool.eq_false_iff.mpr fun permits => ?_
    rcases writeRoles_iff.mp permits with free | ⟨y, same, supervisor⟩
    · exact free guard
    · exact role (Option.some_inj.mp same ▸ supervisor)
  rw [serveSettingWrite_eq, named, if_neg open'.1]
  exact withSession_denied _ _ _ _ _ x (session_some (s := s) open') denied

end

variable (who : s.writer num session)
include who

theorem serveSettingWrite_noUnit (outside : unitOf a.toNat i.toNat = none) :
    serveSettingWrite (num :: a :: i :: u) h (s.entered .settingWrite tag (num :: a :: i :: u)) =
      reply h .badValue ((s.asked num).entered .settingWrite tag (num :: a :: i :: u)) := by
  rw [serveSettingWrite_eq, outside]
  rcases who with ⟨rfl, -⟩ | ⟨x, -, session⟩
  · rfl
  · rw [if_neg session.1, withSession_accepts session rfl, Part.asked, if_neg session.1]
    rfl

theorem serveSettingWrite_unit {r : UnitRef} (named : unitOf a.toNat i.toNat = some r) (may : s.nvs.mayWrite r session) :
    serveSettingWrite (num :: a :: i :: u) h (s.entered .settingWrite tag (num :: a :: i :: u)) =
      writeUnit h r u ((s.asked num).entered .settingWrite tag (num :: a :: i :: u)) := by
  rw [serveSettingWrite_eq, named]
  rcases who with ⟨rfl, rfl⟩ | ⟨x, rfl, session⟩
  · have open' : s.nvs.guarded r = false := by
      rcases may with free | ⟨x, none, -⟩
      · exact decide_eq_false free
      · exact nomatch none
    rw [if_pos rfl, orBadValue_some, show (s.entered .settingWrite tag (0 :: a :: i :: u)).nvs.guarded r = false from open']
    rfl
  · rw [if_neg session.1, Part.asked, if_neg session.1]
    exact withSession_accepts session (f := writeRoles s.nvs (some r)) (writeRoles_iff.mpr may) h _ .settingWrite tag _

end

/-! ### The section rules (R84, R120) -/

theorem portsFit_iff {v : Vector PortCfg 12} : portsFit v = true ↔
    v.toList.countP (·.role == .robot) ≤ 8 ∧ v.toList.countP (·.role == .camera) ≤ 6 := by
  rw [portsFit, Bool.and_eq_true, decide_eq_true_iff, decide_eq_true_iff]

theorem badgesFit_iff {v : Vector BadgeRec 16} : badgesFit v = true ↔
    ∀ j k : Fin 16, j ≠ k → v[j].badge = v[k].badge → v[j].badge = 0 := by
  rw [badgesFit, decide_eq_true_iff, List.Nodup, List.pairwise_filter, List.pairwise_map, List.pairwise_iff_getElem]
  constructor
  · intro apart j k other same
    by_contra nonzero
    rcases Nat.lt_or_gt_of_ne (fun eq => other (Fin.ext eq)) with before | after
    · exact apart j.val k.val (by simp) (by simp) before (by simpa using nonzero) (by simpa using same ▸ nonzero) (by simpa using same)
    · exact apart k.val j.val (by simp) (by simp) after (by simpa using same ▸ nonzero) (by simpa using nonzero) (by simpa using same.symm)
  · intro rule j k hj hk before nonzero _ same
    rw [Vector.length_toList] at hj hk
    have zero := rule ⟨j, hj⟩ ⟨k, hk⟩ (fun eq => Nat.ne_of_lt before (Fin.val_eq_of_eq eq)) (by simpa using same)
    exact absurd zero (by simpa using nonzero)

/-- Settles O55: the units and the protection read, and the checks of a write in order. -/
theorem settingsAreReadAndWritten : Obligations.SettingsAreReadAndWritten := by
  unfold Obligations.SettingsAreReadAndWritten
  refine ⟨fun tag a i s serves => ?_, fun tag num a i u s => ?_, fun tag num a i u session s => ?_, fun n p i c b =>
    ⟨portsFit_iff, badgesFit_iff⟩⟩
  · intro n c shows refused
    refine ⟨fun area index => gives_unit (r := .line) serves (by rw [area, index]; rfl),
      fun f area index => gives_unit (r := .feed f) serves (by rw [area, index]; exact congrArg (Option.map UnitRef.feed) (feedOf_number f)),
      fun p area index => gives_unit (r := .port p) serves (by rw [area, index]; exact congrArg (Option.map UnitRef.port) (portOf_number p)),
      fun p area index => gives_unit (r := .meter p) serves (by rw [area, index]; exact congrArg (Option.map UnitRef.meter) (portOf_number p)),
      fun k area index => gives_unit (r := .badge k) serves (by rw [area, index]; exact unitOf_badge k),
      fun k area index => gives_unit (r := .key k) serves (by rw [area, index]; exact congrArg (Option.map UnitRef.key) (slotOf_val k)),
      fun area index => gives_unit (r := .limits) serves (by rw [area, index]; rfl),
      fun outside => gives_noUnit serves (unitOf_none outside), fun sel other => gives_otherSelector serves other, ?_⟩
    intro bits v idle waiting
    have content := protectionContent_eq idle waiting
    have read := gives_protection (tag := tag) (a := a) (i := i) serves
    rw [content] at read
    exact read
  · intro d size fits serves numbered unopened
    refine gives_of_serve rfl serves fits size ?_
    refine (serveSettingWrite_eq num a i u _ _).trans ((if_neg numbered).trans ?_)
    exact (withSession_none _ num _ _ (s.part.entered .settingWrite tag d) (session_none (.inr unopened))).trans
      (reply_entered (s := s.part) serves.below .settingWrite tag d .noSession)
  · intro d n size fits serves who q refused
    have below : q.hlc.handlesBelow := by
      rw [show q.hlc = s.part.hlc from asked_hlc s.part num]
      exact serves.below
    have handle : q.hlc.nextHandle = s.part.hlc.nextHandle := congrArg Hlc.nextHandle (asked_hlc s.part num)
    have store : q.nvs = n := asked_nvs s.part num
    have give {t : Part} (served : serveSettingWrite d q.hlc.nextHandle (s.part.entered .settingWrite tag d) = t) :
        Gives (.settingWrite tag d) s t := by
      refine gives_of_serve rfl serves fits size ?_
      rw [← handle]
      exact served
    have answer {code : Code} : reply q.hlc.nextHandle code (q.entered .settingWrite tag d) = q.answered .settingWrite tag d code [] :=
      reply_entered below .settingWrite tag d code
    refine ⟨fun outside => give ((serveSettingWrite_noUnit who outside).trans answer), fun r named => ?_⟩
    intro guardedArea permitted locked
    have mayWrite : permitted ↔ n.mayWrite r session := by rw [Nvs.mayWrite, unitOf_area named]
    have writes {t : Part} (may : permitted) (written : writeUnit q.hlc.nextHandle r u (q.entered .settingWrite tag d) = t) :
        Gives (.settingWrite tag d) s t := give ((serveSettingWrite_unit who named (mayWrite.mp may)).trans written)
    refine ⟨fun guard nobody => ?_, fun x guard is role => ?_, fun may outside => writes may ((writeUnit_outside outside).trans answer),
      fun c may spelled => ?_⟩
    · rcases who with ⟨rfl, -⟩ | ⟨x, is, -⟩
      · exact give ((serveSettingWrite_nobody (s := s.part) named (unitOf_area named ▸ guard)).trans answer)
      · exact nomatch nobody.symm.trans is
    · rcases who with ⟨-, none⟩ | ⟨y, is', session⟩
      · exact nomatch none.symm.trans is
      · obtain rfl := Option.some_inj.mp (is'.symm.trans is)
        refine gives_of_serve rfl serves fits size ?_
        exact (serveSettingWrite_denied (s := s.part) named (unitOf_area named ▸ guard) session role).trans
          (reply_entered serves.below .settingWrite tag d .notPermitted)
    · have rules : sectionRules (q.entered .settingWrite tag d).nvs c = sectionRules n c := congrArg (sectionRules · c) store
      have free : (!(q.entered .settingWrite tag d).nvs.sectionLocked r && !(q.entered .settingWrite tag d).nvs.slotLocked r) = true ↔
          ¬ locked := by
        rw [show (q.entered .settingWrite tag d).nvs = n from store]
        exact unlocked_iff
      have checked (fits : sectionRules n c = true) := writeUnit_checked (h := q.hlc.nextHandle) (s := q.entered .settingWrite tag d) spelled
        (rules.trans fits)
      have queues (fits : sectionRules n c = true) (unlocked : ¬ locked) :
          writeUnit q.hlc.nextHandle r u (q.entered .settingWrite tag d) =
            if n.queue.length < 8 then (q.entered .settingWrite tag d).queued (.setting c) [s.part.hlc.nextHandle]
            else q.answered .settingWrite tag d .full [] := by
        rw [checked fits, free.mpr unlocked, check_true, queueOrFull_entered below, store, handle]
      refine ⟨fun broken => writes may ((writeUnit_broken spelled (rules.trans broken)).trans answer),
        fun fits set => writes may ((checked fits).trans ?_), fun fits unlocked full => writes may ((queues fits unlocked).trans ?_),
        fun fits unlocked room => writes may ((queues fits unlocked).trans (if_pos room))⟩
      · rw [Bool.eq_false_iff.mpr (mt free.mp (not_not.mpr set)), check_false]
        exact answer
      · exact if_neg (Nat.not_lt.mpr full)

end Sys2Proof.Machine
end
